-- ==== Sys2Proof/Word.lean ====
section
/-! DEFINITION. The byte and text types of the PK-360 (spec/11, R201). -/

namespace Sys2Proof

/-- One byte of a frame. -/
abbrev Byte := BitVec 8

/-- A text field: one ASCII byte per character, padded on the right with spaces (spec/00 3.6, R201). -/
abbrev Text := List Byte

end Sys2Proof
end

