-- ==== Sys2Proof/Syntax.lean ====
section
/-! DEFINITION. The commands of the PK-360: one constructor of `Instr` for each row of spec/opcode_table.json, and the
types of their operands. Host requests carry their tag and their fields as the frame body holds them (R201, R203):
an enumeration or a flag is its code, so that a code outside the field's range can be sent and refused. -/

namespace Sys2Proof

/-! ### Names shared by the blocks -/

/-- The role of a station, in the order of its codes (R201). -/
inductive Role where
  | off | chest | tare | feed
  deriving DecidableEq, Repr

/-- The state of a station, in the order of its codes (R201). -/
inductive StationState where
  | off | noSignal | starting | empty | loaded | decided | overload | active
  deriving DecidableEq, Repr

/-- The outcome of a decision record, in the order of its codes (R201). -/
inductive DecisionOutcome where
  | none | light | heavy | noInvoice | appending | accepted | surplus | tareTaken | tareReject
  deriving DecidableEq, Repr

/-- The stencil status of a chest, in the order of its codes (R201). -/
inductive StencilStatus where
  | none | pending | marking | marked | missed | abandoned
  deriving DecidableEq, Repr

/-- The state of a head channel (spec/06 6.4). -/
inductive HeadState where
  | idle | streaming | lineWait | held | stopped | off
  deriving DecidableEq, Repr

/-- The resume point of a held channel (R133): mid-line, at line end, or none. -/
inductive ResumePoint where
  | midLine (line remaining : Nat)
  | atLineEnd (line : Nat)
  | none
  deriving DecidableEq, Repr

/-- The kind of an action set, in the order of its codes (R201). -/
inductive ActionKind where
  | stencil | gate | notice | sample
  deriving DecidableEq, Repr

/-- What expiry does to an action set (R106). -/
inductive SetMode where
  | normal | repeats
  deriving DecidableEq, Repr

/-- Why a run stalled (R57). -/
inductive StallReason where
  | noFlow | signal
  deriving DecidableEq, Repr

/-- Why a STENCIL action's job was refused (R124). -/
inductive MissReason where
  | duplicate | full
  deriving DecidableEq, Repr

/-- Why a job was dropped when taken (R129). -/
inductive DropReason where
  | empty | gone
  deriving DecidableEq, Repr

/-- The key of a delayed-answer slot: its kind and object (spec/09 9.8). -/
inductive SlotKey where
  | capture (station : Fin 4)
  | fetch (invoice : Nat)
  deriving DecidableEq, Repr

/-- The outcome of a READY slot, in the order of its codes (R201). -/
inductive SlotOutcome where
  | answer | timeout | gone
  deriving DecidableEq, Repr

/-- The form of a restart (R192). -/
inductive RestartForm where
  | warm | cold
  deriving DecidableEq, Repr

/-- A calendar date. -/
structure Date where
  year : Nat
  month : Nat
  day : Nat
  deriving DecidableEq, Repr

/-- The reading of the date clock (spec/08 8.1). -/
structure ClockReading where
  date : Date
  hour : Nat
  minute : Nat
  second : Nat
  deriving DecidableEq, Repr

/-- The context of an event: three parts, each present or absent (spec/05 5.1). -/
structure EventContext where
  station : Option (Fin 4)
  invoice : Option Nat
  serial : Option Nat
  deriving DecidableEq, Repr

/-- The classes of notices, in the order of the mask (R180, R181). -/
inductive NoticeClass where
  | station | invoice | bulk | stencil | action | clock | slot
  deriving DecidableEq, Repr

/-- The notices with their contents, in the order of their kinds (R180, R202). -/
inductive Notice where
  | chestDecided (station : Fin 4) (invoice : Option Nat) (outcome : DecisionOutcome) (gross : Int)
      (net : Option Int) (chest serial : Option Nat)
  | tareDecided (station : Fin 4) (type : Fin 8) (outcome : DecisionOutcome) (gross : Int)
  | disturbed (station : Fin 4) (invoice chest serial : Nat) (acceptedGross value : Int)
  | zeroLimit (station : Fin 4) (intended : Int)
  | signalLost (station : Fin 4)
  | stationRestarted (station : Fin 4) (role : Role)
  | stationOverload (station : Fin 4) (q : Int)
  | invoiceFull (invoice packages : Nat) (tally : Int)
  | invoiceOverrun (invoice : Nat)
  | giveawayHigh (invoice : Nat) (tally : Int) (ceiling : Nat) (cls : Fin 4)
  | sampleLate (invoice chest serial grams : Nat)
  | invoiceWaiting (invoice slots place : Nat)
  | invoiceSheeted (invoice page slot slots : Nat) (lot : Option Nat)
  | bulkComponentDone (run component target fed : Nat) (overshoot preact : Int)
  | bulkComplete (run fed : Nat) (date : Option Date) (offProportion short : Bool)
  | bulkStalled (run component : Nat) (reason : StallReason) (target : Nat) (carried : Int)
  | stencilMissed (head : Fin 2) (template : Fin 8) (serial invoice : Nat) (reason : MissReason)
  | stencilDropped (head : Fin 2) (serial invoice : Nat) (reason : DropReason)
  | stencilDone (head : Fin 2) (serial invoice chest : Nat)
  | headStopped (head : Fin 2) (serial invoice line : Nat)
  | headHeld (head : Fin 2) (left : HeadState) (serial invoice : Option Nat) (resume : ResumePoint)
  | user (code : Nat) (set : Fin 32) (source : Fin 20) (context : EventContext)
  | actionSkipped (set : Fin 32) (source : Fin 20) (kind : ActionKind)
  | setExhausted (set : Fin 32) (mode : SetMode) (source : Fin 20)
  | chainCut (source : Fin 20) (set : Fin 32)
  | dayRollover (date : Date)
  | slotReady (slot : Fin 4) (key : SlotKey) (outcome : SlotOutcome)
  deriving DecidableEq, Repr

/-! ### Operands of the host requests -/

/-- The fields of STATION-CONFIG (spec/11, STATION-CONFIG 0x01). -/
structure StationConfigFields where
  station : Nat
  role : Nat
  w : Nat
  m : Nat
  b : Nat
  d : Nat
  c : Nat
  l : Nat
  cls : Nat
  autoRestart : Nat
  tareTarget : Nat
  deriving DecidableEq, Repr

/-- One component of BULK-DEFINE. -/
structure ComponentFields where
  label : Text
  fraction : Nat
  deriving DecidableEq, Repr

/-- A field that a request may mark KEEP: its presence byte and the field (R203). -/
structure KeepField (α : Type) where
  given : Nat
  value : α
  deriving DecidableEq, Repr

/-- The fields of INV-OPEN (spec/11, INV-OPEN 0x16); an absent bulk run or date is `none`. -/
structure InvOpenFields where
  number : Nat
  garden : Text
  grade : Text
  packType : Nat
  declaredNet : Nat
  packages : Nat
  cls : Nat
  ceiling : Nat
  allowance : Nat
  autoClose : Nat
  bulkRun : Option Nat
  date : Option Date
  deriving DecidableEq, Repr

/-- The five fields of INV-AMEND, each given or marked KEEP (R90). -/
structure InvAmendFields where
  garden : KeepField Text
  grade : KeepField Text
  ceiling : KeepField Nat
  allowance : KeepField Nat
  autoClose : KeepField Nat
  deriving DecidableEq, Repr

/-- The written part of an action set as ACTION-SET-WRITE carries it (spec/11, ACTION-SET-WRITE 0x20);
`reload` is the value, 256 where the byte is 0. -/
structure ActionSetFields where
  enabled : Nat
  kind : Nat
  first : Nat
  second : Nat
  actOn : Nat
  mode : Nat
  reload : Nat
  notify : Nat
  chain : Nat
  deriving DecidableEq, Repr

/-- The fields of WINDOW-SET (R143). -/
structure WindowFields where
  base : Nat
  span : Nat
  lotBase : Nat
  enabled : Nat
  deriving DecidableEq, Repr

/-! ### Operands of the arrivals -/

/-- A sample word: a signed 24-bit count and the parity bit that follows each of its three bytes, least significant
byte first in this record (R7; the order on the link is not modelled). -/
structure SampleWord where
  count : BitVec 24
  parityLow : Bool
  parityMid : Bool
  parityHigh : Bool
  deriving DecidableEq, Repr

/-- The eight data bits of a character on the host line in the order in which they travel: behind the start bit, before the
stop bit, with no parity bit (R171; log 49). -/
abbrev DataBits := Vector Bool 8

/-- The invoice table's answer to an append (R21). -/
inductive AppendAnswer where
  | accepted (chest serial : Nat)
  | surplus
  deriving DecidableEq, Repr

/-- The arrivals of R91 from the stencil formatter, in the order of its table. -/
inductive StatusArrival where
  | queued | refused | started | lineAcknowledged | skipped | dropped | removed
  deriving DecidableEq, Repr

/-- A frame that has arrived: tag, kind and body (spec/09 9.2). -/
structure Frame where
  tag : Byte
  kind : Byte
  body : List Byte
  deriving DecidableEq, Repr

/-- The commands of the part, one for each row of spec/opcode_table.json. -/
inductive Instr where
  -- weigh station unit: requests
  | stationConfig (tag : Byte) (fields : StationConfigFields)
  | stationCal (tag : Byte) (station : Nat) (zeroCount : Int) (span : Nat)
  | stationRestart (tag : Byte) (station : Nat)
  | stationZero (tag : Byte) (station : Nat)
  | weighCapture (tag : Byte) (station : Nat)
  | stationRead (tag : Byte) (station : Nat)
  -- package type table: requests
  | packtypeSet (tag : Byte) (type : Nat) (description : Text) (nominal band : Int)
  | tareListClear (tag : Byte) (type : Nat)
  | tareListRead (tag : Byte) (type : Nat)
  | classSet (tag : Byte) (pairs : Vector (Nat × Nat) 4)
  | classRead (tag : Byte)
  -- bulking controller: requests
  | bulkDefine (tag : Byte) (total count : Nat) (components : List ComponentFields)
  | bulkStart (tag : Byte) (run : Nat)
  | bulkNext (tag : Byte) (run : Nat)
  | bulkHold (tag : Byte) (run : Nat)
  | bulkResume (tag : Byte) (run : Nat)
  | bulkShort (tag : Byte) (run : Nat)
  | bulkAbort (tag : Byte) (run : Nat)
  | bulkRetire (tag : Byte) (run : Nat)
  | bulkRead (tag : Byte) (run : Nat)
  | bulkConfig (tag : Byte) (preactStart : Int) (tolerance : Nat) (preact : KeepField Int)
  -- invoice table: requests
  | invOpen (tag : Byte) (fields : InvOpenFields)
  | invAmend (tag : Byte) (number : Nat) (fields : InvAmendFields)
  | invRead (tag : Byte) (number part : Nat)
  | invVoidLast (tag : Byte) (number expected : Nat)
  | invClose (tag : Byte) (number short : Nat)
  | invCancel (tag : Byte) (number : Nat)
  | stationQueueAdd (tag : Byte) (station number : Nat)
  | stationQueueRemove (tag : Byte) (station number : Nat)
  -- action dispatcher: requests
  | vectorSet (tag : Byte) (source : Nat) (set : Option Nat)
  | vectorRead (tag : Byte)
  | actionSetWrite (tag : Byte) (set : Nat) (fields : ActionSetFields)
  | actionSetRead (tag : Byte) (set : Nat)
  -- stencil formatter: requests
  | templateLoad (tag : Byte) (template : Nat) (lines : List Byte)
  | templateRead (tag : Byte) (template : Nat)
  | stencilRequest (tag : Byte) (head template number chest : Nat)
  | headResume (tag : Byte) (head : Nat)
  | headReline (tag : Byte) (head : Nat)
  | headSkip (tag : Byte) (head : Nat)
  | headReset (tag : Byte) (head : Nat)
  | headSet (tag : Byte) (head setting : Nat)
  | headRead (tag : Byte) (head : Nat)
  -- sheet builder and record store: requests
  | windowSet (tag : Byte) (window : Nat) (fields : WindowFields)
  | windowRead (tag : Byte) (number : Option Nat)
  | sheetFetch (tag : Byte) (number part : Nat)
  | sheetRelease (tag : Byte) (number : Nat)
  | storeRead (tag : Byte) (part : Nat)
  -- date clock: requests
  | clockSet (tag : Byte) (reading : ClockReading)
  | clockRound (tag : Byte)
  | clockRead (tag : Byte)
  -- link controller and settings store: requests
  | status (tag : Byte)
  | noticeMask (tag : Byte) (flags : Vector Nat 7)
  | linkSpeed (tag : Byte) (speed : Nat)
  | saveSettings (tag : Byte)
  | restart (tag : Byte) (form : Nat)
  -- arrivals and events of the blocks
  | sampleWord (station : Fin 4) (word : SampleWord)
  | signalTimerExpiry (station : Fin 4)
  | append (station : Fin 4) (invoice : Nat) (gross net : Int)
  | appendAnswer (station : Fin 4) (answer : AppendAnswer)
  | tareSample (station : Fin 4) (type : Fin 8) (gross : Int)
  | tareAnswer (station : Fin 4) (type : Fin 8) (taken : Bool)
  | reading (station : Fin 4) (q : Int) (settled : Bool) (d : Nat)
  | leaveReport
  | stallTimerExpiry
  | sampleMark (serial grams : Nat)
  | event (source : Fin 20) (context : EventContext)
  | gatePulseEnd (line : Fin 8)
  | stencilJobRequest (head : Fin 2) (template : Fin 8) (serial invoice : Nat)
  | stencilStatus (serial : Nat) (arrival : StatusArrival)
  | jobRemoval (serial : Nat)
  | characterSent (head : Fin 2)
  | lineAcknowledge (head : Fin 2)
  | ackTimerExpiry (head : Fin 2)
  | headFault (head : Fin 2)
  | sheetRequest (invoice : Nat)
  | chestEntryWritten
  | secondAdvance
  | frameReceived (frame : Frame)
  | badFrame
  | frameGapTimeout
  | frameSent
  | noticeOffer (notice : Notice)
  | captureWaitTimeout (slot : Fin 4)
  | slotDiscard (slot : Fin 4)
  | saveWriteEnd (verified : Bool)
  | powerOn
  | powerLoss
  | byteReceived (byte : DataBits) (stopBit : Bool)
  deriving DecidableEq, Repr

end Sys2Proof
end

