-- ==== Sys2Proof/WellFormed.lean ====
section
/-! DEFINITION. Which commands fit the bytes that carry them: every number in the size R201 gives its field, every text
of its field's width, an absent value never given as the code that stands for absence. A well-formed request may still
be out of range: the owner refuses it (R1). -/

namespace Sys2Proof

/-- `n` fits `k` bytes. -/
def fits (k n : Nat) : Bool := decide (n < 256 ^ k)

/-- `z` fits `k` bytes in two's complement. -/
def fitsSigned (k : Nat) (z : Int) : Bool := decide (-(256 ^ k : Int) ≤ 2 * z ∧ 2 * z < (256 ^ k : Int))

/-- A date fits its three bytes and is not the absent date of three zero bytes (R201). -/
def Date.fits (d : Date) : Bool :=
  decide (2000 ≤ d.year ∧ d.year < 2256 ∧ d.month < 256 ∧ d.day < 256 ∧ (d.year, d.month, d.day) ≠ (2000, 0, 0))

/-- The six fields of CLOCK-SET fit their bytes (R201). -/
def ClockReading.fits (r : ClockReading) : Bool :=
  decide (2000 ≤ r.date.year ∧ r.date.year < 2256 ∧ r.date.month < 256 ∧ r.date.day < 256 ∧
    r.hour < 256 ∧ r.minute < 256 ∧ r.second < 256)

/-- The fields of STATION-CONFIG fit its 15 bytes. -/
def StationConfigFields.wellFormed (r : StationConfigFields) : Bool :=
  fits 1 r.station && fits 1 r.role && fits 1 r.w && fits 1 r.m && fits 1 r.b && fits 1 r.d && fits 3 r.c && fits 3 r.l &&
    fits 1 r.cls && fits 1 r.autoRestart && fits 1 r.tareTarget

/-- The fields of INV-OPEN fit its 38 bytes. -/
def InvOpenFields.wellFormed (r : InvOpenFields) : Bool :=
  fits 3 r.number && r.garden.length == 12 && r.grade.length == 6 && fits 1 r.packType && fits 3 r.declaredNet &&
    fits 1 r.packages && fits 1 r.cls && fits 2 r.ceiling && fits 3 r.allowance && fits 1 r.autoClose &&
    (match r.bulkRun with | none => true | some n => fits 2 n && n != 0) &&
    (match r.date with | none => true | some d => d.fits)

/-- The fields of INV-AMEND fit their bytes. -/
def InvAmendFields.wellFormed (r : InvAmendFields) : Bool :=
  fits 1 r.garden.given && r.garden.value.length == 12 && fits 1 r.grade.given && r.grade.value.length == 6 &&
    fits 1 r.ceiling.given && fits 2 r.ceiling.value && fits 1 r.allowance.given && fits 3 r.allowance.value &&
    fits 1 r.autoClose.given && fits 1 r.autoClose.value

/-- The fields of ACTION-SET-WRITE fit their bytes; the reload byte 0 stands for 256. -/
def ActionSetFields.wellFormed (r : ActionSetFields) : Bool :=
  fits 1 r.enabled && fits 1 r.kind && fits 1 r.first && fits 2 r.second && fits 1 r.actOn && fits 1 r.mode &&
    decide (1 ≤ r.reload ∧ r.reload ≤ 256) && fits 1 r.notify && fits 1 r.chain

/-- Every operand of the command fits the bytes, or the field of the arrival, that carries it. -/
def Instr.wellFormed : Instr → Bool
  | .stationConfig _ r => r.wellFormed
  | .stationCal _ st z0 sp => fits 1 st && fitsSigned 3 z0 && fits 2 sp
  | .stationRestart _ st | .stationZero _ st | .weighCapture _ st | .stationRead _ st => fits 1 st
  | .packtypeSet _ t desc nom band => fits 1 t && desc.length == 8 && fitsSigned 4 nom && fitsSigned 4 band
  | .tareListClear _ t | .tareListRead _ t => fits 1 t
  | .classSet _ ps => ps.toList.all fun p => fits 1 p.1 && fits 1 p.2
  | .classRead _ | .vectorRead _ | .clockRound _ | .clockRead _ | .status _ | .saveSettings _ => true
  | .bulkDefine _ total count cs =>
    fits 3 total && fits 1 count && decide (cs.length ≤ 8) && cs.all fun c => c.label.length == 10 && fits 2 c.fraction
  | .bulkStart _ n | .bulkNext _ n | .bulkHold _ n | .bulkResume _ n | .bulkShort _ n | .bulkAbort _ n
  | .bulkRetire _ n | .bulkRead _ n => fits 2 n
  | .bulkConfig _ ps tol p => fitsSigned 4 ps && fits 2 tol && fits 1 p.given && fitsSigned 4 p.value
  | .invOpen _ r => r.wellFormed
  | .invAmend _ n r => fits 3 n && r.wellFormed
  | .invRead _ n p => fits 3 n && fits 1 p
  | .invVoidLast _ n e => fits 3 n && fits 2 e
  | .invClose _ n sh => fits 3 n && fits 1 sh
  | .invCancel _ n => fits 3 n
  | .stationQueueAdd _ st n | .stationQueueRemove _ st n => fits 1 st && fits 3 n
  | .vectorSet _ src set => fits 1 src && (match set with | none => true | some i => decide (i < 255))
  | .actionSetWrite _ i r => fits 1 i && r.wellFormed
  | .actionSetRead _ i => fits 1 i
  | .templateLoad _ t ls => fits 1 t && decide (ls.length ≤ 246)
  | .templateRead _ t => fits 1 t
  | .stencilRequest _ h t n ch => fits 1 h && fits 1 t && fits 3 n && fits 1 ch
  | .headResume _ h | .headReline _ h | .headSkip _ h | .headReset _ h | .headRead _ h => fits 1 h
  | .headSet _ h v => fits 1 h && fits 1 v
  | .windowSet _ w r => fits 1 w && fits 3 r.base && fits 2 r.span && fits 3 r.lotBase && fits 1 r.enabled
  | .windowRead _ n => match n with | none => true | some i => fits 3 i
  | .sheetFetch _ n p => fits 3 n && fits 1 p
  | .sheetRelease _ n => fits 3 n
  | .storeRead _ p => fits 1 p
  | .clockSet _ r => r.fits
  | .noticeMask _ fs => fs.toList.all (fits 1)
  | .linkSpeed _ v => fits 3 v
  | .restart _ f => fits 1 f
  | .append _ inv g n => fits 3 inv && fitsSigned 4 g && fitsSigned 4 n
  | .appendAnswer _ a => match a with | .accepted ch sr => fits 1 ch && fits 2 sr | .surplus => true
  | .tareSample _ _ g => fitsSigned 4 g
  | .reading _ q _ d => fitsSigned 4 q && fits 1 d
  | .sampleMark sr g => fits 2 sr && fits 2 g
  | .stencilJobRequest _ _ sr inv => fits 2 sr && fits 3 inv
  | .stencilStatus sr _ | .jobRemoval sr => fits 2 sr
  | .sheetRequest inv => fits 3 inv
  | .frameReceived f => decide (f.body.length ≤ 248)
  | .event _ _ | .sampleWord _ _ | .signalTimerExpiry _ | .tareAnswer _ _ _ | .leaveReport | .stallTimerExpiry
  | .gatePulseEnd _ | .characterSent _ | .lineAcknowledge _ | .ackTimerExpiry _ | .headFault _ | .chestEntryWritten
  | .secondAdvance | .badFrame | .frameGapTimeout | .frameSent | .noticeOffer _ | .captureWaitTimeout _ | .slotDiscard _
  | .saveWriteEnd _ | .powerOn | .powerLoss | .byteReceived _ _ => true

end Sys2Proof
end

