-- ==== Sys2Proof/Decode.lean ====
section
/-! DEFINITION. The request bodies of the host line as bytes (R201 to R204): the reader that the link controller uses at
dispatch (R176), and the writer a host would use. The opcode table gives no row any bits, so `decodeTableWord` reads
nothing. -/

namespace Sys2Proof

/-! ### Numbers in bytes, least significant byte first (R201) -/

/-- The unsigned number of a row of bytes. -/
def leNat : List Byte → Nat
  | [] => 0
  | b :: bs => b.toNat + 256 * leNat bs

/-- The two's complement number of a row of bytes. -/
def leInt (bs : List Byte) : Int :=
  if 256 ^ bs.length ≤ 2 * leNat bs then (leNat bs : Int) - (256 ^ bs.length : Int) else (leNat bs : Int)

/-- `n` in `k` bytes. -/
def natBytes : Nat → Nat → List Byte
  | 0, _ => []
  | k + 1, n => BitVec.ofNat 8 n :: natBytes k (n / 256)

/-- `z` in `k` bytes, two's complement. -/
def intBytes (k : Nat) (z : Int) : List Byte := natBytes k (z % (256 ^ k : Int)).toNat

/-- The bytes of a field at an offset of a body. -/
def field (off len : Nat) (body : List Byte) : List Byte := (body.drop off).take len

/-- The unsigned number of a field. -/
def natAt (off len : Nat) (body : List Byte) : Nat := leNat (field off len body)

/-- The signed number of a field. -/
def intAt (off len : Nat) (body : List Byte) : Int := leInt (field off len body)

/-- The date of three bytes, day, month, year - 2000, absent with every byte 0 (R201). -/
def dateAt (off : Nat) (body : List Byte) : Option Date :=
  if natAt off 3 body = 0 then none
  else some ⟨2000 + natAt (off + 2) 1 body, natAt (off + 1) 1 body, natAt off 1 body⟩

/-- A date in three bytes (R201). -/
def dateBytes : Option Date → List Byte
  | none => natBytes 3 0
  | some d => natBytes 1 d.day ++ natBytes 1 d.month ++ natBytes 1 (d.year - 2000)

/-- The six bytes of a reading (R201). -/
def readingAt (off : Nat) (body : List Byte) : ClockReading :=
  ⟨⟨2000 + natAt (off + 2) 1 body, natAt (off + 1) 1 body, natAt off 1 body⟩,
    natAt (off + 3) 1 body, natAt (off + 4) 1 body, natAt (off + 5) 1 body⟩

/-- A reading in six bytes; an absent one is six zeros (R201). -/
def readingBytes : Option ClockReading → List Byte
  | none => natBytes 6 0
  | some r => natBytes 1 r.date.day ++ natBytes 1 r.date.month ++ natBytes 1 (r.date.year - 2000) ++
      natBytes 1 r.hour ++ natBytes 1 r.minute ++ natBytes 1 r.second

/-! ### Requests -/

/-- Why the link controller refuses a request before it reaches its owner (R176 steps 1 and 2). -/
inductive DispatchRefusal where
  | unknown | length
  deriving DecidableEq, Repr

/-- The body lengths that fit a request kind 0x01..0x37 (R203). -/
def bodyLengthFits (kind len : Nat) : Bool :=
  match kind with
  | 0x01 => len == 15
  | 0x02 => len == 6
  | 0x03 | 0x04 | 0x05 | 0x06 => len == 1
  | 0x07 => len == 17
  | 0x08 | 0x09 => len == 1
  | 0x0A => len == 8
  | 0x0B => len == 0
  | 0x0C => decide (4 ≤ len ∧ len ≤ 100) && (len - 4) % 12 == 0
  | 0x0D | 0x0E | 0x0F | 0x10 | 0x11 | 0x12 | 0x13 | 0x14 => len == 2
  | 0x15 => len == 11
  | 0x16 => len == 38
  | 0x17 => len == 32
  | 0x18 => len == 4
  | 0x19 => len == 5
  | 0x1A => len == 4
  | 0x1B => len == 3
  | 0x1C | 0x1D => len == 4
  | 0x1E => len == 2
  | 0x1F => len == 0
  | 0x20 => len == 11
  | 0x21 => len == 1
  | 0x22 => decide (1 ≤ len ∧ len ≤ 247)
  | 0x23 => len == 1
  | 0x24 => len == 6
  | 0x25 | 0x26 | 0x27 | 0x28 => len == 1
  | 0x29 => len == 2
  | 0x2A => len == 1
  | 0x2B => len == 10
  | 0x2C => len == 0 || len == 3
  | 0x2D => len == 4
  | 0x2E => len == 3
  | 0x2F => len == 1
  | 0x30 => len == 6
  | 0x31 | 0x32 | 0x33 => len == 0
  | 0x34 => len == 7
  | 0x35 => len == 3
  | 0x36 => len == 0
  | 0x37 => len == 1
  | _ => false

/-- The components of a BULK-DEFINE body, twelve bytes each (spec/11, BULK-DEFINE 0x0C). -/
def componentsAt (off : Nat) (body : List Byte) : Nat → List ComponentFields
  | 0 => []
  | k + 1 => ⟨field off 10 body, natAt (off + 10) 2 body⟩ :: componentsAt (off + 12) body k

/-- The fields of a STATION-CONFIG body. -/
def stationConfigAt (b : List Byte) : StationConfigFields :=
  ⟨natAt 0 1 b, natAt 1 1 b, natAt 2 1 b, natAt 3 1 b, natAt 4 1 b, natAt 5 1 b, natAt 6 3 b, natAt 9 3 b,
    natAt 12 1 b, natAt 13 1 b, natAt 14 1 b⟩

/-- The fields of an INV-OPEN body. -/
def invOpenAt (b : List Byte) : InvOpenFields :=
  ⟨natAt 0 3 b, field 3 12 b, field 15 6 b, natAt 21 1 b, natAt 22 3 b, natAt 25 1 b, natAt 26 1 b, natAt 27 2 b,
    natAt 29 3 b, natAt 32 1 b, if natAt 33 2 b = 0 then none else some (natAt 33 2 b), dateAt 35 b⟩

/-- The five fields of an INV-AMEND body, each behind its presence byte (R203). -/
def invAmendAt (b : List Byte) : InvAmendFields :=
  ⟨⟨natAt 3 1 b, field 4 12 b⟩, ⟨natAt 16 1 b, field 17 6 b⟩, ⟨natAt 23 1 b, natAt 24 2 b⟩,
    ⟨natAt 26 1 b, natAt 27 3 b⟩, ⟨natAt 30 1 b, natAt 31 1 b⟩⟩

/-- The fields of an ACTION-SET-WRITE body after its set index. -/
def actionSetAt (b : List Byte) : ActionSetFields :=
  ⟨natAt 1 1 b, natAt 2 1 b, natAt 3 1 b, natAt 4 2 b, natAt 6 1 b, natAt 7 1 b,
    if natAt 8 1 b = 0 then 256 else natAt 8 1 b, natAt 9 1 b, natAt 10 1 b⟩

/-- The request of a kind in 0x01..0x37 whose body length fits it (R202's numbering of the table in spec/09 9.4). -/
def requestAt (tag : Byte) (kind : Nat) (b : List Byte) : Option Instr :=
  match kind with
  | 0x01 => some (.stationConfig tag (stationConfigAt b))
  | 0x02 => some (.stationCal tag (natAt 0 1 b) (intAt 1 3 b) (natAt 4 2 b))
  | 0x03 => some (.stationRestart tag (natAt 0 1 b))
  | 0x04 => some (.stationZero tag (natAt 0 1 b))
  | 0x05 => some (.weighCapture tag (natAt 0 1 b))
  | 0x06 => some (.stationRead tag (natAt 0 1 b))
  | 0x07 => some (.packtypeSet tag (natAt 0 1 b) (field 1 8 b) (intAt 9 4 b) (intAt 13 4 b))
  | 0x08 => some (.tareListClear tag (natAt 0 1 b))
  | 0x09 => some (.tareListRead tag (natAt 0 1 b))
  | 0x0A => some (.classSet tag #v[(natAt 0 1 b, natAt 1 1 b), (natAt 2 1 b, natAt 3 1 b), (natAt 4 1 b, natAt 5 1 b),
      (natAt 6 1 b, natAt 7 1 b)])
  | 0x0B => some (.classRead tag)
  | 0x0C => some (.bulkDefine tag (natAt 0 3 b) (natAt 3 1 b) (componentsAt 4 b ((b.length - 4) / 12)))
  | 0x0D => some (.bulkStart tag (natAt 0 2 b))
  | 0x0E => some (.bulkNext tag (natAt 0 2 b))
  | 0x0F => some (.bulkHold tag (natAt 0 2 b))
  | 0x10 => some (.bulkResume tag (natAt 0 2 b))
  | 0x11 => some (.bulkShort tag (natAt 0 2 b))
  | 0x12 => some (.bulkAbort tag (natAt 0 2 b))
  | 0x13 => some (.bulkRetire tag (natAt 0 2 b))
  | 0x14 => some (.bulkRead tag (natAt 0 2 b))
  | 0x15 => some (.bulkConfig tag (intAt 0 4 b) (natAt 4 2 b) ⟨natAt 6 1 b, intAt 7 4 b⟩)
  | 0x16 => some (.invOpen tag (invOpenAt b))
  | 0x17 => some (.invAmend tag (natAt 0 3 b) (invAmendAt b))
  | 0x18 => some (.invRead tag (natAt 0 3 b) (natAt 3 1 b))
  | 0x19 => some (.invVoidLast tag (natAt 0 3 b) (natAt 3 2 b))
  | 0x1A => some (.invClose tag (natAt 0 3 b) (natAt 3 1 b))
  | 0x1B => some (.invCancel tag (natAt 0 3 b))
  | 0x1C => some (.stationQueueAdd tag (natAt 0 1 b) (natAt 1 3 b))
  | 0x1D => some (.stationQueueRemove tag (natAt 0 1 b) (natAt 1 3 b))
  | 0x1E => some (.vectorSet tag (natAt 0 1 b) (if natAt 1 1 b = 255 then none else some (natAt 1 1 b)))
  | 0x1F => some (.vectorRead tag)
  | 0x20 => some (.actionSetWrite tag (natAt 0 1 b) (actionSetAt b))
  | 0x21 => some (.actionSetRead tag (natAt 0 1 b))
  | 0x22 => some (.templateLoad tag (natAt 0 1 b) (b.drop 1))
  | 0x23 => some (.templateRead tag (natAt 0 1 b))
  | 0x24 => some (.stencilRequest tag (natAt 0 1 b) (natAt 1 1 b) (natAt 2 3 b) (natAt 5 1 b))
  | 0x25 => some (.headResume tag (natAt 0 1 b))
  | 0x26 => some (.headReline tag (natAt 0 1 b))
  | 0x27 => some (.headSkip tag (natAt 0 1 b))
  | 0x28 => some (.headReset tag (natAt 0 1 b))
  | 0x29 => some (.headSet tag (natAt 0 1 b) (natAt 1 1 b))
  | 0x2A => some (.headRead tag (natAt 0 1 b))
  | 0x2B => some (.windowSet tag (natAt 0 1 b) ⟨natAt 1 3 b, natAt 4 2 b, natAt 6 3 b, natAt 9 1 b⟩)
  | 0x2C => some (.windowRead tag (if b.length = 0 then none else some (natAt 0 3 b)))
  | 0x2D => some (.sheetFetch tag (natAt 0 3 b) (natAt 3 1 b))
  | 0x2E => some (.sheetRelease tag (natAt 0 3 b))
  | 0x2F => some (.storeRead tag (natAt 0 1 b))
  | 0x30 => some (.clockSet tag (readingAt 0 b))
  | 0x31 => some (.clockRound tag)
  | 0x32 => some (.clockRead tag)
  | 0x33 => some (.status tag)
  | 0x34 => some (.noticeMask tag #v[natAt 0 1 b, natAt 1 1 b, natAt 2 1 b, natAt 3 1 b, natAt 4 1 b, natAt 5 1 b,
      natAt 6 1 b])
  | 0x35 => some (.linkSpeed tag (natAt 0 3 b))
  | 0x36 => some (.saveSettings tag)
  | 0x37 => some (.restart tag (natAt 0 1 b))
  | _ => none

/-- The request a frame carries, or the link controller's refusal of it (R176 steps 1 and 2). -/
def decodeRequest (f : Frame) : Except DispatchRefusal Instr :=
  match requestAt f.tag f.kind.toNat f.body with
  | none => .error .unknown
  | some i => if bodyLengthFits f.kind.toNat f.body.length then .ok i else .error .length

/-- The kind byte of a request (R202); none for an arrival or event. -/
def Instr.requestKind : Instr → Option Byte
  | .stationConfig _ _ => some 0x01
  | .stationCal _ _ _ _ => some 0x02
  | .stationRestart _ _ => some 0x03
  | .stationZero _ _ => some 0x04
  | .weighCapture _ _ => some 0x05
  | .stationRead _ _ => some 0x06
  | .packtypeSet _ _ _ _ _ => some 0x07
  | .tareListClear _ _ => some 0x08
  | .tareListRead _ _ => some 0x09
  | .classSet _ _ => some 0x0A
  | .classRead _ => some 0x0B
  | .bulkDefine _ _ _ _ => some 0x0C
  | .bulkStart _ _ => some 0x0D
  | .bulkNext _ _ => some 0x0E
  | .bulkHold _ _ => some 0x0F
  | .bulkResume _ _ => some 0x10
  | .bulkShort _ _ => some 0x11
  | .bulkAbort _ _ => some 0x12
  | .bulkRetire _ _ => some 0x13
  | .bulkRead _ _ => some 0x14
  | .bulkConfig _ _ _ _ => some 0x15
  | .invOpen _ _ => some 0x16
  | .invAmend _ _ _ => some 0x17
  | .invRead _ _ _ => some 0x18
  | .invVoidLast _ _ _ => some 0x19
  | .invClose _ _ _ => some 0x1A
  | .invCancel _ _ => some 0x1B
  | .stationQueueAdd _ _ _ => some 0x1C
  | .stationQueueRemove _ _ _ => some 0x1D
  | .vectorSet _ _ _ => some 0x1E
  | .vectorRead _ => some 0x1F
  | .actionSetWrite _ _ _ => some 0x20
  | .actionSetRead _ _ => some 0x21
  | .templateLoad _ _ _ => some 0x22
  | .templateRead _ _ => some 0x23
  | .stencilRequest _ _ _ _ _ => some 0x24
  | .headResume _ _ => some 0x25
  | .headReline _ _ => some 0x26
  | .headSkip _ _ => some 0x27
  | .headReset _ _ => some 0x28
  | .headSet _ _ _ => some 0x29
  | .headRead _ _ => some 0x2A
  | .windowSet _ _ _ => some 0x2B
  | .windowRead _ _ => some 0x2C
  | .sheetFetch _ _ _ => some 0x2D
  | .sheetRelease _ _ => some 0x2E
  | .storeRead _ _ => some 0x2F
  | .clockSet _ _ => some 0x30
  | .clockRound _ => some 0x31
  | .clockRead _ => some 0x32
  | .status _ => some 0x33
  | .noticeMask _ _ => some 0x34
  | .linkSpeed _ _ => some 0x35
  | .saveSettings _ => some 0x36
  | .restart _ _ => some 0x37
  | _ => none

/-- A field marked KEEP or given: its presence byte and the field's bytes (R203). -/
def keepBytes {α : Type} (enc : α → List Byte) (f : KeepField α) : List Byte := natBytes 1 f.given ++ enc f.value

/-- The body a host sends for a request (R201, R203 and the layouts of spec/11); empty for an arrival. -/
def Instr.requestBody : Instr → List Byte
  | .stationConfig _ r =>
    natBytes 1 r.station ++ natBytes 1 r.role ++ natBytes 1 r.w ++ natBytes 1 r.m ++ natBytes 1 r.b ++ natBytes 1 r.d ++
      natBytes 3 r.c ++ natBytes 3 r.l ++ natBytes 1 r.cls ++ natBytes 1 r.autoRestart ++ natBytes 1 r.tareTarget
  | .stationCal _ st z0 sp => natBytes 1 st ++ intBytes 3 z0 ++ natBytes 2 sp
  | .stationRestart _ st | .stationZero _ st | .weighCapture _ st | .stationRead _ st => natBytes 1 st
  | .packtypeSet _ t desc nom band => natBytes 1 t ++ desc ++ intBytes 4 nom ++ intBytes 4 band
  | .tareListClear _ t | .tareListRead _ t => natBytes 1 t
  | .classSet _ ps => ps.toList.flatMap fun p => natBytes 1 p.1 ++ natBytes 1 p.2
  | .bulkDefine _ total count cs =>
    natBytes 3 total ++ natBytes 1 count ++ cs.flatMap fun c => c.label ++ natBytes 2 c.fraction
  | .bulkStart _ n | .bulkNext _ n | .bulkHold _ n | .bulkResume _ n | .bulkShort _ n | .bulkAbort _ n
  | .bulkRetire _ n | .bulkRead _ n => natBytes 2 n
  | .bulkConfig _ ps tol p => intBytes 4 ps ++ natBytes 2 tol ++ keepBytes (intBytes 4) p
  | .invOpen _ r =>
    natBytes 3 r.number ++ r.garden ++ r.grade ++ natBytes 1 r.packType ++ natBytes 3 r.declaredNet ++
      natBytes 1 r.packages ++ natBytes 1 r.cls ++ natBytes 2 r.ceiling ++ natBytes 3 r.allowance ++
      natBytes 1 r.autoClose ++ natBytes 2 (r.bulkRun.getD 0) ++ dateBytes r.date
  | .invAmend _ n r =>
    natBytes 3 n ++ keepBytes id r.garden ++ keepBytes id r.grade ++ keepBytes (natBytes 2) r.ceiling ++
      keepBytes (natBytes 3) r.allowance ++ keepBytes (natBytes 1) r.autoClose
  | .invRead _ n p => natBytes 3 n ++ natBytes 1 p
  | .invVoidLast _ n e => natBytes 3 n ++ natBytes 2 e
  | .invClose _ n sh => natBytes 3 n ++ natBytes 1 sh
  | .invCancel _ n => natBytes 3 n
  | .stationQueueAdd _ st n | .stationQueueRemove _ st n => natBytes 1 st ++ natBytes 3 n
  | .vectorSet _ src set => natBytes 1 src ++ natBytes 1 (set.getD 255)
  | .actionSetWrite _ i r =>
    natBytes 1 i ++ natBytes 1 r.enabled ++ natBytes 1 r.kind ++ natBytes 1 r.first ++ natBytes 2 r.second ++
      natBytes 1 r.actOn ++ natBytes 1 r.mode ++ natBytes 1 r.reload ++ natBytes 1 r.notify ++ natBytes 1 r.chain
  | .actionSetRead _ i => natBytes 1 i
  | .templateLoad _ t ls => natBytes 1 t ++ ls
  | .templateRead _ t => natBytes 1 t
  | .stencilRequest _ h t n ch => natBytes 1 h ++ natBytes 1 t ++ natBytes 3 n ++ natBytes 1 ch
  | .headResume _ h | .headReline _ h | .headSkip _ h | .headReset _ h | .headRead _ h => natBytes 1 h
  | .headSet _ h v => natBytes 1 h ++ natBytes 1 v
  | .windowSet _ w r =>
    natBytes 1 w ++ natBytes 3 r.base ++ natBytes 2 r.span ++ natBytes 3 r.lotBase ++ natBytes 1 r.enabled
  | .windowRead _ n => match n with | none => [] | some i => natBytes 3 i
  | .sheetFetch _ n p => natBytes 3 n ++ natBytes 1 p
  | .sheetRelease _ n => natBytes 3 n
  | .storeRead _ p => natBytes 1 p
  | .clockSet _ r => readingBytes (some r)
  | .noticeMask _ fs => fs.toList.flatMap (natBytes 1)
  | .linkSpeed _ v => natBytes 3 v
  | .restart _ f => natBytes 1 f
  | _ => []

/-- The tag of a request. -/
def Instr.requestTag : Instr → Byte
  | .stationConfig t _ | .stationCal t _ _ _ | .stationRestart t _ | .stationZero t _ | .weighCapture t _
  | .stationRead t _ | .packtypeSet t _ _ _ _ | .tareListClear t _ | .tareListRead t _ | .classSet t _ | .classRead t
  | .bulkDefine t _ _ _ | .bulkStart t _ | .bulkNext t _ | .bulkHold t _ | .bulkResume t _ | .bulkShort t _
  | .bulkAbort t _ | .bulkRetire t _ | .bulkRead t _ | .bulkConfig t _ _ _ | .invOpen t _ | .invAmend t _ _
  | .invRead t _ _ | .invVoidLast t _ _ | .invClose t _ _ | .invCancel t _ | .stationQueueAdd t _ _
  | .stationQueueRemove t _ _ | .vectorSet t _ _ | .vectorRead t | .actionSetWrite t _ _ | .actionSetRead t _
  | .templateLoad t _ _ | .templateRead t _ | .stencilRequest t _ _ _ _ | .headResume t _ | .headReline t _
  | .headSkip t _ | .headReset t _ | .headSet t _ _ | .headRead t _ | .windowSet t _ _ | .windowRead t _
  | .sheetFetch t _ _ | .sheetRelease t _ | .storeRead t _ | .clockSet t _ | .clockRound t | .clockRead t | .status t
  | .noticeMask t _ | .linkSpeed t _ | .saveSettings t | .restart t _ => t
  | _ => 0

/-- The frame a host sends for a request. -/
def encodeRequest (i : Instr) : Option Frame := i.requestKind.map fun k => ⟨i.requestTag, k, i.requestBody⟩

/-- The command that a word spells by the opcode table's bits: no row of the table has bits. -/
def decodeTableWord (_nbits _w : Nat) : Option Instr := none

end Sys2Proof
end

