-- ==== Sys2Proof/Config.lean ====
section
/-! DEFINITION. The fixed sizes and times of the PK-360, each from the rule it cites. -/

namespace Sys2Proof.Config

/-- A station enters NOSIGNAL when its signal timer reaches 250 ms (R8). -/
def signalLimit : Nat := 250
/-- A run in FEEDING stalls when its stall timer reaches 20 s (R57). -/
def stallLimit : Nat := 20000
/-- A channel enters STOPPED when its acknowledge timer reaches 3 s (R132). -/
def ackLimit : Nat := 3000
/-- A frame is bad when more than 20 ms pass between two of its bytes (R173). -/
def frameGapLimit : Nat := 20
/-- A WEIGH-CAPTURE slot times out when its wait timer reaches 30 s (R187). -/
def captureWaitLimit : Nat := 30000
/-- A READY slot is freed when its discard timer reaches 60 s (R188). -/
def discardLimit : Nat := 60000
/-- The clock's sub-second phase advances the reading at 1,000 ms (R164). -/
def secondLength : Nat := 1000

/-- The receive holding holds 0 to 3 frames (R174). -/
def holdingSize : Nat := 3
/-- The reply line holds at most three busy replies (R174). -/
def busyReplies : Nat := 3
/-- The notice queue holds 32 notices (R180). -/
def noticeQueueSize : Nat := 32
/-- The bulk table has four places (spec/03 3.1). -/
def bulkPlaces : Nat := 4
/-- The invoice table has sixteen slots (R70). -/
def invoiceSlots : Nat := 16
/-- A station queue holds 0 to 4 invoice numbers (R82). -/
def stationQueueSize : Nat := 4
/-- A head queue holds at most 8 jobs (R123). -/
def headQueueSize : Nat := 8
/-- A tare list holds up to 10 samples (R30). -/
def tareListSize : Nat := 10
/-- A chain has at most eight sets (R107). -/
def chainLength : Nat := 8
/-- The record store is a ring of 24 pages (spec/07 7.3). -/
def storePages : Nat := 24
/-- Each page has 32 store slots (spec/07 7.3). -/
def pageSlots : Nat := 32
/-- The giveaway tally lies within -9,999..+9,999 g (R80). -/
def tallyLimit : Int := 9999
/-- The sample allowance is at most 99,999 g (R93). -/
def allowanceLimit : Nat := 99999
/-- The feeder preact is at most 5,000 g (R52). -/
def preactLimit : Int := 5000
/-- A rescaled total below 10,000 g completes the run (R61). -/
def shortTotalLimit : Nat := 10000
/-- A fetched sheet part carries up to 40 chest entries (spec/07 7.6). -/
def sheetPartSize : Nat := 40
/-- A part of INV-READ carries 16 chest entries (R95). -/
def invoicePartSize : Nat := 16
/-- A part of STORE-READ carries 32 stored sheets (R160). -/
def storePartSize : Nat := 32

end Sys2Proof.Config
end

