-- ==== Sys2Proof/Machine/State.lean ====
section
/-! DEFINITION. The state of the PK-360 as plain data, block by block, its faults and refusals, and the state after
reset: the power-on (R193) of a part whose settings store has never been written (R194, R198, R199). -/

namespace Sys2Proof.Machine

/-- What stops the machine: nothing. Every command has its effect in every state (log 25). Safe. -/
inductive Fault where
  deriving DecidableEq, Repr

/-- A command the model does not take. -/
inductive Refusal where
  /-- Raised by an arm of `exec` for a row that has no meaning yet; safe. No row is left so. -/
  | notModelled (mnemonic : String)
  deriving DecidableEq, Repr

/-! ### Weigh stations (spec/01) -/

/-- The settings and calibration of a station (spec/01 1.1). -/
structure StationSettings where
  role : Role
  w : Nat
  m : Nat
  b : Nat
  d : Nat
  c : Nat
  l : Nat
  cls : Fin 4
  autoRestart : Bool
  tareTarget : Fin 8
  zeroCount : Int
  span : Nat
  deriving DecidableEq, Repr

/-- The decision record of a station (spec/01 1.1). -/
structure DecisionRecord where
  outcome : DecisionOutcome
  invoice : Option Nat
  gross : Option Int
  net : Option Int
  chest : Option Nat
  serial : Option Nat
  deriving DecidableEq, Repr

/-- What the append-outstanding mark holds (R21, R25). -/
inductive Outstanding where
  | append (invoice : Nat) (gross net : Int)
  | sample (type : Fin 8) (gross : Int)
  deriving DecidableEq, Repr

/-- The record of a station (spec/01 1.1). `q` is the last weight computed, `lastInRange` the last in-range one since the
last station restart (R13, R28). -/
structure Station where
  settings : StationSettings
  zt : Int
  filter : List Int
  settle : List Int
  q : Int
  lastInRange : Int
  outOfRange : Bool
  state : StationState
  settled : Bool
  overloadReturn : Bool
  decision : DecisionRecord
  outstanding : Option Outstanding
  disturbed : Bool
  signalTimer : Option Nat
  deriving DecidableEq, Repr

/-! ### Package types and tolerance classes (spec/02) -/

/-- A package type (spec/02 2.1). -/
structure PackType where
  description : Text
  nominal : Nat
  band : Nat
  tares : List Nat
  deriving DecidableEq, Repr

/-- The allowances of a tolerance class, in divisions (spec/02 2.5). -/
structure Allowance where
  under : Nat
  overBy : Nat
  deriving DecidableEq, Repr

/-- The package type table. -/
structure PackTable where
  types : Vector PackType 8
  classes : Vector Allowance 4
  deriving DecidableEq, Repr

/-! ### Bulking controller (spec/03) -/

/-- The run states, in the order of spec/03 3.2. -/
inductive RunState where
  | defined | armed | feeding | settling | between | held | stalled | complete | aborted
  deriving DecidableEq, Repr

/-- The component states, in the order of spec/03 3.1. -/
inductive ComponentState where
  | pending | armed | feeding | settling | done | short | skipped
  deriving DecidableEq, Repr

/-- A component of a bulk run. -/
structure Component where
  label : Text
  fraction : Nat
  target : Nat
  fed : Nat
  state : ComponentState
  deriving DecidableEq, Repr

/-- A bulk record (spec/03 3.1). -/
structure BulkRecord where
  run : Nat
  state : RunState
  definedTotal : Nat
  total : Nat
  components : List Component
  active : Option Nat
  carried : Int
  start : Option Int
  fed : Nat
  uncommitted : Nat
  bound : Nat
  date : Option Date
  offProportion : Bool
  short : Bool
  deriving DecidableEq, Repr

/-- The last reading of the FEED station (R47). -/
structure LastReading where
  station : Fin 4
  d : Nat
  q : Int
  deriving DecidableEq, Repr

/-- The bulking controller; its places have no order, so the table is the list of its records. -/
@[ext]
structure Bulking where
  records : List BulkRecord
  preact : Int
  preactStart : Int
  tolerance : Nat
  nextRun : Nat
  gateOpen : Bool
  stallTimer : Option Nat
  stallReference : Int
  lastReading : Option LastReading
  deriving DecidableEq, Repr

/-! ### Invoice table (spec/04) -/

/-- The invoice states (spec/04 4.2). -/
inductive InvoiceState where
  | opened | full | closing | waiting | sheeted
  deriving DecidableEq, Repr

/-- The lot binding of an invoice (R94). -/
inductive LotBinding where
  | unresolved
  | bound (lot : Nat)
  | none
  deriving DecidableEq, Repr

/-- An entry of a chest list (spec/04 4.1). -/
structure Chest where
  number : Nat
  serial : Nat
  station : Fin 4
  gross : Int
  net : Int
  status : StencilStatus
  sample : Bool
  deriving DecidableEq, Repr

/-- The record of an invoice but for its chest list (spec/04 4.1); the accepted count is the list's length (R71). -/
structure InvoiceRecord where
  number : Nat
  garden : Text
  grade : Text
  packType : Fin 8
  tare : Nat
  declaredNet : Nat
  packages : Nat
  cls : Fin 4
  tightened : Bool
  ceiling : Nat
  tally : Int
  overrun : Bool
  allowance : Nat
  autoClose : Bool
  shortClose : Bool
  bulkRun : Option Nat
  offProportion : Bool
  date : Date
  lot : LotBinding
  state : InvoiceState
  deriving DecidableEq, Repr

/-- An invoice: its record and its chest list in acceptance order. -/
structure Invoice where
  record : InvoiceRecord
  chests : List Chest
  deriving DecidableEq, Repr

/-- The invoice table; its slots have no order, so the table is the list of its invoices. -/
@[ext]
structure InvoiceTable where
  invoices : List Invoice
  queues : Vector (List Nat) 4
  nextSerial : Nat
  deriving DecidableEq, Repr

/-! ### Action dispatcher (spec/05) -/

/-- The action of a set with the parameters of its kind. -/
inductive Action where
  | stencil (head : Fin 2) (template : Fin 8)
  | gate (line : Fin 8) (length : Nat)
  | notice (code : Nat)
  | sample (grams : Nat)
  deriving DecidableEq, Repr

/-- When a set performs its action (R105). -/
inductive ActOn where
  | every | expiry
  deriving DecidableEq, Repr

/-- The written part of an action set (spec/05 5.3). -/
structure WrittenSet where
  enabled : Bool
  action : Action
  actOn : ActOn
  mode : SetMode
  reload : Nat
  notify : Bool
  chain : Bool
  deriving DecidableEq, Repr

/-- An action set: its written part and its live part. -/
structure ActionSet where
  written : WrittenSet
  live : Bool
  count : Nat
  deriving DecidableEq, Repr

/-- The pulse of a high gate line: time run and length in ms (R109). -/
structure Pulse where
  run : Nat
  length : Nat
  deriving DecidableEq, Repr

/-- The action dispatcher; a low gate line has no pulse. -/
@[ext]
structure Dispatcher where
  vectors : Vector (Option (Fin 32)) 20
  sets : Vector ActionSet 32
  gates : Vector (Option Pulse) 8
  deriving DecidableEq, Repr

/-! ### Stencil formatter (spec/06) -/

/-- The field names of a template, in the order of R204. -/
inductive FieldName where
  | garden | grade | invoice | chest | of | net | gross | tare | actual | mfgDate | lot
  deriving DecidableEq, Repr

/-- An item of a template line (spec/06 6.1). -/
inductive Item where
  | literal (text : Text)
  | field (name : FieldName) (width : Nat) (right : Bool) (decimals : Nat)
  deriving DecidableEq, Repr

/-- A template: its lines, each a list of items; no lines is empty. -/
abbrev Template := List (List Item)

/-- The snapshot of a job's chest (spec/06 6.3). -/
structure Snapshot where
  chest : Nat
  gross : Int
  net : Int
  deriving DecidableEq, Repr

/-- Where a job came from. -/
inductive Origin where
  | action | request
  deriving DecidableEq, Repr

/-- A stencil job (spec/06 6.3). -/
structure Job where
  serial : Nat
  invoice : Nat
  template : Fin 8
  snapshot : Option Snapshot
  origin : Origin
  deriving DecidableEq, Repr

/-- The job in hand of a channel: its composed lines, the current line and the characters of it sent. -/
structure JobInHand where
  job : Job
  lines : List Text
  line : Nat
  position : Nat
  deriving DecidableEq, Repr

/-- What a channel hands to its head (R130). -/
inductive HeadSymbol where
  | char (c : Byte)
  | endOfLine
  deriving DecidableEq, Repr

/-- A head: its queue and its channel. `out` is what the latest command that handed anything to the head handed to it
(the model's own field, log 26). -/
structure Head where
  state : HeadState
  queue : List Job
  inHand : Option JobInHand
  resume : ResumePoint
  ackTimer : Option Nat
  out : List HeadSymbol
  deriving DecidableEq, Repr

/-- The stencil formatter. -/
@[ext]
structure Formatter where
  templates : Vector Template 8
  heads : Vector Head 2
  deriving DecidableEq, Repr

/-! ### Sheet builder and record store (spec/07) -/

/-- A catalogue window (spec/07 7.1). -/
structure Window where
  base : Nat
  span : Nat
  lotBase : Nat
  enabled : Bool
  deriving DecidableEq, Repr

/-- The head of a sheet (R145). -/
structure SheetHead where
  number : Nat
  garden : Text
  grade : Text
  packType : Fin 8
  packages : Nat
  declaredNet : Nat
  tare : Nat
  totalDeclared : Nat
  totalGross : Int
  totalActual : Int
  giveaway : Int
  tightened : Bool
  shortClose : Bool
  overrun : Bool
  offProportion : Bool
  allowance : Nat
  date : Date
  lot : Option Nat
  bulkRun : Option Nat
  time : Option ClockReading
  deriving DecidableEq, Repr

/-- A chest entry of a sheet (R146). -/
structure SheetEntry where
  station : Fin 4
  deviation : Int
  status : StencilStatus
  sample : Bool
  deriving DecidableEq, Repr

/-- A stored sheet (R147): its place, whether it is written or reserved, and what has been written of it. -/
structure Sheet where
  invoice : Nat
  chests : Nat
  page : Nat
  first : Nat
  slots : Nat
  written : Bool
  head : Option SheetHead
  entries : List SheetEntry
  deriving DecidableEq, Repr

/-- The sheet builder and record store; the stored sheets stand oldest first, and the reserved ones among them are the
build line (R149). -/
@[ext]
structure Store where
  windows : Vector Window 4
  sheets : List Sheet
  freePage : Nat
  freeSlot : Nat
  waiting : List Nat
  deriving DecidableEq, Repr

/-! ### Date clock (spec/08) -/

/-- The date clock: UNSET with no reading, or RUNNING. -/
structure Clock where
  reading : Option ClockReading
  phase : Nat
  deriving DecidableEq, Repr

/-! ### Settings store (spec/10) -/

/-- One value of every setting (R194). -/
structure Image where
  stations : Vector StationSettings 4
  types : Vector PackType 8
  classes : Vector Allowance 4
  preactStart : Int
  tolerance : Nat
  vectors : Vector (Option (Fin 32)) 20
  sets : Vector WrittenSet 32
  templates : Vector Template 8
  windows : Vector Window 4
  speed : Nat
  mask : Vector Bool 7
  deriving DecidableEq, Repr

/-- An image place (R194): VALID when the check of its image agrees, which the model does not compute (log 40). -/
inductive Place where
  | invalid
  | valid (generation : Nat) (image : Image)
  deriving DecidableEq, Repr

/-- The save in flight (R196). -/
structure SaveInFlight where
  copy : Image
  target : Fin 2
  generation : Nat
  deriving DecidableEq, Repr

/-- The settings store. -/
structure Settings where
  places : Vector Place 2
  current : Option (Fin 2)
  defaulted : Bool
  save : Option SaveInFlight
  restart : Option RestartForm
  deriving DecidableEq, Repr

/-! ### Link controller (spec/09) -/

/-- The refusal reasons (spec/09 9.4). -/
inductive Reason where
  | length | unknown | range | state | notFound | full | busy | conflict | insufficient | storeFail
  deriving DecidableEq, Repr

/-- The content of a part of a sheet (spec/07 7.6). -/
inductive SheetPart where
  | head (head : SheetHead)
  | entries (entries : List SheetEntry)
  deriving DecidableEq, Repr

/-- The answer of a slot or of a fetch or capture answered at once (R189). -/
inductive SlotAnswer where
  | capture (station : Fin 4) (state : StationState) (q zt : Int)
  | sheet (invoice part last : Nat) (content : SheetPart)
  deriving DecidableEq, Repr

/-- A delayed-answer slot (R183). -/
inductive Slot where
  | free
  | waiting (key : SlotKey) (part : Option Nat) (wait : Option Nat)
  | ready (key : SlotKey) (part : Option Nat) (outcome : SlotOutcome) (answer : Option SlotAnswer) (discard : Nat)
  deriving DecidableEq, Repr

/-- What STATION-READ reports (R28). -/
structure StationReport where
  role : Role
  state : StationState
  settled : Bool
  outOfRange : Bool
  q : Int
  zt : Int
  filterCount : Nat
  settleCount : Nat
  decision : DecisionRecord
  outstanding : Bool
  queue : List Nat
  deriving DecidableEq, Repr

/-- One line of the table summary of INV-READ (R96). -/
structure InvoiceLine where
  number : Nat
  state : InvoiceState
  accepted : Nat
  packages : Nat
  bulkRun : Option Nat
  deriving DecidableEq, Repr

/-- What HEAD-READ reports of the job in hand (R139). -/
structure JobReport where
  serial : Nat
  invoice : Nat
  template : Fin 8
  lines : Nat
  line : Nat
  position : Nat
  remaining : Nat
  snapshot : Option Snapshot
  deriving DecidableEq, Repr

/-- What HEAD-READ reports (R139). -/
structure HeadReport where
  state : HeadState
  inHand : Option JobReport
  resume : ResumePoint
  ackLeft : Option Nat
  queue : List Job
  deriving DecidableEq, Repr

/-- One stored sheet as STORE-READ lists it (R160). -/
structure SheetLine where
  invoice : Nat
  page : Nat
  first : Nat
  slots : Nat
  written : Bool
  deriving DecidableEq, Repr

/-- What STATUS reports (R182). -/
structure StatusReport where
  linkError : Bool
  noticesLost : Bool
  defaulted : Bool
  clockRunning : Bool
  lineSpeed : Nat
  speedSetting : Nat
  mask : Vector Bool 7
  holding : Nat
  notices : Nat
  counter : Nat
  slots : Vector Slot 4
  deriving DecidableEq, Repr

/-- The data an OK reply carries, by the rule of its request. -/
inductive OkData where
  /-- Nothing (R3, R6, R9, R49, R58, R135). -/
  | done
  | station (report : StationReport)
  | zeroed (zt : Int)
  /-- An answer at once (no slot) or a collected slot (R189, R203). -/
  | delivered (slot : Option (Fin 4)) (key : SlotKey) (outcome : SlotOutcome) (answer : Option SlotAnswer)
  | packType (type : Fin 8) (tare : Nat)
  | tareList (type : Fin 8) (packType : PackType) (tare : Nat)
  | classes (pairs : Vector Allowance 4)
  | bulkDefined (run : Nat) (targets : List Nat)
  | bulkNext (state : RunState) (armed : Option (Nat × Nat))
  | bulkCarried (carried : Int)
  | bulkFed (fed : Nat)
  | bulkShort (total : Nat) (targets : List Nat) (offProportion : Bool) (state : RunState)
  | bulkRun (run : Nat)
  | bulkRecord (record : BulkRecord) (gain : Option Int)
  | bulkSummary (runs : List (Nat × RunState)) (preact preactStart : Int) (tolerance : Nat) (gateOpen : Bool)
      (active : Option Nat)
  | bulkConfig (preactStart : Int) (tolerance : Nat) (preact : Int)
  | invOpened (number requested granted tare : Nat) (date : Date) (bulkRun : Option Nat)
  | invoice (record : InvoiceRecord) (accepted : Nat)
  | chests (accepted : Nat) (chests : List Chest)
  | invSummary (lines : List InvoiceLine) (nextSerial : Nat) (queues : Vector (List Nat) 4)
  | voided (number : Nat) (chest : Chest) (tally : Int)
  | closed (state : InvoiceState) (short : Option (Nat × Nat))
  | cancelled (number returned : Nat)
  | queue (entries : List Nat)
  | vectors (entries : Vector (Option (Fin 32)) 20)
  | dispatcher (entries : Vector (Option (Fin 32)) 20) (sets : Vector ActionSet 32) (gates : Vector (Option Nat) 8)
  | actionSet (set : ActionSet)
  | templateLoaded (template : Fin 8) (lengths : List Nat)
  | template (lines : Template)
  | stencilQueued (head : Fin 2) (serial place : Nat)
  | headState (state : HeadState)
  | serials (serials : List Nat)
  | serial (serial : Nat)
  | head (report : HeadReport)
  | windows (windows : Vector Window 4) (lookup : Option (Option (Fin 4 × Nat)))
  | released (number pages freePage freeSlot : Nat)
  | storeSummary (freePage freeSlot pages sheets last : Nat) (building : Option (Nat × Nat)) (waiting : List (Nat × Nat))
  | storeList (last : Nat) (sheets : List SheetLine)
  | clock (reading : Option ClockReading)
  | clockRounded (reading : ClockReading)
  | status (report : StatusReport)
  | mask (flags : Vector Bool 7)
  | speeds (setting line : Nat)
  | saved (generation : Nat) (place : Fin 2)
  | restart (form : RestartForm)
  deriving DecidableEq, Repr

/-- The form of a reply (spec/09 9.4). -/
inductive Form where
  | ok (data : OkData)
  | pending (slot : Fin 4)
  | refused (reason : Reason)
  deriving DecidableEq, Repr

/-- A reply: the tag and kind of the frame it answers, its form, and whether it is a busy reply (R174). -/
structure Reply where
  tag : Byte
  kind : Byte
  form : Form
  busy : Bool
  deriving DecidableEq, Repr

/-- What the transmitter sends (R179). -/
inductive OutFrame where
  | reply (reply : Reply)
  | notice (number : Nat) (notice : Notice)
  deriving DecidableEq, Repr

/-- The receiver (R172): hunting, or assembling with the bytes after the start byte and the gap since the last of them. -/
inductive Receiver where
  | hunting
  | assembling (bytes : List Byte) (gap : Nat)
  deriving DecidableEq, Repr

/-- The request in hand (R175): its tag and kind. Every request is answered as it is dispatched but SAVE-SETTINGS, in hand
until its save ends, and RESTART, in hand until the restart is taken (R177). -/
structure InHand where
  tag : Byte
  kind : Byte
  deriving DecidableEq, Repr

/-- The link controller. -/
@[ext]
structure Link where
  lineSpeed : Nat
  speedSetting : Nat
  receiver : Receiver
  holding : List Frame
  inHand : Option InHand
  replies : List Reply
  sending : Option OutFrame
  notices : List (Nat × Notice)
  counter : Nat
  mask : Vector Bool 7
  slots : Vector Slot 4
  linkError : Bool
  noticesLost : Bool
  deriving DecidableEq, Repr

/-! ### The part -/

/-- The state of the part: the command queue, the arrivals sent between blocks and not yet taken, and its blocks. -/
@[ext]
structure State where
  pending : List Instr
  transit : List Instr
  powered : Bool
  stations : Vector Station 4
  packs : PackTable
  bulking : Bulking
  invoices : InvoiceTable
  actions : Dispatcher
  stencils : Formatter
  store : Store
  clock : Clock
  link : Link
  settings : Settings
  deriving DecidableEq, Repr

/-- The decision record at outcome NONE, its other fields absent (R9, R29). -/
def DecisionRecord.blank : DecisionRecord := ⟨.none, none, none, none, none, none⟩

/-- The default settings of a station (R199). -/
def StationSettings.default : StationSettings := ⟨.off, 8, 8, 1, 10, 60000, 1000, 0, false, 0, 0, 256⟩

/-- The settings given in place of an image when neither place is VALID (R199). -/
def Image.default : Image where
  stations := .replicate 4 StationSettings.default
  types := .replicate 8 ⟨.replicate 8 0x20, 1000, 300, []⟩
  classes := #v[⟨0, 8⟩, ⟨0, 5⟩, ⟨0, 3⟩, ⟨0, 1⟩]
  preactStart := 500
  tolerance := 20
  vectors := .replicate 20 none
  sets := .replicate 32 ⟨false, .notice 0, .every, .normal, 1, false, false⟩
  templates := .replicate 8 []
  windows := .replicate 4 ⟨0, 10, 1, false⟩
  speed := 115200
  mask := .replicate 7 true

/-- A station at the power-on of a part that starts from the defaults: role OFF (R29, R199). -/
def Station.atReset : Station :=
  ⟨StationSettings.default, 0, [], [], 0, 0, false, .off, false, false, .blank, none, false, none⟩

/-- The part right after its power-on with both image places INVALID: every block at its start values (R29, R42, R68, R97,
R114, R140, R162, R170, R190, R198), the defaults loaded and the settings-defaulted flag set. -/
def State.reset : State where
  pending := []
  transit := []
  powered := true
  stations := .replicate 4 Station.atReset
  packs := ⟨Image.default.types, Image.default.classes⟩
  bulking := ⟨[], 500, 500, 20, 1, false, none, 0, none⟩
  invoices := ⟨[], .replicate 4 [], 1⟩
  actions := ⟨.replicate 20 none, .replicate 32 ⟨⟨false, .notice 0, .every, .normal, 1, false, false⟩, false, 1⟩,
    .replicate 8 none⟩
  stencils := ⟨.replicate 8 [], .replicate 2 ⟨.idle, [], none, .none, none, []⟩⟩
  store := ⟨.replicate 4 ⟨0, 10, 1, false⟩, [], 0, 0, []⟩
  clock := ⟨none, 0⟩
  link := ⟨115200, 115200, .hunting, [], none, [], none, [], 0, .replicate 7 true, .replicate 4 .free, false, false⟩
  settings := ⟨.replicate 2 .invalid, none, true, none, none⟩

end Sys2Proof.Machine
end

