-- ==== Sys2Proof/Machine/Ops.lean ====
section
/-! DEFINITION. The operations every block shares: rounding (spec/00 3.3), arrivals sent from block to block, notices and
events, the reply line and the transmitter (R178, R179), the answers of owners, and the delayed-answer slots (R183 to
R186). Dispatch stands in Service. -/

namespace Sys2Proof.Machine

/-! ### Arithmetic -/

/-- `n / m` rounded to the nearest integer, halves up (spec/00 3.3). -/
def roundNat (n m : Nat) : Nat := (2 * n + m) / (2 * m)

/-- `n / m` rounded to the nearest integer, halves away from zero (spec/00 3.3). -/
def roundDiv (n : Int) (m : Nat) : Int := if n < 0 then -(roundNat n.natAbs m : Int) else (roundNat n.natAbs m : Int)

/-- `z` held within -limit..+limit, keeping its sign. -/
def clampAbs (limit z : Int) : Int := if limit < z then limit else if z < -limit then -limit else z

/-- A list that keeps its newest `n` entries when `x` joins at its end. -/
def pushNewest {α : Type} (n : Nat) (l : List α) (x : α) : List α := (l ++ [x]).drop (l.length + 1 - n)

/-- How many groups of `k` hold `n` things: `n / k` rounded up. -/
def ceilDiv (n k : Nat) : Nat := (n + k - 1) / k

/-- The number after `n` of a counter 1..65,535 (R45, R72). -/
def wrapNext (n : Nat) : Nat := if 65535 ≤ n then 1 else n + 1

/-- The first number from `n` on that is not in use, passing over at most `fuel` numbers (R45, R72). -/
def nextFree (used : Nat → Bool) : Nat → Nat → Nat
  | 0, n => n
  | fuel + 1, n => if used n then nextFree used fuel (wrapNext n) else n

/-! ### Powered commands -/

/-- A command's effect on a part that has power; without power nothing is taken (log 6). -/
def onPower (s : State) (f : State → State) : Host.Outcome State Fault Refusal :=
  .next (if s.powered then f s else s)

/-! ### Arrivals between blocks -/

/-- An arrival is sent: it stands in transit until it is taken (log 2). -/
def State.send (s : State) (m : Instr) : State := { s with transit := s.transit ++ [m] }

/-- An arrival is taken: the oldest equal one in transit, if any, has now arrived (log 2). -/
def State.taken (s : State) (m : Instr) : State := { s with transit := s.transit.erase m }

/-- A notice is offered to the link controller (R180). -/
def State.notify (s : State) (n : Notice) : State := s.send (.noticeOffer n)

/-- An event is raised at the action dispatcher with its context (R98). -/
def State.raise (s : State) (source : Fin 20) (context : EventContext) : State := s.send (.event source context)

/-- Several arrivals are sent in order. -/
def State.sendAll (s : State) (ms : List Instr) : State := { s with transit := s.transit ++ ms }

/-! ### Stations, as other blocks see them -/

/-- The station takes a new record. -/
def State.setStation (s : State) (i : Fin 4) (st : Station) : State := { s with stations := s.stations.set i st }

/-- The station that holds role FEED, if there is one (R2). -/
def feedStation (s : State) : Option (Fin 4) :=
  (List.finRange 4).find? fun i => s.stations[i].settings.role == .feed

/-! ### The reply line and the transmitter (R175, R178, R179) -/

/-- The transmitter, when free, begins the oldest reply, or with no reply the oldest notice (R179). -/
def Link.beginSend (l : Link) : Link :=
  match l.sending, l.replies, l.notices with
  | none, r :: rs, _ => { l with sending := some (.reply r), replies := rs }
  | none, [], (k, n) :: ns => { l with sending := some (.notice k n), notices := ns }
  | _, _, _ => l

/-- A reply joins the reply line. -/
def Link.joinReply (l : Link) (r : Reply) : Link := { l with replies := l.replies ++ [r] }

/-- Whether the front frame of the holding may be dispatched: no request in hand and no reply of a dispatched request
waiting unsent (R175). -/
def Link.mayDispatch (l : Link) : Bool := l.inHand.isNone && l.replies.all (·.busy)

/-- The reason of a refusal by the link controller (R176). -/
def dispatchReason : DispatchRefusal → Reason
  | .unknown => .unknown
  | .length => .length

/-- The request in hand is no longer in hand when it is of the kind answered (R175). -/
def Link.release (l : Link) (kind : Byte) : Link :=
  match l.inHand with
  | some h => if h.kind == kind then { l with inHand := none } else l
  | none => l

/-- A reply joins the reply line, in the part's state (R178). -/
def State.joinReply (s : State) (r : Reply) : State := { s with link := s.link.joinReply r }

/-- An owner's answer to a request: a refusal with its reason, or the state it leaves and the form of the reply. -/
abbrev Answer := Except Reason (State × Form)

/-- The request is taken with the data of its OK reply. -/
def okWith (s : State) (d : OkData) : Answer := .ok (s, .ok d)

/-- A check of a request: passed, or refused with a reason. -/
def require (c : Prop) [Decidable c] (r : Reason) : Except Reason Unit := if c then .ok () else .error r

/-- An object a request names: found, or refused with a reason. -/
def orRefuse {α : Type} (o : Option α) (r : Reason) : Except Reason α :=
  match o with
  | some a => .ok a
  | none => .error r

/-! ### Delayed-answer slots (R183 to R186) -/

/-- The key of a slot in use. -/
def Slot.key : Slot → Option SlotKey
  | .free => none
  | .waiting k _ _ => some k
  | .ready k _ _ _ _ => some k

/-- The slot that holds a key, if one does (R184). -/
def Link.findSlot (l : Link) (k : SlotKey) : Option (Fin 4) :=
  (List.finRange 4).find? fun i => l.slots[i].key == some k

/-- The lowest-numbered FREE slot (R185). -/
def Link.freeSlot (l : Link) : Option (Fin 4) := (List.finRange 4).find? fun i => l.slots[i] == .free

/-- A slot takes a new content. -/
def State.setSlot (s : State) (i : Fin 4) (c : Slot) : State :=
  { s with link := { s.link with slots := s.link.slots.set i c } }

/-- An owner that cannot answer now asks for a slot: PENDING with the slot taken, or BUSY (R185). A WEIGH-CAPTURE slot's
wait timer starts at zero; a SHEET-FETCH slot has none. -/
def askSlot (s : State) (k : SlotKey) (part : Option Nat) : Answer :=
  match s.link.freeSlot with
  | some i =>
    .ok (s.setSlot i (.waiting k part (match k with | .capture _ => some 0 | .fetch _ => none)), .pending i)
  | none => .error .busy

/-- The answer to a request that found the slot `i` (R184): PENDING while it waits; collected and freed when READY. -/
def answerFromSlot (s : State) (i : Fin 4) : Answer :=
  match s.link.slots[i] with
  | .waiting _ _ _ => .ok (s, .pending i)
  | .ready k _ o a _ => okWith (s.setSlot i .free) (.delivered (some i) k o a)
  | .free => .ok (s, .pending i)

/-- A slot in WAITING becomes READY: its outcome and answer, the discard timer at zero, SLOT-READY offered (R186). -/
def State.slotBecomesReady (s : State) (i : Fin 4) (o : SlotOutcome) (a : Option SlotAnswer) : State :=
  match s.link.slots[i] with
  | .waiting k part _ => (s.setSlot i (.ready k part o a 0)).notify (.slotReady i k o)
  | _ => s

/-- An answer or outcome for a key arrives from its owner; with no WAITING slot of that key it changes nothing (R186). -/
def State.slotArrival (s : State) (k : SlotKey) (o : SlotOutcome) (a : Option SlotAnswer) : State :=
  match s.link.findSlot k with
  | some i => s.slotBecomesReady i o a
  | none => s

/-! ### Invoices, as other blocks see them -/

/-- The invoice of a number (spec/04 4.1). -/
def InvoiceTable.find (t : InvoiceTable) (n : Nat) : Option Invoice := t.invoices.find? fun v => v.record.number == n

/-- The invoice of a number takes a new content. -/
def InvoiceTable.update (t : InvoiceTable) (n : Nat) (f : Invoice → Invoice) : InvoiceTable :=
  { t with invoices := t.invoices.map fun v => if v.record.number == n then f v else v }

/-- The invoice of a number takes a new content, in the part's state. -/
def State.updateInvoice (s : State) (n : Nat) (f : Invoice → Invoice) : State :=
  { s with invoices := s.invoices.update n f }

/-- The invoice moves to a state (R87). -/
def State.setInvoiceState (s : State) (n : Nat) (st : InvoiceState) : State :=
  s.updateInvoice n fun v => { v with record := { v.record with state := st } }

/-- The invoice and the chest of a chest serial. -/
def InvoiceTable.findSerial (t : InvoiceTable) (serial : Nat) : Option (Invoice × Chest) :=
  t.invoices.findSome? fun v => (v.chests.find? fun c => c.serial == serial).map fun c => (v, c)

/-- The chest of a serial, wherever it stands, takes a new content; its serial is kept (R71). -/
def InvoiceTable.updateChest (t : InvoiceTable) (serial : Nat) (f : Chest → Chest) : InvoiceTable :=
  { t with
    invoices := t.invoices.map fun v =>
      { v with chests := v.chests.map fun c => if c.serial == serial then f c else c } }

/-- The chest of a serial takes a stencil status (R91). -/
def State.setStatus (s : State) (serial : Nat) (st : StencilStatus) : State :=
  { s with invoices := s.invoices.updateChest serial fun c => { c with status := st } }

/-- What an arrival of R91 makes of a chest's status; a job removed on a void has no entry left. -/
def statusOf : StatusArrival → Option StencilStatus
  | .queued => some .pending
  | .refused => some .missed
  | .started => some .marking
  | .lineAcknowledged => some .marked
  | .skipped => some .abandoned
  | .dropped => some .abandoned
  | .removed => none

/-- A stencil status arrival is taken by the invoice table (R91). -/
def State.takeStatus (s : State) (serial : Nat) (a : StatusArrival) : State :=
  match statusOf a with
  | some st => s.setStatus serial st
  | none => s

/-- Whether a command is a stencil status arrival. -/
def isStatus : Instr → Bool
  | .stencilStatus _ _ => true
  | _ => false

/-- A status arrival in transit is taken; any other arrival is left. -/
def State.takeIfStatus (s : State) (m : Instr) : State :=
  match m with
  | .stencilStatus serial a => s.takeStatus serial a
  | _ => s

/-- The status arrivals the stencil formatter has sent are taken, in order, before it exchanges with the invoice table, so
that none overtakes the exchange (R123, R126; log 4). -/
def State.takeStatuses (s : State) : State :=
  (s.transit.filter isStatus).foldl State.takeIfStatus { s with transit := s.transit.filter fun m => !isStatus m }

/-! ### Stencil jobs, as other blocks see them -/

/-- The jobs of a head: the one in hand, then its queue. -/
def Head.jobs (h : Head) : List Job := (h.inHand.map (·.job)).toList ++ h.queue

/-- Every job of both heads. -/
def Formatter.jobs (f : Formatter) : List Job := f.heads[0].jobs ++ f.heads[1].jobs

/-- Whether a serial has a job (R123). -/
def Formatter.hasJob (f : Formatter) (serial : Nat) : Bool := f.jobs.any fun j => j.serial == serial

/-- Whether any job names an invoice (R128). -/
def Formatter.namesInvoice (f : Formatter) (n : Nat) : Bool := f.jobs.any fun j => j.invoice == n

/-! ### Dates (R169) -/

/-- The date the clock answers, absent when it is UNSET (R169). -/
def Clock.date (c : Clock) : Option Date := c.reading.map (·.date)

end Sys2Proof.Machine
end

