-- ==== Sys2Proof/Machine/Operands.lean ====
section
/-! DEFINITION. The operands of the requests: the range checks of R1 and R201 on numbers, flags, enumerations, texts and
dates, the absent and KEEP forms, and the item encoding of templates (R204). -/

namespace Sys2Proof.Machine

/-- A number that must name one of `n` things numbered from 0. -/
def index (n x : Nat) : Except Reason (Fin n) := if h : x < n then .ok ⟨x, h⟩ else .error .range

/-- A flag byte: 0 clear, 1 set, any other refused with RANGE (R201). -/
def flag (n : Nat) : Except Reason Bool := if n = 0 then .ok false else if n = 1 then .ok true else .error .range

/-- Whether a value lies in a stated range, both ends included (spec/00 3.7). -/
def within (lo hi n : Nat) : Bool := decide (lo ≤ n ∧ n ≤ hi)

/-- Whether a signed value lies in a stated range. -/
def withinInt (lo hi z : Int) : Bool := decide (lo ≤ z ∧ z ≤ hi)

/-- The characters allowed in text: A to Z, 0 to 9, space, hyphen, slash, point and ampersand (spec/00 3.6). -/
def allowedChar (c : Byte) : Bool :=
  let n := c.toNat
  decide ((65 ≤ n ∧ n ≤ 90) ∨ (48 ≤ n ∧ n ≤ 57) ∨ n = 32 ∨ n = 45 ∨ n = 47 ∨ n = 46 ∨ n = 38)

/-- A text of its field's width in allowed characters (spec/00 3.6; log 33). -/
def validText (width : Nat) (t : Text) : Bool := t.length == width && t.all allowedChar

/-- A station number. -/
def stationNumber (n : Nat) : Except Reason (Fin 4) := index 4 n

/-- An invoice number 1..99,999 (spec/00 3.8). -/
def validInvoice (n : Nat) : Bool := within 1 99999 n

/-- A run number 1..65,535 (spec/00 3.8). -/
def validRun (n : Nat) : Bool := within 1 65535 n

/-- A station role by its code (R201). -/
def roleOf : Nat → Except Reason Role
  | 0 => .ok .off
  | 1 => .ok .chest
  | 2 => .ok .tare
  | 3 => .ok .feed
  | _ => .error .range

/-- A restart form by its code: WARM, COLD (R192). -/
def restartForm : Nat → Except Reason RestartForm
  | 0 => .ok .warm
  | 1 => .ok .cold
  | _ => .error .range

/-- An act-on by its code (spec/11, ACTION-SET-WRITE). -/
def actOnOf : Nat → Except Reason ActOn
  | 0 => .ok .every
  | 1 => .ok .expiry
  | _ => .error .range

/-- A mode by its code (spec/11, ACTION-SET-WRITE). -/
def modeOf : Nat → Except Reason SetMode
  | 0 => .ok .normal
  | 1 => .ok .repeats
  | _ => .error .range

/-- The action of a set from its kind and two parameters; a parameter the kind does not use is ignored (R102, spec/11). -/
def actionOf (kind first second : Nat) : Except Reason Action :=
  match kind with
  | 0 => do
    let head ← index 2 first
    let template ← index 8 second
    pure (.stencil head template)
  | 1 => do
    let line ← index 8 first
    require (within 50 2000 second) .range
    pure (.gate line second)
  | 2 => do
    require (within 0 255 first) .range
    pure (.notice first)
  | 3 => do
    require (within 1 2000 second) .range
    pure (.sample second)
  | _ => .error .range

/-- A field given or marked KEEP; its value is judged only when given (R203). -/
def keepOr {α : Type} (f : KeepField α) (valid : α → Bool) : Except Reason (Option α) :=
  match f.given with
  | 0 => .ok none
  | 1 => if valid f.value then .ok (some f.value) else .error .range
  | _ => .error .range

/-! ### The calendar (R164) -/

/-- A leap year within 2000..2099: a whole multiple of 4 (R164). -/
def leapYear (y : Nat) : Bool := y % 4 == 0

/-- The length of a month in a year; 0 for a number that is no month (R164). -/
def monthLength (y m : Nat) : Nat :=
  match m with
  | 1 | 3 | 5 | 7 | 8 | 10 | 12 => 31
  | 4 | 6 | 9 | 11 => 30
  | 2 => if leapYear y then 29 else 28
  | _ => 0

/-- A calendar date of a year 2000..2099 (R73, R166). -/
def validDate (d : Date) : Bool :=
  within 2000 2099 d.year && within 1 12 d.month && within 1 (monthLength d.year d.month) d.day

/-- A reading of the clock within its ranges (R166). -/
def validReading (r : ClockReading) : Bool :=
  validDate r.date && within 0 23 r.hour && within 0 59 r.minute && within 0 59 r.second

/-! ### Templates (R116, R204) -/

/-- The field names by their first byte 0x81..0x8B (R204). -/
def fieldNameOf : Nat → Option FieldName
  | 0x81 => some .garden
  | 0x82 => some .grade
  | 0x83 => some .invoice
  | 0x84 => some .chest
  | 0x85 => some .of
  | 0x86 => some .net
  | 0x87 => some .gross
  | 0x88 => some .tare
  | 0x89 => some .actual
  | 0x8A => some .mfgDate
  | 0x8B => some .lot
  | _ => none

/-- The first byte of a field item (R204). -/
def FieldName.code : FieldName → Nat
  | .garden => 0x81
  | .grade => 0x82
  | .invoice => 0x83
  | .chest => 0x84
  | .of => 0x85
  | .net => 0x86
  | .gross => 0x87
  | .tare => 0x88
  | .actual => 0x89
  | .mfgDate => 0x8A
  | .lot => 0x8B

/-- Whether a field is one of the four weight fields (R121). -/
def FieldName.isWeight : FieldName → Bool
  | .net | .gross | .tare | .actual => true
  | _ => false

/-- The width of an item (R115). -/
def Item.width : Item → Nat
  | .literal t => t.length
  | .field _ w _ _ => w

/-- The length of a line (R115). -/
def lineLength (items : List Item) : Nat := (items.map Item.width).sum

/-- One item read from the front of the bytes, with its checks (R116, R204). -/
def readItem (bytes : List Byte) : Option (Item × List Byte) :=
  match bytes with
  | [] => none
  | b :: rest =>
    if 1 ≤ b.toNat ∧ b.toNat ≤ 32 then
      if rest.length < b.toNat then none
      else if (rest.take b.toNat).all allowedChar then some (.literal (rest.take b.toNat), rest.drop b.toNat)
      else none
    else
      match fieldNameOf b.toNat, rest with
      | some name, w :: a :: rest =>
        if within 1 32 w.toNat && decide (a.toNat % 16 ≤ 1) &&
            (!name.isWeight || within 1 2 (a.toNat / 16)) then
          some (.field name w.toNat (a.toNat % 16 == 1) (a.toNat / 16), rest)
        else none
      | _, _ => none

/-- The items of one line: read until their widths sum to `left`, at most `fuel` of them (R204). -/
def readItems : Nat → Nat → List Byte → Option (List Item × List Byte)
  | _, 0, bytes => some ([], bytes)
  | 0, _ + 1, _ => none
  | fuel + 1, left + 1, bytes =>
    match readItem bytes with
    | none => none
    | some (item, rest) =>
      if left + 1 < item.width then none
      else
        match readItems fuel (left + 1 - item.width) rest with
        | none => none
        | some (items, rest) => some (item :: items, rest)

/-- The lines of a TEMPLATE-LOAD: whole lines until the bytes end, at most `fuel` of them, each of at most eight items and
of a length 0..32 (R116, R204). -/
def readLines : Nat → List Byte → Option Template
  | _, [] => some []
  | 0, _ :: _ => none
  | fuel + 1, n :: rest =>
    if 32 < n.toNat then none
    else
      match readItems 8 n.toNat rest with
      | none => none
      | some (items, rest) => (readLines fuel rest).map (items :: ·)

/-- The template of a TEMPLATE-LOAD, at most six lines (R116, R204). -/
def readTemplate (bytes : List Byte) : Option Template := readLines 6 bytes

/-- An item in bytes (R204). -/
def Item.bytes : Item → List Byte
  | .literal t => BitVec.ofNat 8 t.length :: t
  | .field name w right decimals =>
    [BitVec.ofNat 8 name.code, BitVec.ofNat 8 w, BitVec.ofNat 8 ((if right then 1 else 0) + 16 * decimals)]

/-- The lines of a template in bytes (R204). -/
def templateBytes (t : Template) : List Byte :=
  t.flatMap fun items => BitVec.ofNat 8 (lineLength items) :: items.flatMap Item.bytes

end Sys2Proof.Machine
end

