-- ==== Sys2Proof/Machine/Flags.lean ====
section
/-! DEFINITION. The flags the part judges: a station's out-of-range and settled flags (R13, R14), the parity of a sample
word (R7), the giveaway tally with its overrun flag and the tightened latch (R80, R81), the off-proportion judgement
(R61), and the check of a frame (R202). -/

namespace Sys2Proof.Machine

/-! ### Stations -/

/-- Whether a byte and its parity bit hold an odd number of ones (R7). -/
def oddParity (b : Byte) (p : Bool) : Bool := (List.range 8).foldl (fun acc k => acc ^^ b.getLsbD k) p

/-- Whether every byte of a sample word passes its parity check (R7). -/
def sampleValid (w : SampleWord) : Bool :=
  oddParity (w.count.extractLsb' 0 8) w.parityLow && oddParity (w.count.extractLsb' 8 8) w.parityMid &&
    oddParity (w.count.extractLsb' 16 8) w.parityHigh

/-- Whether a weight lies outside the measuring range: above C + 9d or below -20d (R13). -/
def StationSettings.outOfRange (p : StationSettings) (q : Int) : Bool :=
  decide ((p.c : Int) + 9 * p.d < q ∨ q < -(20 * p.d : Int))

/-- The largest minus the smallest of the settle history. -/
def spread : List Int → Int
  | [] => 0
  | x :: xs => xs.foldl max x - xs.foldl min x

/-- The settled flag: the history holds M values and its spread is at most B·d (R14). -/
def StationSettings.judgeSettled (p : StationSettings) (history : List Int) : Bool :=
  history.length == p.m && decide (spread history ≤ (p.b * p.d : Nat))

/-! ### The giveaway of an invoice -/

/-- The tally and overrun flag after an accepted chest of deviation `dev` (R80). -/
def InvoiceRecord.addGiveaway (r : InvoiceRecord) (dev : Int) : InvoiceRecord :=
  if r.overrun then r
  else if Config.tallyLimit < r.tally + dev then { r with tally := Config.tallyLimit, overrun := true }
  else if r.tally + dev < -Config.tallyLimit then { r with tally := -Config.tallyLimit, overrun := true }
  else { r with tally := r.tally + dev }

/-- The tally after the void of a chest of deviation `dev` (R80). -/
def InvoiceRecord.subGiveaway (r : InvoiceRecord) (dev : Int) : InvoiceRecord :=
  if r.overrun then r else { r with tally := r.tally - dev }

/-- The tally exceeds a non-zero ceiling; saturated at +9,999 g by an overrun it exceeds every ceiling (R81). -/
def InvoiceRecord.exceedsCeiling (r : InvoiceRecord) : Bool :=
  r.ceiling != 0 && (decide ((r.ceiling : Int) < r.tally) || (r.overrun && r.tally == Config.tallyLimit))

/-- Whether the invoice tightens now: once, when its latch is clear (R81). -/
def InvoiceRecord.tightensNow (r : InvoiceRecord) : Bool := !r.tightened && r.exceedsCeiling

/-- The next stricter class; class 3 stays (R81). -/
def nextClass (c : Fin 4) : Fin 4 := if h : c.val + 1 < 4 then ⟨c.val + 1, h⟩ else c

/-- The record after tightening is judged (R81). -/
def InvoiceRecord.judgeTightening (r : InvoiceRecord) : InvoiceRecord :=
  if r.tightensNow then { r with cls := nextClass r.cls, tightened := true } else r

/-! ### The off-proportion judgement -/

/-- Whether a fed weight lies outside the tolerance of its rescaled figure; the comparison is exact (R61). -/
def outsideTolerance (tolerance fed figure : Nat) : Bool :=
  decide (tolerance * figure < 1000 * ((fed : Int) - figure).natAbs)

/-! ### The check of a frame -/

/-- One shift of the CRC register (R202). -/
def crcShift (r : BitVec 16) : BitVec 16 := if r.msb then (r <<< 1) ^^^ 0x1021 else r <<< 1

/-- One byte combined into the CRC register (R202). -/
def crcByte (r : BitVec 16) (b : Byte) : BitVec 16 :=
  (List.range 8).foldl (fun acc _ => crcShift acc) (r ^^^ (b.zeroExtend 16 <<< 8))

/-- The CRC-16 of a row of bytes (R202). -/
def crc16 (bytes : List Byte) : BitVec 16 := bytes.foldl crcByte 0xFFFF

/-- The two CRC bytes that follow a row of bytes, low byte first (R202). -/
def crcBytes (bytes : List Byte) : List Byte :=
  [(crc16 bytes).extractLsb' 0 8, (crc16 bytes).extractLsb' 8 8]

end Sys2Proof.Machine
end

