-- ==== Sys2Proof/Machine/Actions.lean ====
section
/-! DEFINITION. The action dispatcher (spec/05): vectors, action sets, runs and chains, and the gate output lines. -/

namespace Sys2Proof.Machine

/-- The kind of an action. -/
def Action.kind : Action → ActionKind
  | .stencil _ _ => .stencil
  | .gate _ _ => .gate
  | .notice _ => .notice
  | .sample _ => .sample

/-- Whether an action needs a chest serial (R104). -/
def Action.needsSerial : Action → Bool
  | .stencil _ _ | .sample _ => true
  | .gate _ _ | .notice _ => false

/-- A set takes a new content. -/
def State.setActionSet (s : State) (i : Fin 32) (a : ActionSet) : State :=
  { s with actions := { s.actions with sets := s.actions.sets.set i a } }

/-- A gate line takes a pulse, or goes low. -/
def State.setGate (s : State) (line : Fin 8) (p : Option Pulse) : State :=
  { s with actions := { s.actions with gates := s.actions.gates.set line p } }

/-- A set's action is performed on the event's context (R108 to R111). -/
def performAction (i : Fin 32) (source : Fin 20) (context : EventContext) (a : Action) (s : State) : State :=
  match a with
  | .stencil head template =>
    s.send (.stencilJobRequest head template (context.serial.getD 0) (context.invoice.getD 0))
  | .gate line length => s.setGate line (some ⟨0, length⟩)
  | .notice code => s.notify (.user code i source context)
  | .sample grams => s.send (.sampleMark (context.serial.getD 0) grams)

/-- What expiry does to a set (R106). -/
def expireSet (i : Fin 32) (source : Fin 20) (a : ActionSet) (s : State) : State :=
  match a.written.mode with
  | .normal => (s.setActionSet i { a with live := false, count := 0 }).notify (.setExhausted i .normal source)
  | .repeats =>
    let s := s.setActionSet i { a with count := a.written.reload }
    if a.written.notify then s.notify (.setExhausted i .repeats source) else s

/-- Whether a run performs its action: at each run, or at expiry only (R105). -/
def ActionSet.performs (a : ActionSet) : Bool := a.written.actOn == .every || a.count - 1 == 0

/-- A set runs with an event: skipped without the serial it needs, else acting and counting (R104 to R106). -/
def runSet (i : Fin 32) (source : Fin 20) (context : EventContext) (s : State) : State :=
  let a := s.actions.sets[i]
  if a.written.action.needsSerial && context.serial.isNone then
    s.notify (.actionSkipped i source a.written.action.kind)
  else
    let s := if a.performs then performAction i source context a.written.action s else s
    if a.count - 1 = 0 then expireSet i source a s else s.setActionSet i { a with count := a.count - 1 }

/-- The chain of an event from set `i` on, at most `fuel` sets: a disabled set stops it, and the last of the eight is cut
(R100, R107). -/
def runChain (source : Fin 20) (context : EventContext) : Nat → Fin 32 → State → State
  | 0, _, s => s
  | fuel + 1, i, s =>
    let a := s.actions.sets[i]
    if !a.live then s
    else
      let s := runSet i source context s
      if !a.written.chain then s
      else if fuel = 0 then s.notify (.chainCut source i)
      else if h : i.val + 1 < 32 then runChain source context fuel ⟨i.val + 1, h⟩ s
      else s

/-- An event is taken with every set of its chain (R99, R100). -/
def takeEvent (source : Fin 20) (context : EventContext) (s : State) : State :=
  match s.actions.vectors[source] with
  | none => s
  | some i => runChain source context Config.chainLength i s

/-- EVENT: an event arrives at the action dispatcher (R100). -/
def execEvent (source : Fin 20) (context : EventContext) (s : State) : Host.Outcome State Fault Refusal :=
  onPower s fun s => takeEvent source context (s.taken (.event source context))

/-- GATE_PULSE_END: a gate line's pulse ends and the line goes low (R109). -/
def execGatePulseEnd (line : Fin 8) (s : State) : Host.Outcome State Fault Refusal :=
  onPower s fun s => s.setGate line none

/-! ### Requests -/

/-- The set index a VECTOR-SET carries, or NONE (R101). -/
def vectorEntry (set : Option Nat) : Except Reason (Option (Fin 32)) :=
  match set with
  | none => .ok none
  | some n => (index 32 n).map some

/-- VECTOR-SET (R101). -/
def ownVectorSet (source : Nat) (set : Option Nat) (s : State) : Answer := do
  let src ← index 20 source
  let entry ← vectorEntry set
  let vectors := s.actions.vectors.set src entry
  okWith { s with actions := { s.actions with vectors := vectors } } (.vectors vectors)

/-- The time left of a pulse in milliseconds (R113). -/
def Pulse.left (p : Pulse) : Nat := p.length - p.run

/-- VECTOR-READ (R113). -/
def ownVectorRead (s : State) : Answer :=
  okWith s (.dispatcher s.actions.vectors s.actions.sets (s.actions.gates.map fun p => p.map Pulse.left))

/-- The written part an ACTION-SET-WRITE carries (R102). -/
def writtenSet (i : Fin 32) (r : ActionSetFields) : Except Reason WrittenSet := do
  let enabled ← flag r.enabled
  let action ← actionOf r.kind r.first r.second
  let actOn ← actOnOf r.actOn
  let mode ← modeOf r.mode
  require (within 1 256 r.reload) .range
  let notify ← flag r.notify
  let chain ← flag r.chain
  require (!(i == 31 && chain)) .range
  pure ⟨enabled, action, actOn, mode, r.reload, notify, chain⟩

/-- A set as its written part leaves it: the live flag the written one, the count the reload (R103, R114). -/
def WrittenSet.fresh (w : WrittenSet) : ActionSet := ⟨w, w.enabled, w.reload⟩

/-- ACTION-SET-WRITE (R102, R103). -/
def ownActionSetWrite (set : Nat) (r : ActionSetFields) (s : State) : Answer := do
  let i ← index 32 set
  let w ← writtenSet i r
  okWith (s.setActionSet i w.fresh) (.actionSet w.fresh)

/-- ACTION-SET-READ (R112). -/
def ownActionSetRead (set : Nat) (s : State) : Answer := do
  let i ← index 32 set
  okWith s (.actionSet s.actions.sets[i])

end Sys2Proof.Machine
end

