-- ==== Sys2Proof/Machine/Clock.lean ====
section
/-! DEFINITION. The date clock (spec/08). -/

namespace Sys2Proof.Machine

/-- The day after a date by the calendar; the year after 2099 is 2000 (R164). -/
def nextDay (d : Date) : Date :=
  if d.day < monthLength d.year d.month then { d with day := d.day + 1 }
  else if d.month < 12 then ⟨d.year, d.month + 1, 1⟩
  else if d.year < 2099 then ⟨d.year + 1, 1, 1⟩
  else ⟨2000, 1, 1⟩

/-- The minute of a reading rises by one, its second becoming 0; the flag says whether this was a midnight (R164). -/
def nextMinute (r : ClockReading) : ClockReading × Bool :=
  if r.minute < 59 then ({ r with minute := r.minute + 1, second := 0 }, false)
  else if r.hour < 23 then ({ r with hour := r.hour + 1, minute := 0, second := 0 }, false)
  else (⟨nextDay r.date, 0, 0, 0⟩, true)

/-- The reading advances by one second; the flag says whether this was a midnight (R164). -/
def nextSecond (r : ClockReading) : ClockReading × Bool :=
  if r.second < 59 then ({ r with second := r.second + 1 }, false) else nextMinute r

/-- The clock takes a reading, its phase at 0. -/
def State.setClock (s : State) (r : ClockReading) : State := { s with clock := ⟨some r, 0⟩ }

/-- The clock moves to a reading; a midnight raises event 19 and sends DAY-ROLLOVER (R165). -/
def moveClock (next : ClockReading × Bool) (s : State) : State :=
  let s := s.setClock next.1
  if next.2 then (s.raise 19 ⟨none, none, none⟩).notify (.dayRollover next.1.date) else s

/-- The phase reaches 1,000 ms (R164); an UNSET clock does not advance. -/
def takeSecond (s : State) : State :=
  match s.clock.reading with
  | some r => moveClock (nextSecond r) s
  | none => s

/-- SECOND_ADVANCE: the reading advances by one second (R164, R165). -/
def execSecondAdvance (s : State) : Host.Outcome State Fault Refusal :=
  onPower s takeSecond

/-- The clock through a warm restart: it keeps its reading and phase, and a second that is due as the restart is taken
advances the reading, its midnight raising nothing (R170; log 43). -/
def Clock.throughRestart (c : Clock) : Clock :=
  match c.reading with
  | some r => if Config.secondLength ≤ c.phase then ⟨some (nextSecond r).1, 0⟩ else c
  | none => c

/-- CLOCK-SET (R166). -/
def ownClockSet (r : ClockReading) (s : State) : Answer := do
  require (validReading r) .range
  okWith (s.setClock r) (.clock (some r))

/-- The reading rounded to the nearest whole minute (R167). -/
def roundReading (r : ClockReading) : ClockReading × Bool :=
  if r.second < 30 then ({ r with second := 0 }, false) else nextMinute r

/-- CLOCK-ROUND (R167). -/
def ownClockRound (s : State) : Answer := do
  let r ← orRefuse s.clock.reading .state
  okWith (moveClock (roundReading r) s) (.clockRounded (roundReading r).1)

/-- CLOCK-READ (R168). -/
def ownClockRead (s : State) : Answer := okWith s (.clock s.clock.reading)

end Sys2Proof.Machine
end

