-- ==== Sys2Proof/Machine/Bulking.lean ====
section
/-! DEFINITION. The bulking controller (spec/03): the bulk table, the feeding of components, holds, stalls, shorts, and the
commitment of bulk weight. -/

namespace Sys2Proof.Machine

/-! ### The bulk table -/

/-- The states of an active run (spec/03 3.2). -/
def RunState.isActive : RunState → Bool
  | .armed | .feeding | .settling | .between | .held | .stalled => true
  | .defined | .complete | .aborted => false

/-- The record of a run number. -/
def Bulking.find (b : Bulking) (run : Nat) : Option BulkRecord := b.records.find? fun r => r.run == run

/-- The record of a run number takes a new content. -/
def Bulking.update (b : Bulking) (run : Nat) (f : BulkRecord → BulkRecord) : Bulking :=
  { b with records := b.records.map fun r => if r.run == run then f r else r }

/-- The active run, if there is one (R46). -/
def Bulking.active (b : Bulking) : Option BulkRecord := b.records.find? fun r => r.state.isActive

/-- The bulk record of a run takes a new content, in the part's state. -/
def State.updateRun (s : State) (run : Nat) (f : BulkRecord → BulkRecord) : State :=
  { s with bulking := s.bulking.update run f }

/-- The active component with its index. -/
def BulkRecord.activeComponent (r : BulkRecord) : Option (Nat × Component) :=
  match r.active with
  | some i => (r.components[i]?).map fun c => (i, c)
  | none => none

/-- The active component takes a new content. -/
def BulkRecord.setComponent (r : BulkRecord) (i : Nat) (f : Component → Component) : BulkRecord :=
  { r with components := r.components.modify i f }

/-- The active component takes a state, and the run with it (R50 to R58). -/
def BulkRecord.move (r : BulkRecord) (i : Nat) (c : ComponentState) (st : RunState) : BulkRecord :=
  { r.setComponent i fun k => { k with state := c } with state := st }

/-- The gain at a reading: the carried gain plus the rise since the start reading (spec/03 3.4). -/
def BulkRecord.gain (r : BulkRecord) (q : Int) : Int :=
  match r.start with
  | some w => r.carried + (q - w)
  | none => r.carried

/-- The gain at the last reading; the carried gain where there is no start weight (R56, R59). -/
def Bulking.gainAtLast (b : Bulking) (r : BulkRecord) : Int :=
  match b.lastReading with
  | some l => r.gain l.q
  | none => r.carried

/-- The sum of the fed weights of all components (R54). -/
def BulkRecord.sumFed (r : BulkRecord) : Nat := (r.components.map (·.fed)).sum

/-- A component's share of a total: round(total × fraction / 1000) (R44). -/
def share (total fraction : Nat) : Nat := roundNat (total * fraction) 1000

/-- The gate closes and the stall timer stops (R48, R51). -/
def Bulking.closeGate (b : Bulking) : Bulking := { b with gateOpen := false, stallTimer := none }

/-- The targets of the PENDING components, in order (R60). -/
def BulkRecord.pendingTargets (r : BulkRecord) : List Nat :=
  (r.components.filter fun c => c.state == .pending).map (·.target)

/-- The index of the lowest-numbered PENDING component (R53). -/
def BulkRecord.nextPending (r : BulkRecord) : Option Nat := r.components.findIdx? fun c => c.state == .pending

/-- The record a request names: RANGE outside 1..65,535, NOTFOUND when no record holds the number (R1, R49). -/
def bulkNamed (run : Nat) (s : State) : Except Reason BulkRecord := do
  require (validRun run) .range
  orRefuse (s.bulking.find run) .notFound

/-- A run completes (R54). -/
def completeRun (r : BulkRecord) (s : State) : State :=
  let fed := r.sumFed
  let date := s.clock.date
  let done := { r with fed := fed, uncommitted := fed, active := none, start := none, date := date, state := .complete }
  ((s.updateRun r.run fun _ => done).notify (.bulkComplete r.run fed date r.offProportion r.short)).raise 15
    ⟨none, none, none⟩

/-! ### BULK-DEFINE, BULK-START and BULK-NEXT -/

/-- Whether the fields of BULK-DEFINE lie in range (R44). -/
def defineInRange (total count : Nat) (cs : List ComponentFields) : Bool :=
  within 10000 2000000 total && count == cs.length && within 1 8 cs.length &&
    (cs.all fun c => within 1 1000 c.fraction && validText 10 c.label) && (cs.map (·.fraction)).sum == 1000

/-- The new record of BULK-DEFINE (R44). -/
def newRun (run total : Nat) (cs : List ComponentFields) : BulkRecord :=
  { run := run, state := .defined, definedTotal := total, total := total
    components := cs.map fun c => ⟨c.label, c.fraction, share total c.fraction, 0, .pending⟩
    active := none, carried := 0, start := none, fed := 0, uncommitted := 0, bound := 0, date := none
    offProportion := false, short := false }

/-- BULK-DEFINE (R44, R45). -/
def ownBulkDefine (total count : Nat) (cs : List ComponentFields) (s : State) : Answer := do
  require (defineInRange total count cs) .range
  require (decide (s.bulking.records.length < Config.bulkPlaces)) .full
  let run := s.bulking.nextRun
  let r := newRun run total cs
  let records := s.bulking.records ++ [r]
  let next := nextFree (fun n => records.any fun k => k.run == n) records.length (wrapNext run)
  okWith { s with bulking := { s.bulking with records := records, nextRun := next } }
    (.bulkDefined run (r.components.map (·.target)))

/-- Whether a station holds role FEED and its state is ACTIVE (R49). -/
def feedIsActive (s : State) : Bool :=
  match feedStation s with
  | some i => s.stations[i].state == .active
  | none => false

/-- BULK-START (R49). -/
def ownBulkStart (run : Nat) (s : State) : Answer := do
  let r ← bulkNamed run s
  require (r.state == .defined && s.bulking.active.isNone && feedIsActive s) .state
  okWith (s.updateRun run fun r => { r.move 0 .armed .armed with active := some 0, carried := 0, start := none }) .done

/-- BULK-NEXT (R53). -/
def ownBulkNext (run : Nat) (s : State) : Answer := do
  let r ← bulkNamed run s
  require (r.state == .between) .state
  match r.nextPending with
  | some i =>
    okWith (s.updateRun run fun r => { r.move i .armed .armed with active := some i, carried := 0, start := none })
      (.bulkNext .armed ((r.components[i]?).map fun c => (i, c.target)))
  | none => okWith (completeRun r s) (.bulkNext .complete none)

/-! ### Readings and leave reports (R47 to R52, R57) -/

/-- Whether the close condition holds for a gain: at least target less preact (R51). -/
def Bulking.closes (b : Bulking) (c : Component) (gain : Int) : Bool := decide ((c.target : Int) - b.preact ≤ gain)

/-- A start reading in ARMED (R50). -/
def startReading (r : BulkRecord) (i : Nat) (c : Component) (q : Int) (s : State) : State :=
  if s.bulking.closes c r.carried then
    s.updateRun r.run fun r => { r.move i .settling .settling with start := some q }
  else
    let s := s.updateRun r.run fun r => { r.move i .feeding .feeding with start := some q }
    { s with bulking := { s.bulking with gateOpen := true, stallTimer := some 0, stallReference := r.carried } }

/-- A reading in FEEDING (R51). -/
def feedingReading (r : BulkRecord) (i : Nat) (c : Component) (q : Int) (d : Nat) (s : State) : State :=
  if s.bulking.closes c (r.gain q) then
    let s := s.updateRun r.run fun r => r.move i .settling .settling
    { s with bulking := s.bulking.closeGate }
  else if s.bulking.stallReference + d ≤ r.gain q then
    { s with bulking := { s.bulking with stallReference := r.gain q, stallTimer := some 0 } }
  else s

/-- The preact learnt from an overshoot: half of it, truncated toward zero, held within 0..5,000 g (R52). -/
def learnPreact (preact overshoot : Int) : Int := max 0 (min Config.preactLimit (preact + overshoot.tdiv 2))

/-- A settled reading in SETTLING ends the component DONE (R52); the run's fed total stands until the run ends (log 44). -/
def settlingReading (r : BulkRecord) (i : Nat) (c : Component) (station : Fin 4) (q : Int) (s : State) : State :=
  let fed := (r.gain q).toNat
  let overshoot : Int := (fed : Int) - c.target
  let preact := learnPreact s.bulking.preact overshoot
  let s := s.updateRun r.run fun r =>
    { (r.setComponent i fun k => { k with state := .done, fed := fed }) with state := .between, start := none }
  let s := { s with bulking := { s.bulking with preact := preact } }
  (s.notify (.bulkComponentDone r.run i c.target fed overshoot preact)).raise 14 ⟨some station, none, none⟩

/-- A reading moves the active run as its state gives (R47). -/
def takeReading (station : Fin 4) (q : Int) (settled : Bool) (d : Nat) (s : State) : State :=
  let s := { s with bulking := { s.bulking with lastReading := some ⟨station, d, q⟩ } }
  match s.bulking.active with
  | none => s
  | some r =>
    match r.activeComponent with
    | none => s
    | some (i, c) =>
      match r.state with
      | .armed => if settled then startReading r i c q s else s
      | .feeding => feedingReading r i c q d s
      | .settling => if settled then settlingReading r i c station q s else s
      | _ => s

/-- READING: a reading of the FEED station arrives at the bulking controller (R47). -/
def execReading (station : Fin 4) (q : Int) (settled : Bool) (d : Nat) (s : State) :
    Host.Outcome State Fault Refusal :=
  onPower s fun s => takeReading station q settled d (s.taken (.reading station q settled d))

/-- The run is held or stalled: the gate closes, the gain at the last reading is carried, the component stands in ARMED
(R56, R57). -/
def carryGain (r : BulkRecord) (i : Nat) (st : RunState) (s : State) : State :=
  let carried := s.bulking.gainAtLast r
  let s := s.updateRun r.run fun r => { r.move i .armed st with carried := carried, start := none }
  { s with bulking := s.bulking.closeGate }

/-- A run in FEEDING or SETTLING stalls (R57). -/
def stallRun (reason : StallReason) (r : BulkRecord) (s : State) : State :=
  match r.activeComponent with
  | none => s
  | some (i, c) =>
    (carryGain r i .stalled s).notify (.bulkStalled r.run i reason c.target (s.bulking.gainAtLast r))

/-- A leave report (R47, R57). -/
def takeLeaveReport (s : State) : State :=
  match s.bulking.active with
  | none => s
  | some r =>
    match r.state with
    | .feeding | .settling => stallRun .signal r s
    | _ => s

/-- LEAVE_REPORT: the FEED station has left ACTIVE (R47, R57). -/
def execLeaveReport (s : State) : Host.Outcome State Fault Refusal :=
  onPower s fun s => takeLeaveReport (s.taken .leaveReport)

/-- The stall timer of a FEEDING run reaches 20 s (R57); a stopped timer does not expire (log 7). -/
def takeStallExpiry (s : State) : State :=
  match s.bulking.stallTimer, s.bulking.active with
  | some _, some r => if r.state == .feeding then stallRun .noFlow r s else s
  | _, _ => s

/-- STALL_TIMER_EXPIRY: a FEEDING run stalls with reason NOFLOW (R57). -/
def execStallTimerExpiry (s : State) : Host.Outcome State Fault Refusal :=
  onPower s takeStallExpiry

/-! ### BULK-HOLD, BULK-RESUME and BULK-ABORT -/

/-- BULK-HOLD (R56). -/
def ownBulkHold (run : Nat) (s : State) : Answer := do
  let r ← bulkNamed run s
  require (r.state == .feeding || r.state == .armed) .state
  let (i, _) ← orRefuse r.activeComponent .state
  if r.state == .feeding then okWith (carryGain r i .held s) (.bulkCarried (s.bulking.gainAtLast r))
  else okWith (s.updateRun run fun r => { r.move i .armed .held with start := none }) (.bulkCarried r.carried)

/-- BULK-RESUME (R58). -/
def ownBulkResume (run : Nat) (s : State) : Answer := do
  let r ← bulkNamed run s
  require (r.state == .held || r.state == .stalled) .state
  okWith (s.updateRun run fun r => { r with state := .armed }) .done

/-- A component at an abort: one in progress records its gain, and every one not DONE or SHORT is SKIPPED (R59). -/
def Component.abort (gain : Int) (c : Component) : Component :=
  match c.state with
  | .armed | .feeding | .settling => { c with fed := gain.toNat, state := .skipped }
  | .done | .short => c
  | .pending | .skipped => { c with state := .skipped }

/-- The record of a run after an abort (R59). -/
def BulkRecord.abort (r : BulkRecord) (gain : Int) : BulkRecord :=
  let components := r.components.map (Component.abort gain)
  { r with components := components, fed := (components.map (·.fed)).sum, uncommitted := 0, active := none, start := none
           state := .aborted }

/-- BULK-ABORT (R59). An abort of a run that is not the active one finds the gate closed and no stall timer running. -/
def ownBulkAbort (run : Nat) (s : State) : Answer := do
  let r ← bulkNamed run s
  require (r.state != .complete && r.state != .aborted) .state
  let after := r.abort (s.bulking.gainAtLast r)
  let s := s.updateRun run fun _ => after
  let bulking := if r.state.isActive then s.bulking.closeGate else s.bulking
  okWith { s with bulking := bulking } (.bulkFed after.fed)

/-! ### BULK-SHORT (R60, R61) -/

/-- A component under the rescale of a short: a PENDING one takes its new target (R61 step 2). -/
def Component.rescale (total : Nat) (c : Component) : Component :=
  if c.state == .pending then { c with target := share total c.fraction } else c

/-- Whether an ended component other than the short one lies outside the tolerance (R61 step 3). -/
def Component.outside (tolerance total : Nat) (c : Component) : Bool :=
  (c.state == .done || c.state == .short) && outsideTolerance tolerance c.fed (share total c.fraction)

/-- Whether any ended component but the one at `i` lies outside the tolerance (R61 step 3). -/
def BulkRecord.anyOutside (r : BulkRecord) (tolerance total i : Nat) : Bool :=
  (r.components.zipIdx).any fun (c, j) => j != i && c.outside tolerance total

/-- The record after the active component `i` is declared SHORT with fed weight `fed` and the run rescaled, before step 4 or
5 of R61. -/
def BulkRecord.shorten (r : BulkRecord) (tolerance i fed fraction : Nat) : BulkRecord :=
  let total := roundNat (fed * 1000) fraction
  let r := r.setComponent i fun c => { c with fed := fed, state := .short }
  { r with total := total, components := r.components.map (Component.rescale total), short := true
           offProportion := r.offProportion || r.anyOutside tolerance total i }

/-- The fed weight of the component declared SHORT: the carried gain in HELD or STALLED, what it recorded in BETWEEN
(R60). -/
def shortFed (r : BulkRecord) (c : Component) : Nat := if r.state == .between then c.fed else r.carried.toNat

/-- BULK-SHORT (R60, R61). -/
def ownBulkShort (run : Nat) (s : State) : Answer := do
  let r ← bulkNamed run s
  require (r.state == .held || r.state == .stalled || r.state == .between) .state
  let (i, c) ← orRefuse r.activeComponent .state
  require (!(r.state == .between && c.state == .short)) .state
  let after := r.shorten s.bulking.tolerance i (shortFed r c) c.fraction
  if after.total < Config.shortTotalLimit then
    let skipped := { after with
      components := after.components.map fun k => if k.state == .pending then { k with state := .skipped } else k
      offProportion := true }
    okWith (completeRun skipped s) (.bulkShort after.total skipped.pendingTargets true .complete)
  else
    let between := { after with state := .between }
    okWith (s.updateRun run fun _ => between)
      (.bulkShort after.total between.pendingTargets between.offProportion .between)

/-! ### Retiring, reading and configuring -/

/-- BULK-RETIRE (R65). -/
def ownBulkRetire (run : Nat) (s : State) : Answer := do
  let r ← bulkNamed run s
  require ((r.state == .complete || r.state == .aborted) && r.bound == 0) .state
  okWith { s with bulking := { s.bulking with records := s.bulking.records.filter fun k => k.run != run } } (.bulkRun run)

/-- The gain BULK-READ reports: in FEEDING or SETTLING, at the last reading (R66). -/
def Bulking.reportedGain (b : Bulking) (r : BulkRecord) : Option Int :=
  match r.state with
  | .feeding | .settling => some (b.gainAtLast r)
  | _ => none

/-- The run numbers and states of the table in ascending run number (R66). -/
def Bulking.runList (b : Bulking) : List (Nat × RunState) :=
  (b.records.map fun r => (r.run, r.state)).mergeSort fun x y => decide (x.1 ≤ y.1)

/-- BULK-READ (R66). -/
def ownBulkRead (run : Nat) (s : State) : Answer := do
  if run = 0 then
    okWith s (.bulkSummary s.bulking.runList s.bulking.preact s.bulking.preactStart s.bulking.tolerance
      s.bulking.gateOpen (s.bulking.active.map (·.run)))
  else
    let r ← bulkNamed run s
    okWith s (.bulkRecord r (s.bulking.reportedGain r))

/-- BULK-CONFIG (R67). -/
def ownBulkConfig (preactStart : Int) (tolerance : Nat) (preact : KeepField Int) (s : State) : Answer := do
  require (withinInt 0 Config.preactLimit preactStart) .range
  require (within 0 1000 tolerance) .range
  let given ← keepOr preact (withinInt 0 Config.preactLimit)
  let now := given.getD s.bulking.preact
  okWith { s with bulking := { s.bulking with preactStart := preactStart, tolerance := tolerance, preact := now } }
    (.bulkConfig preactStart tolerance now)

/-! ### Commitments, returns and leave reports of invoices (R62, R63) -/

/-- A commitment granted: the grant, the completion date and the off-proportion flag (R62). -/
structure Grant where
  packages : Nat
  date : Option Date
  offProportion : Bool
  deriving DecidableEq, Repr

/-- A commitment request: refused, or granted with the weight taken from the run (R62). -/
def commitWeight (run packages net : Nat) (s : State) : Except Reason (State × Grant) := do
  let r ← orRefuse (s.bulking.find run) .notFound
  require (r.state == .complete) .state
  let granted := min packages (r.uncommitted / net)
  require (granted != 0) .insufficient
  pure (s.updateRun run fun r => { r with uncommitted := r.uncommitted - granted * net, bound := r.bound + 1 },
    ⟨granted, r.date, r.offProportion⟩)

/-- A return of weight to a run (R63). -/
def returnWeight (run : Option Nat) (weight : Nat) (s : State) : State :=
  match run with
  | some n => s.updateRun n fun r => { r with uncommitted := r.uncommitted + weight }
  | none => s

/-- A bound invoice leaves the table: the run's bound count falls by one (R63). -/
def invoiceLeaves (run : Option Nat) (s : State) : State :=
  match run with
  | some n => s.updateRun n fun r => { r with bound := r.bound - 1 }
  | none => s

end Sys2Proof.Machine
end

