-- ==== Sys2Proof/Machine/PackTypes.lean ====
section
/-! DEFINITION. Package types, tare lists and tolerance classes (spec/02). -/

namespace Sys2Proof.Machine

/-- The tare value of a type: its nominal tare with an empty list, else 10 × round(sum / (10 × count)) (R33). -/
def PackType.tare (p : PackType) : Nat :=
  if p.tares.isEmpty then p.nominal else 10 * roundNat p.tares.sum (10 * p.tares.length)

/-- Whether a sample is admitted: within the admission window, and 1 g or more (R31). -/
def PackType.admits (p : PackType) (gross : Int) : Bool :=
  decide ((p.nominal : Int) - p.band ≤ gross ∧ gross ≤ (p.nominal : Int) + p.band ∧ 1 ≤ gross)

/-- An admitted sample joins the list as its newest entry, the oldest of ten leaving (R32). -/
def PackType.addSample (p : PackType) (gross : Int) : PackType :=
  { p with tares := pushNewest Config.tareListSize p.tares gross.toNat }

/-- A type takes a new content. -/
def State.setPackType (s : State) (t : Fin 8) (p : PackType) : State :=
  { s with packs := { s.packs with types := s.packs.types.set t p } }

/-- A tare sample is judged and answered (R31, R32). -/
def takeTareSample (station : Fin 4) (t : Fin 8) (gross : Int) (s : State) : State :=
  let p := s.packs.types[t]
  if p.admits gross then (s.setPackType t (p.addSample gross)).send (.tareAnswer station t true)
  else s.send (.tareAnswer station t false)

/-- TARE_SAMPLE: a tare sample arrives at the package type table and is admitted or rejected (R31, R32). -/
def execTareSample (station : Fin 4) (t : Fin 8) (gross : Int) (s : State) : Host.Outcome State Fault Refusal :=
  onPower s fun s => takeTareSample station t gross (s.taken (.tareSample station t gross))

/-- PACKTYPE-SET (R36). -/
def ownPacktypeSet (type : Nat) (description : Text) (nominal band : Int) (s : State) : Answer := do
  let t ← index 8 type
  require (withinInt 100 20000 nominal && withinInt 10 2000 band && validText 8 description) .range
  let p : PackType := ⟨description, nominal.toNat, band.toNat, []⟩
  okWith (s.setPackType t p) (.packType t p.tare)

/-- TARE-LIST-CLEAR (R37). -/
def ownTareListClear (type : Nat) (s : State) : Answer := do
  let t ← index 8 type
  let p : PackType := { s.packs.types[t] with tares := [] }
  okWith (s.setPackType t p) (.packType t p.tare)

/-- TARE-LIST-READ (R38). -/
def ownTareListRead (type : Nat) (s : State) : Answer := do
  let t ← index 8 type
  okWith s (.tareList t s.packs.types[t] s.packs.types[t].tare)

/-- Whether a class table is ordered: no class allows more than a lower-numbered one (R40). -/
def classesOrdered (cs : Vector Allowance 4) : Bool :=
  decide (cs[1].under ≤ cs[0].under ∧ cs[2].under ≤ cs[1].under ∧ cs[3].under ≤ cs[2].under ∧
    cs[1].overBy ≤ cs[0].overBy ∧ cs[2].overBy ≤ cs[1].overBy ∧ cs[3].overBy ≤ cs[2].overBy)

/-- Whether every pair of a class table lies in range (R40). -/
def classesInRange (c : Vector Allowance 4) : Bool := c.all fun a => within 0 4 a.under && within 0 15 a.overBy

/-- CLASS-SET (R40). -/
def ownClassSet (pairs : Vector (Nat × Nat) 4) (s : State) : Answer := do
  let c := pairs.map fun p => Allowance.mk p.1 p.2
  require (classesInRange c && classesOrdered c) .range
  okWith { s with packs := { s.packs with classes := c } } (.classes c)

/-- CLASS-READ (R41). -/
def ownClassRead (s : State) : Answer := okWith s (.classes s.packs.classes)

end Sys2Proof.Machine
end

