-- ==== Sys2Proof/Machine/Invoices.lean ====
section
/-! DEFINITION. The invoice table (spec/04): opening, appends, the giveaway tally, station queues, voids, closing,
cancelling, amending, sample marks, stencil statuses and lot binding. -/

namespace Sys2Proof.Machine

/-! ### Shared operations of the table -/

/-- The invoice a request names: RANGE outside 1..99,999, NOTFOUND when no record holds the number. -/
def invoiceNamed (n : Nat) (s : State) : Except Reason Invoice := do
  require (validInvoice n) .range
  orRefuse (s.invoices.find n) .notFound

/-- The accepted count (R71). -/
def Invoice.accepted (v : Invoice) : Nat := v.chests.length

/-- The record of an invoice takes a new content. -/
def State.updateRecord (s : State) (n : Nat) (f : InvoiceRecord → InvoiceRecord) : State :=
  s.updateInvoice n fun v => { v with record := f v.record }

/-- An invoice is removed from every station queue in which it stands (R84). -/
def State.leaveQueues (s : State) (n : Nat) : State :=
  { s with invoices := { s.invoices with queues := s.invoices.queues.map fun q => q.filter fun k => k != n } }

/-- An invoice leaves the table and its slot becomes free (R70). -/
def State.removeInvoice (s : State) (n : Nat) : State :=
  { s with invoices := { s.invoices with invoices := s.invoices.invoices.filter fun v => v.record.number != n } }

/-- Closing begins: the invoice enters CLOSING and a sheet is asked for (R87). -/
def beginClosing (n : Nat) (s : State) : State := (s.setInvoiceState n .closing).send (.sheetRequest n)

/-- The serials in use: those of every chest in the table and of every stencil job (R72). -/
def usedSerials (s : State) : List Nat :=
  (s.invoices.invoices.flatMap fun v => v.chests.map (·.serial)) ++ s.stencils.jobs.map (·.serial)

/-- The counter advances past the numbers in use (R72). -/
def advanceSerial (s : State) : State :=
  let used := usedSerials s
  { s with invoices := { s.invoices with
    nextSerial := nextFree (fun n => used.contains n) used.length (wrapNext s.invoices.nextSerial) } }

/-- GIVEAWAY-HIGH is sent when the invoice tightened (R81). -/
def notifyTightening (before after : InvoiceRecord) (s : State) : State :=
  if before.tightensNow then s.notify (.giveawayHigh after.number after.tally after.ceiling after.cls) else s

/-- The lot the windows give an invoice number, with its window: the lowest-numbered window that covers it (R142). -/
def Store.lotOf (t : Store) (n : Nat) : Option (Fin 4 × Nat) :=
  ((List.finRange 4).find? fun i =>
    t.windows[i].enabled && decide (t.windows[i].base ≤ n ∧ n < t.windows[i].base + t.windows[i].span)).map fun i =>
      (i, t.windows[i].lotBase + (n - t.windows[i].base))

/-- The binding that the windows give an invoice number (R94). -/
def Store.binding (t : Store) (n : Nat) : LotBinding :=
  match t.lotOf n with
  | some (_, lot) => .bound lot
  | none => .none

/-- A lot enquiry reaches the invoice: an UNRESOLVED binding is resolved (R94). -/
def lotEnquiry (n : Nat) (s : State) : State :=
  s.updateRecord n fun r => if r.lot == .unresolved then { r with lot := s.store.binding n } else r

/-! ### INV-OPEN -/

/-- Whether the fields of INV-OPEN lie in range, but for those read by `index` and `flag` (R73). -/
def openInRange (r : InvOpenFields) : Bool :=
  validInvoice r.number && validText 12 r.garden && validText 6 r.grade && within 1000 100000 r.declaredNet &&
    within 1 120 r.packages && within 0 9999 r.ceiling && within 0 Config.allowanceLimit r.allowance &&
    (match r.bulkRun with | none => true | some n => validRun n) &&
    (match r.date with | none => true | some d => validDate d)

/-- Whether the table or the record store carries an invoice number (R74 step 1, R161). -/
def numberTaken (n : Nat) (s : State) : Bool :=
  (s.invoices.find n).isSome || s.store.sheets.any fun t => t.invoice == n

/-- The commitment of INV-OPEN: none asked when no run is named (R74 step 5). -/
def openCommitment (r : InvOpenFields) (s : State) : Except Reason (State × Grant) :=
  match r.bulkRun with
  | none => .ok (s, ⟨r.packages, none, false⟩)
  | some run => commitWeight run r.packages r.declaredNet s

/-- INV-OPEN (R73 to R75). -/
def ownInvOpen (r : InvOpenFields) (s : State) : Answer := do
  require (openInRange r) .range
  let packType ← index 8 r.packType
  let cls ← index 4 r.cls
  let autoClose ← flag r.autoClose
  require (!numberTaken r.number s) .conflict
  require (decide (s.invoices.invoices.length < Config.invoiceSlots)) .full
  require (r.date.isSome || s.clock.reading.isSome) .state
  let tare := s.packs.types[packType].tare
  let (s, grant) ← openCommitment r s
  let date ← orRefuse ((r.date.or grant.date).or s.clock.date) .state
  let record : InvoiceRecord :=
    { number := r.number, garden := r.garden, grade := r.grade, packType := packType, tare := tare
      declaredNet := r.declaredNet, packages := grant.packages, cls := cls, tightened := false, ceiling := r.ceiling
      tally := 0, overrun := false, allowance := r.allowance, autoClose := autoClose, shortClose := false
      bulkRun := r.bulkRun, offProportion := grant.offProportion, date := date, lot := .unresolved, state := .opened }
  okWith { s with invoices := { s.invoices with invoices := s.invoices.invoices ++ [⟨record, []⟩] } }
    (.invOpened r.number r.packages grant.packages tare date r.bulkRun)

/-! ### Appends -/

/-- The source of ACCEPTED at a station (R98). -/
def acceptedSource (i : Fin 4) : Fin 20 := ⟨i.val, by omega⟩

/-- The invoice becomes FULL (R79). -/
def becomeFull (station : Fin 4) (serial : Nat) (r : InvoiceRecord) (s : State) : State :=
  let s := (s.setInvoiceState r.number .full).leaveQueues r.number
  let s := (s.raise 12 ⟨some station, some r.number, some serial⟩).notify (.invoiceFull r.number r.packages r.tally)
  if r.autoClose then beginClosing r.number s else s

/-- An append is accepted into an OPEN invoice (R77). -/
def acceptAppend (station : Fin 4) (v : Invoice) (gross net : Int) (s : State) : State :=
  let n := v.record.number
  let serial := s.invoices.nextSerial
  let chest : Chest := ⟨v.accepted + 1, serial, station, gross, net, .none, false⟩
  let tallied := v.record.addGiveaway (net - v.record.declaredNet)
  let after := tallied.judgeTightening
  let s := advanceSerial (s.updateInvoice n fun _ => ⟨after, v.chests ++ [chest]⟩)
  let s := if tallied.overrun && !v.record.overrun then s.notify (.invoiceOverrun n) else s
  let s := notifyTightening tallied after s
  let s := s.raise (acceptedSource station) ⟨some station, some n, some serial⟩
  let s := s.send (.appendAnswer station (.accepted (v.accepted + 1) serial))
  if v.accepted + 1 = after.packages then becomeFull station serial after s else s

/-- An append is taken: accepted into an OPEN invoice, else answered SURPLUS (R77, R78). -/
def takeAppend (station : Fin 4) (invoice : Nat) (gross net : Int) (s : State) : State :=
  match s.invoices.find invoice with
  | some v => if v.record.state == .opened then acceptAppend station v gross net s
    else s.send (.appendAnswer station .surplus)
  | none => s.send (.appendAnswer station .surplus)

/-- APPEND: an append arrives at the invoice table (R77, R78). -/
def execAppend (station : Fin 4) (invoice : Nat) (gross net : Int) (s : State) : Host.Outcome State Fault Refusal :=
  onPower s fun s => takeAppend station invoice gross net (s.taken (.append station invoice gross net))

/-! ### Station queues -/

/-- A station's queue takes a new content. -/
def State.setQueue (s : State) (i : Fin 4) (q : List Nat) : State :=
  { s with invoices := { s.invoices with queues := s.invoices.queues.set i q } }

/-- STATION-QUEUE-ADD (R83). -/
def ownStationQueueAdd (station number : Nat) (s : State) : Answer := do
  let i ← stationNumber station
  let v ← invoiceNamed number s
  require (s.stations[i].settings.role == .chest && v.record.state == .opened) .state
  let q := s.invoices.queues[i]
  require (!q.contains number) .conflict
  require (decide (q.length < Config.stationQueueSize)) .full
  okWith (s.setQueue i (q ++ [number])) (.queue (q ++ [number]))

/-- STATION-QUEUE-REMOVE (R84). -/
def ownStationQueueRemove (station number : Nat) (s : State) : Answer := do
  let i ← stationNumber station
  require (validInvoice number) .range
  let q := s.invoices.queues[i]
  require (q.contains number) .notFound
  let rest := q.filter fun k => k != number
  okWith (s.setQueue i rest) (.queue rest)

/-! ### INV-VOID-LAST -/

/-- The record after the void of its newest chest (R85). -/
def voidRecord (r : InvoiceRecord) (c : Chest) : InvoiceRecord :=
  { r.subGiveaway (c.net - r.declaredNet) with state := .opened }

/-- INV-VOID-LAST (R85). -/
def ownInvVoidLast (number expected : Nat) (s : State) : Answer := do
  require (within 0 65535 expected) .range
  let v ← invoiceNamed number s
  require (v.record.state == .opened || v.record.state == .full) .state
  let c ← orRefuse v.chests.getLast? .state
  require (expected == 0 || expected == c.serial) .conflict
  require (c.status != .marking) .state
  let after := voidRecord v.record c
  let s := s.updateInvoice number fun _ => ⟨after, v.chests.dropLast⟩
  let s := if c.status == .pending then s.send (.jobRemoval c.serial) else s
  okWith s (.voided number c after.tally)

/-! ### INV-CLOSE and INV-CANCEL -/

/-- The weight returned for packages not packed; 0 with no run bound (R86, R89). -/
def InvoiceRecord.returned (r : InvoiceRecord) (packages : Nat) : Nat :=
  if r.bulkRun.isSome then packages * r.declaredNet else 0

/-- A short close of an OPEN invoice with chests (R86). -/
def closeShort (v : Invoice) (s : State) : State :=
  let n := v.record.number
  let s := s.updateRecord n fun r => { r with packages := v.accepted, shortClose := true }
  let s := returnWeight v.record.bulkRun ((v.record.packages - v.accepted) * v.record.declaredNet) s
  beginClosing n (s.leaveQueues n)

/-- INV-CLOSE (R86). -/
def ownInvClose (number short : Nat) (s : State) : Answer := do
  let shortOption ← flag short
  let v ← invoiceNamed number s
  match v.record.state with
  | .full => okWith (beginClosing number s) (.closed .closing none)
  | .opened =>
    require (shortOption && v.accepted != 0) .state
    okWith (closeShort v s)
      (.closed .closing (some (v.accepted, v.record.returned (v.record.packages - v.accepted))))
  | _ => .error .state

/-- INV-CANCEL (R89). -/
def ownInvCancel (number : Nat) (s : State) : Answer := do
  let v ← invoiceNamed number s
  require (v.record.state == .opened && v.accepted == 0) .state
  let s := (s.leaveQueues number).removeInvoice number
  let s := returnWeight v.record.bulkRun (v.record.packages * v.record.declaredNet) s
  okWith (invoiceLeaves v.record.bulkRun s) (.cancelled number (v.record.returned v.record.packages))

/-! ### INV-AMEND -/

/-- The record with every given field set (R90). -/
def InvoiceRecord.amend (r : InvoiceRecord) (garden grade : Option Text) (ceiling allowance : Option Nat)
    (autoClose : Option Bool) : InvoiceRecord :=
  { r with garden := garden.getD r.garden, grade := grade.getD r.grade, ceiling := ceiling.getD r.ceiling
           allowance := allowance.getD r.allowance, autoClose := autoClose.getD r.autoClose }

/-- The auto-close flag of INV-AMEND, given or kept. -/
def keepFlag (f : KeepField Nat) : Except Reason (Option Bool) := do
  let given ← keepOr f (within 0 1)
  pure (given.map fun n => n == 1)

/-- Tightening is judged at an amendment when a ceiling is given (R90). -/
def amendTightening (given : Bool) (r : InvoiceRecord) : InvoiceRecord := if given then r.judgeTightening else r

/-- INV-AMEND (R90). -/
def ownInvAmend (number : Nat) (f : InvAmendFields) (s : State) : Answer := do
  require (validInvoice number) .range
  let garden ← keepOr f.garden (validText 12)
  let grade ← keepOr f.grade (validText 6)
  let ceiling ← keepOr f.ceiling (within 0 9999)
  let allowance ← keepOr f.allowance (within 0 Config.allowanceLimit)
  let autoClose ← keepFlag f.autoClose
  let v ← invoiceNamed number s
  require (v.record.state == .opened || v.record.state == .full) .state
  require (!((garden.isSome || grade.isSome) && v.accepted != 0)) .state
  let amended := v.record.amend garden grade ceiling allowance autoClose
  let after := amendTightening ceiling.isSome amended
  let s := s.updateRecord number fun _ => after
  let s := if ceiling.isSome then notifyTightening amended after s else s
  if autoClose == some true && after.state == .full then
    okWith (beginClosing number s) (.invoice { after with state := .closing } v.accepted)
  else okWith s (.invoice after v.accepted)

/-! ### INV-READ -/

/-- A line of the table summary (R96). -/
def Invoice.line (v : Invoice) : InvoiceLine :=
  ⟨v.record.number, v.record.state, v.accepted, v.record.packages, v.record.bulkRun⟩

/-- The lines of the table in ascending invoice number (R96). -/
def InvoiceTable.summary (t : InvoiceTable) : List InvoiceLine :=
  (t.invoices.map Invoice.line).mergeSort fun x y => decide (x.number ≤ y.number)

/-- Part `k` of a list in groups of `size`, for k of 1 or more. -/
def partOf {α : Type} (size k : Nat) (l : List α) : List α := (l.drop (size * (k - 1))).take size

/-- INV-READ (R95, R96). -/
def ownInvRead (number part : Nat) (s : State) : Answer :=
  if number = 0 then do
    require (part == 0) .range
    okWith s (.invSummary s.invoices.summary s.invoices.nextSerial s.invoices.queues)
  else do
    let v ← invoiceNamed number s
    require (decide (part ≤ ceilDiv v.accepted Config.invoicePartSize)) .range
    if part = 0 then okWith s (.invoice v.record v.accepted)
    else okWith s (.chests v.accepted (partOf Config.invoicePartSize part v.chests))

/-! ### Stencil statuses and sample marks -/

/-- STENCIL_STATUS: a stencil status arrival sets a chest's status (R91). -/
def execStencilStatus (serial : Nat) (a : StatusArrival) (s : State) : Host.Outcome State Fault Refusal :=
  onPower s fun s => (s.taken (.stencilStatus serial a)).takeStatus serial a

/-- A sample mark in OPEN, FULL or WAITING (R93). -/
def markSample (n serial grams : Nat) (s : State) : State :=
  let s := s.updateRecord n fun r => { r with allowance := min Config.allowanceLimit (r.allowance + grams) }
  { s with invoices := s.invoices.updateChest serial fun c => { c with sample := true } }

/-- A sample mark is taken by the state of its chest's invoice (R93). -/
def takeSampleMark (serial grams : Nat) (s : State) : State :=
  match s.invoices.findSerial serial with
  | none => s
  | some (v, c) =>
    match v.record.state with
    | .opened | .full | .waiting => markSample v.record.number serial grams s
    | .closing | .sheeted => s.notify (.sampleLate v.record.number c.number serial grams)

/-- SAMPLE_MARK: a sample mark arrives at the invoice table (R93). -/
def execSampleMark (serial grams : Nat) (s : State) : Host.Outcome State Fault Refusal :=
  onPower s fun s => takeSampleMark serial grams (s.taken (.sampleMark serial grams))

end Sys2Proof.Machine
end

