-- ==== Sys2Proof/Machine/Stencils.lean ====
section
/-! DEFINITION. The stencil formatter (spec/06): templates, the composition of lines, jobs and head queues, and the head
channels. -/

namespace Sys2Proof.Machine

/-! ### Composing a line (R118 to R122) -/

/-- `n` spaces. -/
def spaces (n : Nat) : Text := .replicate n 0x20

/-- A decimal digit. -/
def digit (n : Nat) : Byte := BitVec.ofNat 8 (48 + n % 10)

/-- The decimal digits of a number, without leading zeros, at most `fuel` of them. -/
def digitsUpTo : Nat → Nat → Text
  | 0, _ => []
  | fuel + 1, n => if n < 10 then [digit n] else digitsUpTo fuel (n / 10) ++ [digit n]

/-- The decimal digits of a number of at most 16 digits (R120). -/
def decimal (n : Nat) : Text := digitsUpTo 16 n

/-- The last `k` decimal digits of a number, leading zeros kept. -/
def paddedDigits : Nat → Nat → Text
  | 0, _ => []
  | k + 1, n => paddedDigits k (n / 10) ++ [digit n]

/-- A text aligned in its width (R118). -/
def align (width : Nat) (right : Bool) (t : Text) : Text :=
  if right then spaces (width - t.length) ++ t else t ++ spaces (width - t.length)

/-- A number, weight or date in its width: number signs when it is wider (R118). -/
def showNumber (width : Nat) (right : Bool) (t : Text) : Text :=
  if width < t.length then .replicate width 0x23 else align width right t

/-- A text in its width: cut on the right when it is wider (R118). -/
def showText (width : Nat) (right : Bool) (t : Text) : Text := align width right (t.take width)

/-- A text without the spaces that pad it on the right (R119). -/
def trimRight (t : Text) : Text := (t.reverse.dropWhile (· == 0x20)).reverse

/-- A weight in kilograms with 1 or 2 decimals (R121). -/
def weightText (decimals : Nat) (w : Int) : Text :=
  let figure := if decimals = 1 then roundDiv w 100 else roundDiv w 10
  let unit := if decimals = 1 then 10 else 100
  (if figure < 0 then [0x2D] else []) ++ decimal (figure.natAbs / unit) ++ [0x2E] ++
    paddedDigits (if decimals = 1 then 1 else 2) figure.natAbs

/-- A date as day/month/year in ten characters (R122). -/
def dateText (d : Date) : Text :=
  paddedDigits 2 d.day ++ [0x2F] ++ paddedDigits 2 d.month ++ [0x2F] ++ paddedDigits 4 d.year

/-- The text of a field in its width, from the invoice fields and the chest's snapshot (R119 to R122). -/
def fieldText (r : InvoiceRecord) (c : Snapshot) (name : FieldName) (width : Nat) (right : Bool) (decimals : Nat) : Text :=
  match name with
  | .garden => showText width right (trimRight r.garden)
  | .grade => showText width right (trimRight r.grade)
  | .invoice => showNumber width right (decimal r.number)
  | .chest => showNumber width right (decimal c.chest)
  | .of => showNumber width right (decimal r.packages)
  | .net => showNumber width right (weightText decimals r.declaredNet)
  | .gross => showNumber width right (weightText decimals c.gross)
  | .tare => showNumber width right (weightText decimals r.tare)
  | .actual => showNumber width right (weightText decimals c.net)
  | .mfgDate => showNumber width right (dateText r.date)
  | .lot =>
    match r.lot with
    | .bound lot => showNumber width right (decimal lot)
    | _ => spaces width

/-- The text of an item (R118). -/
def itemText (r : InvoiceRecord) (c : Snapshot) : Item → Text
  | .literal t => t
  | .field name width right decimals => fieldText r c name width right decimals

/-- A composed line: the text of its items in order (R118). -/
def composeLine (r : InvoiceRecord) (c : Snapshot) (items : List Item) : Text := items.flatMap (itemText r c)

/-- The lines of a job, composed at its start (R129). -/
def compose (r : InvoiceRecord) (c : Snapshot) (t : Template) : List Text := t.map (composeLine r c)

/-! ### The channel -/

/-- A head takes a new content. -/
def State.setHead (s : State) (i : Fin 2) (h : Head) : State :=
  { s with stencils := { s.stencils with heads := s.stencils.heads.set i h } }

/-- The current line of a job in hand. -/
def JobInHand.text (j : JobInHand) : Text := (j.lines[j.line]?).getD []

/-- The characters of the current line not yet sent (R118). -/
def JobInHand.remaining (j : JobInHand) : Nat := j.text.length - j.position

/-- The channel sends the end-of-line mark, starts the acknowledge timer and enters LINE-WAIT (R130). -/
def Head.endLine (h : Head) (j : JobInHand) (sent : List HeadSymbol) : Head :=
  { h with state := .lineWait, inHand := some j, resume := .none, ackTimer := some 0, out := sent ++ [.endOfLine] }

/-- The channel streams the current line from its position; with nothing left it ends the line at once (R130). -/
def Head.stream (h : Head) (j : JobInHand) : Head :=
  if j.remaining = 0 then h.endLine j []
  else { h with state := .streaming, inHand := some j, resume := .none, ackTimer := none }

/-- The channel with no job, in a state (R131, R136 to R138). -/
def Head.clear (h : Head) (st : HeadState) : Head :=
  { h with state := st, inHand := none, resume := .none, ackTimer := none }

/-- A job that is dropped when taken (R129). -/
def dropJob (i : Fin 2) (j : Job) (reason : DropReason) (s : State) : State :=
  s.notify (.stencilDropped i j.serial j.invoice reason)

/-- The invoice whose chest list holds a job's serial; none when the chest is gone (R92). -/
def jobInvoice (j : Job) (s : State) : Option Invoice :=
  match s.invoices.find j.invoice with
  | some v => if v.chests.any fun c => c.serial == j.serial then some v else none
  | none => none

/-- The job start at the invoice table: the lot binding resolved, the chest MARKING (R92). -/
def startAtTable (j : Job) (s : State) : State := (lotEnquiry j.invoice s).setStatus j.serial .marking

/-- The job in hand of a started job: its lines composed, line 0 current (R129). -/
def newJobInHand (j : Job) (c : Snapshot) (t : Template) (s : State) : Option JobInHand :=
  (s.invoices.find j.invoice).map fun v => ⟨j, compose v.record c t, 0, 0⟩

/-- An IDLE channel takes jobs from its queue until one starts or none is left (R129). -/
def takeJobs (i : Fin 2) : List Job → State → State
  | [], s => s.setHead i { s.stencils.heads[i] with queue := [] }
  | j :: rest, s =>
    let t := s.stencils.templates[j.template]
    if t.isEmpty then takeJobs i rest (dropJob i j .empty (s.send (.stencilStatus j.serial .skipped)))
    else
      match j.snapshot with
      | none => takeJobs i rest (dropJob i j .gone s)
      | some c =>
        let s := s.takeStatuses
        match jobInvoice j s with
        | none => takeJobs i rest (dropJob i j .gone s)
        | some _ =>
          let s := startAtTable j s
          match newJobInHand j c t s with
          | some h => s.setHead i (({ s.stencils.heads[i] with queue := rest } : Head).stream h)
          | none => s.setHead i { s.stencils.heads[i] with queue := rest }

/-- A channel takes a job when it is IDLE (R129). -/
def takeNext (i : Fin 2) (s : State) : State :=
  if s.stencils.heads[i].state == .idle then takeJobs i s.stencils.heads[i].queue s else s

/-- A job joins the end of a head's queue, and an IDLE channel takes it (R123, R129). -/
def joinQueue (i : Fin 2) (j : Job) (s : State) : State :=
  takeNext i (s.setHead i { s.stencils.heads[i] with queue := s.stencils.heads[i].queue ++ [j] })

/-! ### Job requests (R124, R125) -/

/-- The snapshot of a chest (spec/06 6.3). -/
def snapshotOf (c : Chest) : Snapshot := ⟨c.number, c.gross, c.net⟩

/-- A refused job request sets the chest MISSED and sends STENCIL-MISSED (R124). -/
def missJob (i : Fin 2) (template : Fin 8) (serial invoice : Nat) (reason : MissReason) (s : State) : State :=
  (s.send (.stencilStatus serial .refused)).notify (.stencilMissed i template serial invoice reason)

/-- A job request of a STENCIL action (R124). -/
def takeJobRequest (i : Fin 2) (template : Fin 8) (serial invoice : Nat) (s : State) : State :=
  if s.stencils.hasJob serial then missJob i template serial invoice .duplicate s
  else if Config.headQueueSize ≤ s.stencils.heads[i].queue.length then missJob i template serial invoice .full s
  else
    let s := s.takeStatuses
    let snapshot := (s.invoices.findSerial serial).map fun p => snapshotOf p.2
    joinQueue i ⟨serial, invoice, template, snapshot, .action⟩ (s.setStatus serial .pending)

/-- STENCIL_JOB_REQUEST: a STENCIL action's job request is queued or refused (R124). -/
def execStencilJobRequest (i : Fin 2) (template : Fin 8) (serial invoice : Nat) (s : State) :
    Host.Outcome State Fault Refusal :=
  onPower s fun s =>
    takeJobRequest i template serial invoice (s.taken (.stencilJobRequest i template serial invoice))

/-- The chest of a number in an invoice (R71). -/
def Invoice.chest (v : Invoice) (k : Nat) : Option Chest := if k = 0 then none else v.chests[k - 1]?

/-- STENCIL-REQUEST (R125); the reply carries the place on joining (log 39). -/
def ownStencilRequest (head template number chest : Nat) (s : State) : Answer := do
  let i ← index 2 head
  let t ← index 8 template
  require (within 1 120 chest) .range
  let v ← invoiceNamed number s
  let c ← orRefuse (v.chest chest) .notFound
  require (!s.stencils.hasJob c.serial) .conflict
  let place := s.stencils.heads[i].queue.length + 1
  require (decide (place ≤ Config.headQueueSize)) .full
  let s := s.takeStatuses.setStatus c.serial .pending
  okWith (joinQueue i ⟨c.serial, number, t, some (snapshotOf c), .request⟩ s) (.stencilQueued i c.serial place)

/-- A head without the queued job of a serial (R127). -/
def Head.removeJob (h : Head) (serial : Nat) : Head := { h with queue := h.queue.filter fun j => j.serial != serial }

/-- JOB_REMOVAL: a removal from the invoice table on a void removes a queued job of that serial (R127). -/
def execJobRemoval (serial : Nat) (s : State) : Host.Outcome State Fault Refusal :=
  onPower s fun s =>
    let s := s.taken (.jobRemoval serial)
    { s with stencils := { s.stencils with heads := s.stencils.heads.map fun h => h.removeJob serial } }

/-! ### What arrives from a head (R130 to R133) -/

/-- A character of the current line is handed to the head (R130). -/
def Head.sendCharacter (h : Head) : Head :=
  match h.state, h.inHand with
  | .streaming, some j =>
    match j.text[j.position]? with
    | some c =>
      let j := { j with position := j.position + 1 }
      if j.remaining = 0 then h.endLine j [.char c] else { h with inHand := some j, out := [.char c] }
    | none => h.endLine j []
  | _, _ => h

/-- CHARACTER_SENT: a character is handed to the head, and after the last the end-of-line mark is sent (R130). -/
def execCharacterSent (i : Fin 2) (s : State) : Host.Outcome State Fault Refusal :=
  onPower s fun s => s.setHead i s.stencils.heads[i].sendCharacter

/-- The last line is acknowledged and the job ends (R131). -/
def endJob (i : Fin 2) (j : JobInHand) (s : State) : State :=
  let s := s.send (.stencilStatus j.job.serial .lineAcknowledged)
  let s := s.notify (.stencilDone i j.job.serial j.job.invoice ((j.job.snapshot.map (·.chest)).getD 0))
  takeNext i (s.setHead i (s.stencils.heads[i].clear .idle))

/-- A line acknowledge (R131). -/
def takeAcknowledge (i : Fin 2) (s : State) : State :=
  let h := s.stencils.heads[i]
  match h.state, h.inHand with
  | .lineWait, some j =>
    if j.line + 1 < j.lines.length then s.setHead i (h.stream { j with line := j.line + 1, position := 0 })
    else endJob i j s
  | _, _ => s

/-- LINE_ACKNOWLEDGE: a line acknowledge ends the line or the job (R131). -/
def execLineAcknowledge (i : Fin 2) (s : State) : Host.Outcome State Fault Refusal :=
  onPower s (takeAcknowledge i)

/-- The acknowledge timer reaches 3 s in LINE-WAIT (R132). -/
def takeAckExpiry (i : Fin 2) (s : State) : State :=
  let h := s.stencils.heads[i]
  match h.state, h.inHand with
  | .lineWait, some j =>
    (s.setHead i { h with state := .stopped, ackTimer := none }).notify
      (.headStopped i j.job.serial j.job.invoice j.line)
  | _, _ => s

/-- ACK_TIMER_EXPIRY: the channel enters STOPPED (R132). -/
def execAckTimerExpiry (i : Fin 2) (s : State) : Host.Outcome State Fault Refusal :=
  onPower s (takeAckExpiry i)

/-- The resume point a fault keeps; none where the fault is ignored (R133). -/
def Head.faultPoint (h : Head) : Option ResumePoint :=
  match h.state, h.inHand with
  | .streaming, some j => some (.midLine j.line j.remaining)
  | .lineWait, some j => some (.atLineEnd j.line)
  | .stopped, some j => some (.atLineEnd j.line)
  | .idle, _ => some .none
  | _, _ => none

/-- The source of a head fault: 16 for head 0, 17 for head 1 (R98). -/
def faultSource (i : Fin 2) : Fin 20 := ⟨16 + i.val, by omega⟩

/-- A head fault (R133). -/
def takeFault (i : Fin 2) (s : State) : State :=
  let h := s.stencils.heads[i]
  match h.faultPoint with
  | none => s
  | some p =>
    let job := h.inHand.map (·.job)
    let s := s.setHead i { h with state := .held, resume := p, ackTimer := none }
    let s := s.notify (.headHeld i h.state (job.map (·.serial)) (job.map (·.invoice)) p)
    s.raise (faultSource i) ⟨none, job.map (·.invoice), none⟩

/-- HEAD_FAULT: a head fault puts the channel in HELD with a resume point (R133). -/
def execHeadFault (i : Fin 2) (s : State) : Host.Outcome State Fault Refusal :=
  onPower s (takeFault i)

/-! ### Recovery requests (R134 to R138) -/

/-- HEAD-RESUME (R134). -/
def ownHeadResume (head : Nat) (s : State) : Answer := do
  let i ← index 2 head
  let h := s.stencils.heads[i]
  require (h.state == .held) .state
  match h.resume, h.inHand with
  | .midLine _ _, some j => okWith (s.setHead i (h.stream j)) (.headState (h.stream j).state)
  | .atLineEnd _, some j => okWith (s.setHead i (h.endLine j [])) (.headState .lineWait)
  | _, _ => okWith (takeNext i (s.setHead i (h.clear .idle))) (.headState .idle)

/-- The job in hand of a channel that HEAD-RELINE and HEAD-SKIP act on: in HELD or STOPPED (R135, R136). -/
def Head.recoverable (h : Head) : Option JobInHand :=
  match h.state with
  | .held | .stopped => h.inHand
  | _ => none

/-- HEAD-RELINE (R135). -/
def ownHeadReline (head : Nat) (s : State) : Answer := do
  let i ← index 2 head
  let h := s.stencils.heads[i]
  let j ← orRefuse h.recoverable .state
  okWith (s.setHead i (h.stream { j with position := 0 })) .done

/-- HEAD-SKIP (R136). -/
def ownHeadSkip (head : Nat) (s : State) : Answer := do
  let i ← index 2 head
  let h := s.stencils.heads[i]
  let j ← orRefuse h.recoverable .state
  let s := (s.send (.stencilStatus j.job.serial .skipped)).setHead i (h.clear .idle)
  okWith (takeNext i s) (.serial j.job.serial)

/-- Every job of a head is dropped, the one in hand first, and the channel enters a state (R137, R138). -/
def dropJobs (i : Fin 2) (st : HeadState) (s : State) : State :=
  let h := s.stencils.heads[i]
  let s := s.sendAll (h.jobs.map fun j => .stencilStatus j.serial .dropped)
  s.setHead i { h.clear st with queue := [] }

/-- HEAD-RESET (R137); at a head in OFF too the jobs of the queue are dropped and do not start (R137 before R138; log 45). -/
def ownHeadReset (head : Nat) (s : State) : Answer := do
  let i ← index 2 head
  okWith (dropJobs i .idle s) (.serials (s.stencils.heads[i].jobs.map (·.serial)))

/-- HEAD-SET with ON: a channel in OFF enters IDLE and takes a job (R138). -/
def headOn (i : Fin 2) (s : State) : State :=
  let h := s.stencils.heads[i]
  if h.state == .off then takeNext i (s.setHead i (h.clear .idle)) else s

/-- HEAD-SET; the codes are ON 0, OFF 1 (R138, R201). -/
def ownHeadSet (head setting : Nat) (s : State) : Answer := do
  let i ← index 2 head
  match setting with
  | 0 => okWith (headOn i s) (.headState (headOn i s).stencils.heads[i].state)
  | 1 => okWith (dropJobs i .off s) (.serials (s.stencils.heads[i].jobs.map (·.serial)))
  | _ => .error .range

/-- What HEAD-READ reports of a job in hand (R139). -/
def JobInHand.report (j : JobInHand) : JobReport :=
  ⟨j.job.serial, j.job.invoice, j.job.template, j.lines.length, j.line, j.position, j.remaining, j.job.snapshot⟩

/-- What HEAD-READ reports: the resume point in HELD only, the time left in LINE-WAIT only (R139). -/
def Head.report (h : Head) : HeadReport :=
  { state := h.state
    inHand := h.inHand.map JobInHand.report
    resume := if h.state == .held then h.resume else .none
    ackLeft := if h.state == .lineWait then h.ackTimer.map (Config.ackLimit - ·) else none
    queue := h.queue }

/-- HEAD-READ (R139). -/
def ownHeadRead (head : Nat) (s : State) : Answer := do
  let i ← index 2 head
  okWith s (.head s.stencils.heads[i].report)

/-! ### Templates (R116, R117) -/

/-- TEMPLATE-LOAD; lines above 246 bytes make a body the link controller refuses with LENGTH (R116). -/
def ownTemplateLoad (template : Nat) (lines : List Byte) (s : State) : Answer := do
  require (decide (lines.length ≤ 246)) .length
  let t ← index 8 template
  let content ← orRefuse (readTemplate lines) .range
  okWith { s with stencils := { s.stencils with templates := s.stencils.templates.set t content } }
    (.templateLoaded t (content.map lineLength))

/-- TEMPLATE-READ (R117). -/
def ownTemplateRead (template : Nat) (s : State) : Answer := do
  let t ← index 8 template
  okWith s (.template s.stencils.templates[t])

end Sys2Proof.Machine
end

