-- ==== Sys2Proof/Machine/Sheets.lean ====
section
/-! DEFINITION. Catalogue windows, the sheet builder and the record store (spec/07). -/

namespace Sys2Proof.Machine

/-! ### Catalogue windows -/

/-- WINDOW-SET (R143). -/
def ownWindowSet (window : Nat) (r : WindowFields) (s : State) : Answer := do
  let i ← index 4 window
  require (r.span == 10 || r.span == 100 || r.span == 1000) .range
  require (within 0 99999 r.base && r.base % r.span == 0) .range
  require (within 1 99999 r.lotBase && decide (r.lotBase + r.span - 1 ≤ 99999)) .range
  let enabled ← flag r.enabled
  let windows := s.store.windows.set i ⟨r.base, r.span, r.lotBase, enabled⟩
  okWith { s with store := { s.store with windows := windows } } (.windows windows none)

/-- WINDOW-READ (R144). -/
def ownWindowRead (number : Option Nat) (s : State) : Answer :=
  match number with
  | none => okWith s (.windows s.store.windows none)
  | some n => do
    require (validInvoice n) .range
    okWith s (.windows s.store.windows (some (s.store.lotOf n)))

/-! ### The record store (R146 to R148) -/

/-- The store slots of a sheet of `n` chests: 3 + ceil(n / 8) (R146). -/
def sheetSlots (n : Nat) : Nat := 3 + ceilDiv n 8

/-- Whether any stored sheet lies on a page (R147). -/
def Store.inUse (t : Store) (page : Nat) : Bool := t.sheets.any fun h => h.page == page

/-- The number of pages in use (R160). -/
def Store.pagesInUse (t : Store) : Nat := ((List.range Config.storePages).filter t.inUse).length

/-- The page after a page of the ring (spec/07 7.3). -/
def nextPage (p : Nat) : Nat := if p + 1 < Config.storePages then p + 1 else 0

/-- Where a sheet of `z` slots goes, if there is space: on the page of the free point, or at the start of the next page
when that is free (R148). -/
def Store.place (t : Store) (z : Nat) : Option (Nat × Nat) :=
  if t.freeSlot + z ≤ Config.pageSlots then some (t.freePage, t.freeSlot)
  else if t.inUse (nextPage t.freePage) then none
  else some (nextPage t.freePage, 0)

/-- Space is reserved for a sheet of an invoice: the sheet joins the stored sheets and the free point moves (R148). -/
def Store.reserve (t : Store) (invoice chests : Nat) : Option Store :=
  (t.place (sheetSlots chests)).map fun (page, slot) =>
    { t with
      sheets := t.sheets ++ [⟨invoice, chests, page, slot, sheetSlots chests, false, none, []⟩]
      freePage := page, freeSlot := slot + sheetSlots chests }

/-- The sheet at the front of the build line: the oldest reserved one (R149). -/
def Store.building (t : Store) : Option Sheet := t.sheets.find? fun h => !h.written

/-- The reserved sheet of an invoice takes a new content. -/
def Store.updateReserved (t : Store) (invoice : Nat) (f : Sheet → Sheet) : Store :=
  { t with sheets := t.sheets.map fun h => if h.invoice == invoice && !h.written then f h else h }

/-- The reserved sheet of an invoice takes a new content, in the part's state. -/
def State.updateSheet (s : State) (invoice : Nat) (f : Sheet → Sheet) : State :=
  { s with store := s.store.updateReserved invoice f }

/-! ### Building a sheet (R145, R150 to R152) -/

/-- The lot of a binding (R145). -/
def LotBinding.lot? : LotBinding → Option Nat
  | .bound n => some n
  | _ => Option.none

/-- The head of a sheet (R145). -/
def sheetHead (v : Invoice) (time : Option ClockReading) : SheetHead :=
  let r := v.record
  let gross := (v.chests.map (·.gross)).sum
  let actual := (v.chests.map (·.net)).sum
  let declared := r.packages * r.declaredNet
  { number := r.number, garden := r.garden, grade := r.grade, packType := r.packType, packages := r.packages
    declaredNet := r.declaredNet, tare := r.tare, totalDeclared := declared, totalGross := gross, totalActual := actual
    giveaway := actual - declared, tightened := r.tightened, shortClose := r.shortClose, overrun := r.overrun
    offProportion := r.offProportion, allowance := r.allowance, date := r.date, lot := r.lot.lot?
    bulkRun := r.bulkRun, time := time }

/-- The entry of a chest as it stands (R146). -/
def sheetEntry (r : InvoiceRecord) (c : Chest) : SheetEntry := ⟨c.station, c.net - r.declaredNet, c.status, c.sample⟩

/-- The front sheet of the build line begins its build when none is being written: the lot is resolved and the head written
(R150). -/
def beginBuild (s : State) : State :=
  match s.store.building with
  | none => s
  | some h =>
    match h.head with
    | some _ => s
    | none =>
      let s := lotEnquiry h.invoice s
      match s.invoices.find h.invoice with
      | none => s
      | some v => s.updateSheet h.invoice fun t => { t with head := some (sheetHead v s.clock.reading) }

/-- The last part number of a sheet of `n` chests (spec/07 7.6). -/
def lastSheetPart (n : Nat) : Nat := ceilDiv n Config.sheetPartSize

/-- The content of a part of a sheet; none for a head not yet written (spec/07 7.6). -/
def Sheet.part (h : Sheet) (k : Nat) : Option SheetPart :=
  if k = 0 then h.head.map .head else some (.entries (partOf Config.sheetPartSize k h.entries))

/-- The answer to a fetch of a part of a written sheet (R155). -/
def Sheet.answer (h : Sheet) (k : Nat) : Option SlotAnswer :=
  (h.part k).map fun c => .sheet h.invoice k (lastSheetPart h.chests) c

/-- The answer the builder hands to a slot waiting for a sheet: the part the slot holds (R156). -/
def answerSheetSlot (h : Sheet) (s : State) : State :=
  match s.link.findSlot (.fetch h.invoice) with
  | none => s
  | some i =>
    match s.link.slots[i] with
    | .waiting _ part _ => s.slotBecomesReady i .answer (h.answer (part.getD 0))
    | _ => s

/-- The build of a sheet ends (R152). -/
def endBuild (h : Sheet) (s : State) : State :=
  let h := { h with written := true }
  let s := s.updateSheet h.invoice fun _ => h
  let s := s.setInvoiceState h.invoice .sheeted
  let s := s.raise 13 ⟨none, some h.invoice, none⟩
  let s := s.notify (.invoiceSheeted h.invoice h.page h.first h.slots (h.head.bind (·.lot)))
  beginBuild (answerSheetSlot h s)

/-- One chest entry of the sheet being written is written from the chest list (R151). -/
def writeEntry (s : State) : State :=
  match s.store.building with
  | none => s
  | some h =>
    match h.head, s.invoices.find h.invoice with
    | some _, some v =>
      match v.chests[h.entries.length]? with
      | none => s
      | some c =>
        let h := { h with entries := h.entries ++ [sheetEntry v.record c] }
        if h.entries.length = h.chests then endBuild h s else s.updateSheet h.invoice fun _ => h
    | _, _ => s

/-- CHEST_ENTRY_WRITTEN: the builder finishes writing one chest entry (R151, R152). -/
def execChestEntryWritten (s : State) : Host.Outcome State Fault Refusal :=
  onPower s writeEntry

/-! ### Sheet requests and the waiting line (R149, R153) -/

/-- An invoice joins the waiting line: it enters WAITING and INVOICE-WAITING is sent (R149). -/
def joinWaiting (n chests : Nat) (s : State) : State :=
  let s := { s with store := { s.store with waiting := s.store.waiting ++ [n] } }
  (s.setInvoiceState n .waiting).notify (.invoiceWaiting n (sheetSlots chests) s.store.waiting.length)

/-- Whether an invoice already stands in the build line or the waiting line (spec/07 7.4). -/
def Store.inLine (t : Store) (n : Nat) : Bool :=
  t.waiting.contains n || t.sheets.any fun h => h.invoice == n && !h.written

/-- A sheet request is taken: space is reserved, or the invoice waits (R149). A request for an invoice that is not CLOSING,
or already in a line, is none the invoice table sends and changes nothing (log 7). -/
def takeSheetRequest (n : Nat) (s : State) : State :=
  match s.invoices.find n with
  | none => s
  | some v =>
    if v.record.state != .closing || s.store.inLine n then s
    else if !s.store.waiting.isEmpty then joinWaiting n v.accepted s
    else
      match s.store.reserve n v.accepted with
      | some t => beginBuild { s with store := t }
      | none => joinWaiting n v.accepted s

/-- SHEET_REQUEST: a sheet request reserves store space or joins the waiting line (R149). -/
def execSheetRequest (n : Nat) (s : State) : Host.Outcome State Fault Refusal :=
  onPower s fun s => takeSheetRequest n (s.taken (.sheetRequest n))

/-- The waiting line is tried from its front until it is empty or the store is full (R153). -/
def tryWaiting : List Nat → State → State
  | [], s => { s with store := { s.store with waiting := [] } }
  | n :: rest, s =>
    match s.invoices.find n with
    | none => tryWaiting rest s
    | some v =>
      match s.store.reserve n v.accepted with
      | some t => tryWaiting rest (beginBuild (({ s with store := t } : State).setInvoiceState n .closing))
      | none => { s with store := { s.store with waiting := n :: rest } }

/-! ### Fetching (R155, R156) -/

/-- The chest count of a sheet in the build line or of an invoice in CLOSING or WAITING (R155, R156; log 21). -/
def closingChests (n : Nat) (s : State) : Option Nat :=
  match s.invoices.find n with
  | some v =>
    match v.record.state with
    | .closing | .waiting => some v.accepted
    | _ => none
  | none => none

/-- A fetch that reaches the sheet builder (R155). -/
def ownFetch (n part : Nat) (s : State) : Answer := do
  require (validInvoice n) .range
  match s.store.sheets.find? fun h => h.invoice == n && h.written with
  | some h =>
    require (decide (part ≤ lastSheetPart h.chests)) .range
    okWith s (.delivered none (.fetch n) .answer (h.answer part))
  | none =>
    match closingChests n s with
    | some chests =>
      require (decide (part ≤ lastSheetPart chests)) .range
      askSlot s (.fetch n) (some part)
    | none => if (s.invoices.find n).isSome then .error .state else .error .notFound

/-- SHEET-FETCH: a slot of its key answers it, else the sheet builder (R184, R155). -/
def ownSheetFetch (n part : Nat) (s : State) : Answer :=
  match s.link.findSlot (.fetch n) with
  | some i => answerFromSlot s i
  | none => ownFetch n part s

/-! ### Releasing (R157, R158) -/

/-- The record store tells the invoice table that a sheet has been released: the invoice leaves, and a leave report goes to a
bound run (R88). -/
def sheetReleased (n : Nat) (s : State) : State :=
  match s.invoices.find n with
  | none => s
  | some v => invoiceLeaves v.record.bulkRun (s.removeInvoice n)

/-- The effects of a release in their order (R158). -/
def releaseSheet (h : Sheet) (s : State) : State :=
  let s := { s with store := { s.store with sheets := s.store.sheets.filter fun t => t.invoice != h.invoice } }
  let freed := !s.store.inUse h.page
  let s := sheetReleased h.invoice s
  if freed then tryWaiting s.store.waiting s else s

/-- SHEET-RELEASE (R157, R158). -/
def ownSheetRelease (n : Nat) (s : State) : Answer := do
  require (validInvoice n) .range
  let h ← orRefuse (s.store.sheets.find? fun h => h.invoice == n) .notFound
  require h.written .state
  require ((s.store.sheets.head?.map (·.invoice)) == some n) .state
  require (!s.stencils.namesInvoice n) .state
  let s := releaseSheet h s
  okWith s (.released n s.store.pagesInUse s.store.freePage s.store.freeSlot)

/-! ### STORE-READ (R160) -/

/-- The waiting line with the slots each sheet needs (R160). -/
def waitingSlots (s : State) : List (Nat × Nat) :=
  s.store.waiting.map fun n => (n, sheetSlots (((s.invoices.find n).map Invoice.accepted).getD 0))

/-- A stored sheet as STORE-READ lists it (R160). -/
def Sheet.line (h : Sheet) : SheetLine := ⟨h.invoice, h.page, h.first, h.slots, h.written⟩

/-- STORE-READ (R160). -/
def ownStoreRead (part : Nat) (s : State) : Answer := do
  let t := s.store
  let last := ceilDiv t.sheets.length Config.storePartSize
  require (decide (part ≤ last)) .range
  if part = 0 then
    okWith s (.storeSummary t.freePage t.freeSlot t.pagesInUse t.sheets.length last
      (t.building.map fun h => (h.invoice, h.entries.length)) (waitingSlots s))
  else okWith s (.storeList last ((partOf Config.storePartSize part t.sheets).map Sheet.line))

end Sys2Proof.Machine
end

