-- ==== Sys2Proof/Machine/Stations.lean ====
section
/-! DEFINITION. The weigh station unit (spec/01): sample words and the weight computation, settle, zero, the load cycle,
chest decisions, the TARE and FEED roles, and the requests that set and read a station. -/

namespace Sys2Proof.Machine

/-! ### The weight computation (R10 to R12) -/

/-- The limit of the zero-tracking offset: floor(C × 4 / 100) (spec/01 1.4). -/
def StationSettings.zeroLimit (p : StationSettings) : Int := ((p.c * 4 / 100 : Nat) : Int)

/-- The filtered count: the rounded average of the filter history (R10). -/
def Station.filtered (st : Station) : Int := roundDiv st.filter.sum st.filter.length

/-- The weight in grams (R11). -/
def Station.grams (st : Station) : Int :=
  roundDiv ((st.filtered - st.settings.zeroCount) * st.settings.span) 65536 - st.zt

/-- A weight rounded to whole divisions (R12). -/
def quantize (d : Nat) (g : Int) : Int := d * roundDiv g d

/-- The quantized gross of the filter history (R12). -/
def Station.quantized (st : Station) : Int := quantize st.settings.d st.grams

/-! ### Station restart (R9) -/

/-- The state of the re-entry condition of a role (R9). -/
def reentry : Role → StationState
  | .off => .off
  | .chest | .tare => .starting
  | .feed => .active

/-- A station restart: Zt and the append-outstanding mark are kept (R9). -/
def Station.restart (st : Station) : Station :=
  { st with filter := [], settle := [], settled := false, outOfRange := false, overloadReturn := false
            decision := .blank, disturbed := false, lastInRange := 0, state := reentry st.settings.role }

/-- A station changes. -/
def State.modifyStation (s : State) (i : Fin 4) (f : Station → Station) : State := s.setStation i (f s.stations[i])

/-- The FEED station is reported to the bulking controller as having left ACTIVE (R47). -/
def reportLeft (role : Role) (s : State) : State := if role == .feed then s.send .leaveReport else s

/-! ### Chest decisions (R20 to R24) -/

/-- The current invoice of a station: the head of its queue (R82). -/
def currentInvoice (i : Fin 4) (s : State) : Option Invoice := s.invoices.queues[i].head?.bind s.invoices.find

/-- The source of LIGHT at a station (R98). -/
def lightSource (i : Fin 4) : Fin 20 := ⟨4 + i.val, by omega⟩

/-- The source of HEAVY at a station (R98). -/
def heavySource (i : Fin 4) : Fin 20 := ⟨8 + i.val, by omega⟩

/-- CHEST-DECIDED is sent for the decision record (R24). -/
def notifyDecision (i : Fin 4) (r : DecisionRecord) (s : State) : State :=
  s.notify (.chestDecided i r.invoice r.outcome (r.gross.getD 0) r.net r.chest r.serial)

/-- The station records a decision and enters DECIDED. -/
def recordDecision (i : Fin 4) (r : DecisionRecord) (s : State) : State :=
  s.modifyStation i fun st => { st with state := .decided, decision := r }

/-- The higher-numbered of two classes (R20). -/
def stricter (a b : Fin 4) : Fin 4 := if a.val < b.val then b else a

/-- The allowances of the effective class: the higher-numbered of the station class and the invoice's class (R20, R39). -/
def effectiveAllowance (i : Fin 4) (v : Invoice) (s : State) : Allowance :=
  s.packs.classes[stricter s.stations[i].settings.cls v.record.cls]

/-- What the comparison of R20 finds for an actual net `n` against a declared net. -/
inductive Comparison where
  | light | heavy | inside
  deriving DecidableEq, Repr

/-- The comparison of R20: below N - u·d is LIGHT, above N + o·d is HEAVY, the bounds are within allowance. -/
def compareNet (a : Allowance) (d declared : Nat) (n : Int) : Comparison :=
  if n < (declared : Int) - (a.under * d : Nat) then .light
  else if (declared : Int) + (a.overBy * d : Nat) < n then .heavy
  else .inside

/-- A chest decision on a settled value (R20). -/
def decideChest (i : Fin 4) (q : Int) (s : State) : State :=
  match currentInvoice i s with
  | none =>
    let r : DecisionRecord := ⟨.noInvoice, none, some q, none, none, none⟩
    notifyDecision i r (recordDecision i r s)
  | some v =>
    let number := v.record.number
    let n := q - v.record.tare
    match compareNet (effectiveAllowance i v s) s.stations[i].settings.d v.record.declaredNet n with
    | .light =>
      let r : DecisionRecord := ⟨.light, some number, some q, some n, none, none⟩
      notifyDecision i r ((recordDecision i r s).raise (lightSource i) ⟨some i, some number, none⟩)
    | .heavy =>
      let r : DecisionRecord := ⟨.heavy, some number, some q, some n, none, none⟩
      notifyDecision i r ((recordDecision i r s).raise (heavySource i) ⟨some i, some number, none⟩)
    | .inside =>
      let r : DecisionRecord := ⟨.appending, some number, some q, some n, none, none⟩
      let s := recordDecision i r s
      let s := s.modifyStation i fun st => { st with outstanding := some (.append number q n) }
      s.send (.append i number q n)

/-- A TARE station's decision: a tare sample for its tare target (R25). -/
def decideTare (i : Fin 4) (q : Int) (s : State) : State :=
  let t := s.stations[i].settings.tareTarget
  let s := recordDecision i ⟨.appending, none, some q, none, none, none⟩ s
  let s := s.modifyStation i fun st => { st with outstanding := some (.sample t q) }
  s.send (.tareSample i t q)

/-- A decision by the station's role (R18). -/
def takeDecision (i : Fin 4) (q : Int) (s : State) : State :=
  match s.stations[i].settings.role with
  | .chest => decideChest i q s
  | .tare => decideTare i q s
  | _ => s

/-- The decision record of an answered append (R21). -/
def answeredRecord (invoice : Nat) (gross net : Int) (a : AppendAnswer) : DecisionRecord :=
  match a with
  | .accepted chest serial => ⟨.accepted, some invoice, some gross, some net, some chest, some serial⟩
  | .surplus => ⟨.surplus, some invoice, some gross, some net, none, none⟩

/-- An append's answer reaches the station, whatever its state (R21). -/
def takeAppendAnswer (i : Fin 4) (a : AppendAnswer) (s : State) : State :=
  match s.stations[i].outstanding with
  | some (.append invoice gross net) =>
    let r := answeredRecord invoice gross net a
    notifyDecision i r (s.modifyStation i fun st => { st with outstanding := none, decision := r })
  | _ => s

/-- APPEND_ANSWER: the invoice table's answer is recorded and CHEST-DECIDED sent (R21). -/
def execAppendAnswer (i : Fin 4) (a : AppendAnswer) (s : State) : Host.Outcome State Fault Refusal :=
  onPower s fun s => takeAppendAnswer i a (s.taken (.appendAnswer i a))

/-- A tare sample's answer reaches the station (R25). -/
def takeTareAnswer (i : Fin 4) (t : Fin 8) (took : Bool) (s : State) : State :=
  match s.stations[i].outstanding with
  | some (.sample _ gross) =>
    let o : DecisionOutcome := if took then .tareTaken else .tareReject
    let s := s.modifyStation i fun st =>
      { st with outstanding := none, decision := ⟨o, none, some gross, none, none, none⟩ }
    s.notify (.tareDecided i t o gross)
  | _ => s

/-- TARE_ANSWER: the package type table's answer is recorded and TARE-DECIDED sent (R25). -/
def execTareAnswer (i : Fin 4) (t : Fin 8) (took : Bool) (s : State) : Host.Outcome State Fault Refusal :=
  onPower s fun s => takeTareAnswer i t took (s.taken (.tareAnswer i t took))

/-! ### Zero (R15, R16) -/

/-- The station after its offset takes a value: the weight recomputed, and every settle entry replaced by it (R15, R16). -/
def Station.rezero (st : Station) (zt : Int) : Station :=
  let st := { st with zt := zt }
  { st with q := st.quantized, lastInRange := st.quantized, settle := st.settle.map fun _ => st.quantized }

/-- Zero tracking on entering settled in EMPTY within two divisions of zero (R15). -/
def trackZero (i : Fin 4) (s : State) : State :=
  let st := s.stations[i]
  if (2 * st.settings.d : Int) < st.q.natAbs then s
  else
    let intended := st.zt + st.grams
    let limit := st.settings.zeroLimit
    let s := s.setStation i (st.rezero (clampAbs limit intended))
    if limit < intended.natAbs then s.notify (.zeroLimit i intended) else s

/-! ### The load cycle (R17 to R19, R22, R23) -/

/-- In LOADED with a settled value and no append outstanding, a decision is taken (R18). -/
def decideIfSettled (i : Fin 4) (s : State) : State :=
  let st := s.stations[i]
  if st.settled && st.outstanding.isNone then takeDecision i st.q s else s

/-- DISTURBED is sent once per cycle when a settled value leaves the accepted gross by more than B·d (R23). -/
def watchDisturbance (i : Fin 4) (s : State) : State :=
  let st := s.stations[i]
  let r := st.decision
  let gross := r.gross.getD 0
  if !st.disturbed && st.settled && decide ((st.settings.b * st.settings.d : Nat) < (st.q - gross).natAbs) then
    (s.setStation i { st with disturbed := true }).notify
      (.disturbed i (r.invoice.getD 0) (r.chest.getD 0) (r.serial.getD 0) gross st.q)
  else s

/-- A settled value in DECIDED at or above L: a re-decision, or the watch for disturbance; a TARE station does neither
(R22, R23, R25). -/
def inDecided (i : Fin 4) (entered : Bool) (s : State) : State :=
  let st := s.stations[i]
  if st.settings.role == .chest then
    match st.decision.outcome with
    | .light | .heavy => if entered then decideChest i st.q s else s
    | .accepted => watchDisturbance i s
    | _ => s
  else s

/-- The load cycle on an in-range q of a station in CHEST or TARE, its settled flag judged (R17, R18). -/
def loadCycle (i : Fin 4) (entered : Bool) (s : State) : State :=
  let st := s.stations[i]
  let below := decide (st.q < st.settings.l)
  match st.state with
  | .starting =>
    if !st.settled then s
    else if below then trackZero i (s.setStation i { st with state := .empty })
    else s.setStation i { st with state := .decided, decision := .blank }
  | .empty =>
    if below then (if entered then trackZero i s else s)
    else decideIfSettled i (s.setStation i { st with state := .loaded, disturbed := false })
  | .loaded => if below then s.setStation i { st with state := .empty } else decideIfSettled i s
  | .decided => if below then s.setStation i { st with state := .empty } else inDecided i entered s
  | _ => s

/-! ### Samples (R7, R13, R14, R26) -/

/-- The station enters OVERLOAD on an out-of-range q (R13, R19, R26). -/
def enterOverload (i : Fin 4) (s : State) : State :=
  let st := s.stations[i]
  let s := s.setStation i
    { st with outOfRange := true, settled := false, settle := [], disturbed := false
              overloadReturn := st.state == .starting, state := .overload }
  let s := (s.raise 18 ⟨some i, none, none⟩).notify (.stationOverload i st.q)
  reportLeft st.settings.role s

/-- The state a CHEST or TARE station leaves OVERLOAD for (R19). -/
def Station.afterOverload (st : Station) : StationState :=
  if st.settings.role == .feed then .active
  else if st.overloadReturn then .starting
  else if st.q < st.settings.l then .empty
  else .loaded

/-- The first in-range q ends OVERLOAD and is the first entry of the settle history (R13, R19, R26). -/
def leaveOverload (i : Fin 4) (s : State) : State :=
  let st := s.stations[i]
  let s := s.setStation i
    { st with outOfRange := false, settle := [st.q], settled := false, overloadReturn := false
              state := st.afterOverload, disturbed := false }
  if st.settings.role == .feed then s.send (.reading i st.q false st.settings.d) else s

/-- A waiting WEIGH-CAPTURE on the station is answered with its state, q and Zt as they stand (R27). -/
def answerCapture (i : Fin 4) (s : State) : State :=
  let st := s.stations[i]
  s.slotArrival (.capture i) .answer (some (.capture i st.state st.q st.zt))

/-- An in-range q outside OVERLOAD: the settled flag is judged and the role handles the weight (R14, R18, R26). -/
def inRange (i : Fin 4) (s : State) : State :=
  let st := s.stations[i]
  let history := pushNewest st.settings.m st.settle st.q
  let settled := st.settings.judgeSettled history
  let entered := settled && !st.settled
  let s := s.setStation i { st with settle := history, settled := settled }
  let s := if st.settings.role == .feed then s.send (.reading i st.q settled st.settings.d) else loadCycle i entered s
  if entered then answerCapture i s else s

/-- The station with a valid sample in its filter history and the new q; the signal timer at zero (R7, R10 to R12). -/
def Station.sample (st : Station) (x : Int) : Station :=
  let st := { st with signalTimer := some 0, filter := pushNewest st.settings.w st.filter x }
  { st with q := st.quantized }

/-- A valid sample in a state other than OFF and NOSIGNAL (R7, R13). -/
def weigh (i : Fin 4) (x : Int) (s : State) : State :=
  let st := s.stations[i].sample x
  if st.settings.outOfRange st.q then
    let s := s.setStation i st
    if st.state == .overload then s else enterOverload i s
  else
    let s := s.setStation i { st with lastInRange := st.q }
    if st.state == .overload then leaveOverload i s else inRange i s

/-- A station restart that is reported, its signal timer at zero (R9). -/
def restartStation (i : Fin 4) (s : State) : State :=
  let st := s.stations[i]
  (s.setStation i { st.restart with signalTimer := some 0 }).notify (.stationRestarted i st.settings.role)

/-- A valid sample word is handled by the station's state (R7, R9). -/
def takeSample (i : Fin 4) (x : Int) (s : State) : State :=
  let st := s.stations[i]
  match st.state with
  | .off => s
  | .noSignal => if st.settings.autoRestart then weigh i x (restartStation i s) else s
  | _ => weigh i x s

/-- SAMPLE_WORD: a sample word arrives; with a parity fault it is discarded (R7). -/
def execSampleWord (i : Fin 4) (w : SampleWord) (s : State) : Host.Outcome State Fault Refusal :=
  onPower s fun s => if sampleValid w then takeSample i w.count.toInt s else s

/-- A waiting WEIGH-CAPTURE on the station ends with GONE (R27). -/
def captureGone (i : Fin 4) (s : State) : State := s.slotArrival (.capture i) .gone none

/-- The station enters NOSIGNAL (R8). -/
def loseSignal (i : Fin 4) (s : State) : State :=
  let st := s.stations[i]
  let s := s.setStation i
    { st with settled := false, outOfRange := false, overloadReturn := false, disturbed := false, state := .noSignal
              signalTimer := none }
  (captureGone i (reportLeft st.settings.role s)).notify (.signalLost i)

/-- The signal timer reaches 250 ms; it runs in no station that is OFF or NOSIGNAL (R8; log 7). -/
def takeSignalExpiry (i : Fin 4) (s : State) : State :=
  match s.stations[i].state with
  | .off | .noSignal => s
  | _ => loseSignal i s

/-- SIGNAL_TIMER_EXPIRY: the station enters NOSIGNAL (R8). -/
def execSignalTimerExpiry (i : Fin 4) (s : State) : Host.Outcome State Fault Refusal :=
  onPower s (takeSignalExpiry i)

/-! ### STATION-CONFIG (R3 to R5) -/

/-- The division of a station, one of the seven (spec/00 3.2). -/
def validDivision (d : Nat) : Bool := [1, 2, 5, 10, 20, 50, 100].contains d

/-- The filter window of a station, one of the six (spec/01 1.1). -/
def validWindow (w : Nat) : Bool := [1, 2, 4, 8, 16, 32].contains w

/-- The settings a STATION-CONFIG carries, checked for range; calibration is kept (R3). -/
def configured (r : StationConfigFields) (old : StationSettings) : Except Reason StationSettings := do
  let role ← roleOf r.role
  require (validWindow r.w && within 2 16 r.m && within 0 8 r.b && validDivision r.d && within 1000 300000 r.c &&
    within (10 * r.d) r.c r.l) .range
  let cls ← index 4 r.cls
  let autoRestart ← flag r.autoRestart
  let target ← index 8 r.tareTarget
  pure { role := role, w := r.w, m := r.m, b := r.b, d := r.d, c := r.c, l := r.l, cls := cls, autoRestart := autoRestart
         tareTarget := target, zeroCount := old.zeroCount, span := old.span }

/-- Whether the measuring settings differ (spec/01 1.1.1). -/
def measuringDiffers (a b : StationSettings) : Bool :=
  (a.w, a.m, a.b, a.d, a.c, a.l, a.tareTarget) != (b.w, b.m, b.b, b.d, b.c, b.l, b.tareTarget)

/-- The states in which a role change is taken: OFF, NOSIGNAL, EMPTY, and ACTIVE with no active run (R4). -/
def mayChange (i : Fin 4) (s : State) : Bool :=
  match s.stations[i].state with
  | .off | .noSignal | .empty => true
  | .active => s.bulking.active.isNone
  | _ => false

/-- Whether a station whose role is CHEST has an invoice in its queue, which holds its role (R4). -/
def queueHoldsRole (i : Fin 4) (s : State) : Bool :=
  s.stations[i].settings.role == .chest && !s.invoices.queues[i].isEmpty

/-- Whether a station other than `i` holds FEED (R3). -/
def otherFeeds (i : Fin 4) (s : State) : Bool :=
  (List.finRange 4).any fun j => j != i && s.stations[j].settings.role == .feed

/-- The new limit of Zt after a change of measuring settings: Zt beyond it is set to it and ZERO-LIMIT sent (R5). -/
def limitZero (i : Fin 4) (s : State) : State :=
  let st := s.stations[i]
  let limit := st.settings.zeroLimit
  if limit < st.zt.natAbs then
    (s.setStation i { st with zt := clampAbs limit st.zt }).notify (.zeroLimit i st.zt)
  else s

/-- The station set OFF (R4). -/
def Station.switchOff (st : Station) : Station :=
  { st with state := .off, filter := [], settle := [], settled := false, outOfRange := false, signalTimer := none }

/-- The effects of a role change, the new settings in place (R4). -/
def changeRole (i : Fin 4) (old new : Role) (s : State) : State :=
  let s := if new == .off then captureGone i (s.modifyStation i Station.switchOff)
    else s.modifyStation i fun st => { st.restart with signalTimer := some 0 }
  reportLeft old s

/-- The restart of a change of measuring settings or a calibration: none in OFF; in NOSIGNAL the histories are emptied
(R5, R6). -/
def Station.remeasure (st : Station) : Station :=
  match st.state with
  | .off => { st with filter := [], settle := [] }
  | .noSignal => { st with filter := [], settle := [] }
  | _ => st.restart

/-- The new settings applied together (R3 to R5). -/
def applyConfig (i : Fin 4) (new : StationSettings) (s : State) : State :=
  let old := s.stations[i].settings
  let measuring := measuringDiffers old new
  let s := s.modifyStation i fun st => { st with settings := new }
  let s := if measuring then limitZero i s else s
  if old.role != new.role then changeRole i old.role new.role s
  else if measuring then s.modifyStation i Station.remeasure
  else s

/-- STATION-CONFIG (R3 to R5). -/
def ownStationConfig (r : StationConfigFields) (s : State) : Answer := do
  let i ← stationNumber r.station
  let old := s.stations[i].settings
  let new ← configured r old
  let roleChanges := old.role != new.role
  require (!(roleChanges && (!mayChange i s || queueHoldsRole i s))) .state
  require (!(measuringDiffers old new && !mayChange i s)) .state
  require (!(roleChanges && new.role == .feed && otherFeeds i s)) .conflict
  okWith (applyConfig i new s) .done

/-! ### STATION-CAL, STATION-RESTART and STATION-ZERO -/

/-- The station after a calibration (R6). -/
def Station.calibrate (st : Station) (zeroCount : Int) (span : Nat) : Station :=
  { st with settings := { st.settings with zeroCount := zeroCount, span := span }, zt := 0 }.remeasure

/-- STATION-CAL (R6). -/
def ownStationCal (station : Nat) (zeroCount : Int) (span : Nat) (s : State) : Answer := do
  let i ← stationNumber station
  require (withinInt (-8388608) 8388607 zeroCount && within 1 65535 span) .range
  require (mayChange i s) .state
  okWith (s.modifyStation i fun st => st.calibrate zeroCount span) .done

/-- STATION-RESTART (R9). -/
def ownStationRestart (station : Nat) (s : State) : Answer := do
  let i ← stationNumber station
  require (s.stations[i].state != .off) .state
  okWith (restartStation i s) .done

/-- The station after STATION-ZERO: Zt takes in the present grams, q and every settle entry become 0 (R16). -/
def Station.zero (st : Station) : Station :=
  { st with zt := st.zt + st.grams, q := 0, lastInRange := 0, settle := st.settle.map fun _ => 0 }

/-- STATION-ZERO (R16). -/
def ownStationZero (station : Nat) (s : State) : Answer := do
  let i ← stationNumber station
  let st := s.stations[i]
  require (st.state == .empty && st.settled) .state
  require (decide (((st.zt + st.grams).natAbs : Int) ≤ st.settings.zeroLimit)) .range
  okWith (s.setStation i st.zero) (.zeroed st.zero.zt)

/-! ### WEIGH-CAPTURE and STATION-READ -/

/-- A capture that reaches the station (R27). -/
def ownCapture (i : Fin 4) (s : State) : Answer :=
  let st := s.stations[i]
  match st.state with
  | .off | .noSignal => .error .state
  | _ =>
    if st.settled then
      okWith s (.delivered none (.capture i) .answer (some (.capture i st.state st.q st.zt)))
    else askSlot s (.capture i) none

/-- WEIGH-CAPTURE: a slot of its key answers it, else the station (R184, R27). -/
def ownWeighCapture (station : Nat) (s : State) : Answer := do
  let i ← stationNumber station
  match s.link.findSlot (.capture i) with
  | some k => answerFromSlot s k
  | none => ownCapture i s

/-- The q that STATION-READ reports: the last in-range q while in OVERLOAD (R13, R28). -/
def Station.reportedQ (st : Station) : Int := if st.state == .overload then st.lastInRange else st.q

/-- What STATION-READ reports (R28). -/
def Station.report (st : Station) (queue : List Nat) : StationReport :=
  ⟨st.settings.role, st.state, st.settled, st.outOfRange, st.reportedQ, st.zt, st.filter.length, st.settle.length,
    st.decision, st.outstanding.isSome, queue⟩

/-- STATION-READ (R28). -/
def ownStationRead (station : Nat) (s : State) : Answer := do
  let i ← stationNumber station
  okWith s (.station (s.stations[i].report s.invoices.queues[i]))

end Sys2Proof.Machine
end

