-- ==== Sys2Proof/Machine/Settings.lean ====
section
/-! DEFINITION. The settings store (spec/10): saves, the load at a start, and the starts themselves, block by block, in
their three forms: power-on, cold restart and warm restart. -/

namespace Sys2Proof.Machine

/-! ### Saving (R196, R197) -/

/-- Every setting as it stands in the blocks (R194, R196 step 1). -/
def copySettings (s : State) : Image where
  stations := s.stations.map (·.settings)
  types := s.packs.types
  classes := s.packs.classes
  preactStart := s.bulking.preactStart
  tolerance := s.bulking.tolerance
  vectors := s.actions.vectors
  sets := s.actions.sets.map (·.written)
  templates := s.stencils.templates
  windows := s.store.windows
  speed := s.link.speedSetting
  mask := s.link.mask

/-- The place that is not the given one (R196 step 2). -/
def otherPlace (p : Fin 2) : Fin 2 := if p = 0 then 1 else 0

/-- The generation after a generation, from 65,535 to 0 (R196 step 3). -/
def nextGeneration (g : Nat) : Nat := if 65535 ≤ g then 0 else g + 1

/-- The target of a save (R196 step 2). -/
def Settings.target (t : Settings) : Fin 2 :=
  match t.current with
  | some p => otherPlace p
  | none => 0

/-- The generation of a place; 0 for an INVALID one, which is never current. -/
def Place.generation : Place → Nat
  | .valid g _ => g
  | .invalid => 0

/-- The generation of a save (R196 step 3). -/
def Settings.newGeneration (t : Settings) : Nat :=
  match t.current with
  | some p => nextGeneration t.places[p].generation
  | none => 1

/-- The save begins: the copy is fixed, the target becomes INVALID and the save state SAVING (R196). -/
def Settings.beginSave (t : Settings) (copy : Image) : Settings :=
  { t with places := t.places.set t.target .invalid, save := some ⟨copy, t.target, t.newGeneration⟩ }

/-- SAVE-SETTINGS is taken and stays in hand (R177, R196). A save in flight holds dispatch, so none reaches the store then
(log 30). -/
def takeSaveSettings (tag : Byte) (s : State) : State :=
  match s.settings.save with
  | some _ => s
  | none =>
    { s with settings := s.settings.beginSave (copySettings s), link := { s.link with inHand := some ⟨tag, 0x36⟩ } }

/-- The tag of the request in hand. -/
def Link.inHandTag (l : Link) : Byte := (l.inHand.map (·.tag)).getD 0

/-- The store after a save whose verify agrees (R197). -/
def Settings.saved (t : Settings) (f : SaveInFlight) : Settings :=
  { t with places := t.places.set f.target (.valid f.generation f.copy), current := some f.target, defaulted := false
           save := none }

/-! ### Loading at a start (R198) -/

/-- Whether a generation is the one after another (R198). -/
def isNewer (a b : Nat) : Bool := a == nextGeneration b

/-- The place loaded at a start; none when neither is VALID (R198). -/
def chosenPlace (places : Vector Place 2) : Option (Fin 2) :=
  match places[0], places[1] with
  | .valid a _, .valid b _ => if isNewer b a && !isNewer a b then some 1 else some 0
  | .valid _ _, .invalid => some 0
  | .invalid, .valid _ _ => some 1
  | .invalid, .invalid => none

/-- The image of a place; the defaults for none (R198, R199). -/
def imageOf (places : Vector Place 2) (p : Option (Fin 2)) : Image :=
  match p with
  | some i =>
    match places[i] with
    | .valid _ image => image
    | .invalid => Image.default
  | none => Image.default

/-- The image loaded at a start (R198). -/
def loadedImage (places : Vector Place 2) : Image := imageOf places (chosenPlace places)

/-- The store after the load of a start: nothing written, no save, no restart asked for (R198). -/
def Settings.load (t : Settings) : Settings :=
  { places := t.places, current := chosenPlace t.places, defaulted := (chosenPlace t.places).isNone, save := none
    restart := none }

/-! ### The blocks at a start (R193) -/

/-- The state a role starts in (R29). -/
def startState : Role → StationState
  | .off => .off
  | .chest | .tare => .starting
  | .feed => .active

/-- A station at any start, with its loaded settings (R29). -/
def Station.start (p : StationSettings) : Station :=
  { settings := p, zt := 0, filter := [], settle := [], q := 0, lastInRange := 0, outOfRange := false
    state := startState p.role, settled := false, overloadReturn := false, decision := .blank, outstanding := none
    disturbed := false, signalTimer := if p.role == .off then none else some 0 }

/-- The package type table at a power-on or cold restart (R42). -/
def PackTable.start (m : Image) : PackTable := ⟨m.types, m.classes⟩

/-- The bulking controller at a start, with a feeder preact and a next run number (R68, R69). -/
def Bulking.start (m : Image) (preact : Int) (nextRun : Nat) : Bulking :=
  { records := [], preact := preact, preactStart := m.preactStart, tolerance := m.tolerance, nextRun := nextRun
    gateOpen := false, stallTimer := none, stallReference := 0, lastReading := none }

/-- The invoice table at any start (R97). -/
def InvoiceTable.start : InvoiceTable := ⟨[], .replicate 4 [], 1⟩

/-- The action dispatcher at any start (R114). -/
def Dispatcher.start (m : Image) : Dispatcher := ⟨m.vectors, m.sets.map WrittenSet.fresh, .replicate 8 none⟩

/-- A head at any start (R140, R141). -/
def Head.start : Head := ⟨.idle, [], none, .none, none, []⟩

/-- The stencil formatter at a start, with its templates (R140, R141). -/
def Formatter.start (templates : Vector Template 8) : Formatter := ⟨templates, .replicate 2 Head.start⟩

/-- The sheet builder and record store at a power-on or cold restart (R162). -/
def Store.start (m : Image) : Store := ⟨m.windows, [], 0, 0, []⟩

/-- The sheet builder and record store at a warm restart: written sheets kept, reserved ones discarded, the free point back
where the earliest discarded sheet began (R162). -/
def Store.warm (t : Store) (m : Image) : Store :=
  { windows := m.windows
    sheets := t.sheets.filter fun h => h.written
    freePage := (t.building.map (·.page)).getD t.freePage
    freeSlot := (t.building.map (·.first)).getD t.freeSlot
    waiting := [] }

/-- The date clock at a power-on or cold restart (R170); through a warm restart it goes as `Clock.throughRestart` says. -/
def Clock.start : Clock := ⟨none, 0⟩

/-- The link controller at a power-on or cold restart (R190). -/
def Link.start (m : Image) : Link :=
  { lineSpeed := m.speed, speedSetting := m.speed, receiver := .hunting, holding := [], inHand := none, replies := []
    sending := none, notices := [], counter := 0, mask := m.mask, slots := .replicate 4 .free, linkError := false
    noticesLost := false }

/-- The link controller at a warm restart: the line speed, the receiver and the two flags are kept (R191). R172 has the
receiver hunt at every start; a frame in assembly goes on here, as R191 says (DESIGN CHOICE, log 47). -/
def Link.warm (l : Link) (m : Image) : Link :=
  { Link.start m with lineSpeed := l.lineSpeed, receiver := l.receiver, linkError := l.linkError
                      noticesLost := l.noticesLost }

/-! ### Starts -/

/-- A power-on or cold restart: the store loads its copy and every block starts (R192, R193). Arrivals sent and not yet
taken are not taken (R97, R114, R140, R162), notice offers among them (log 46). -/
def coldStart (s : State) : State :=
  let m := loadedImage s.settings.places
  { pending := s.pending, transit := [], powered := true
    stations := m.stations.map Station.start
    packs := PackTable.start m
    bulking := Bulking.start m m.preactStart 1
    invoices := InvoiceTable.start
    actions := Dispatcher.start m
    stencils := Formatter.start m.templates
    store := Store.start m
    clock := Clock.start
    link := Link.start m
    settings := s.settings.load }

/-- A warm restart: the package types, templates, clock, written sheets, feeder preact and next run number are kept (R43,
R69, R141, R162, R170, R191, R193). Arrivals in transit go as at a cold restart, notice offers among them (log 46). -/
def warmStart (s : State) : State :=
  let m := loadedImage s.settings.places
  { pending := s.pending, transit := [], powered := true
    stations := m.stations.map Station.start
    packs := s.packs
    bulking := Bulking.start m s.bulking.preact s.bulking.nextRun
    invoices := InvoiceTable.start
    actions := Dispatcher.start m
    stencils := Formatter.start s.stencils.templates
    store := s.store.warm m
    clock := s.clock.throughRestart
    link := s.link.warm m
    settings := s.settings.load }

/-- The part starts in the form a RESTART named (R192). -/
def startIn (form : RestartForm) (s : State) : State :=
  match form with
  | .warm => warmStart s
  | .cold => coldStart s

/-! ### RESTART, power-on and power loss -/

/-- The request stays in hand and its OK reply joins the reply line; the restart itself waits for that reply to be sent
(R191, R192). -/
def acceptRestart (tag : Byte) (form : RestartForm) (s : State) : State :=
  { s with
    settings := { s.settings with restart := some form }
    link := ({ s.link with inHand := some ⟨tag, 0x37⟩ } : Link).joinReply ⟨tag, 0x37, .ok (.restart form), false⟩ }

/-- RESTART is refused with RANGE, or taken (R192). -/
def takeRestart (tag : Byte) (form : Nat) (s : State) : State :=
  match restartForm form with
  | .ok f => acceptRestart tag f s
  | .error r => s.joinReply ⟨tag, 0x37, .refused r, false⟩

/-- POWER_ON: power is applied and every block starts from the loaded settings (R193). -/
def execPowerOn (s : State) : Host.Outcome State Fault Refusal := .next (coldStart s)

/-- The part without power: the settings store keeps its image places (spec/10); every other block holds nothing and every
output is at rest, as at the next power-on (R200; log 6). -/
def withoutPower (s : State) : State :=
  { coldStart { s with settings := ⟨.replicate 2 .invalid, none, true, none, none⟩ } with
    powered := false, settings := { s.settings with save := none, restart := none } }

/-- POWER_LOSS: power is lost; a save in flight leaves its target INVALID (R200). -/
def execPowerLoss (s : State) : Host.Outcome State Fault Refusal := onPower s withoutPower

end Sys2Proof.Machine
end

