-- ==== Sys2Proof/Machine/Link.lean ====
section
/-! DEFINITION. The link controller (spec/09): the requests it owns, the receiver and the receive holding, notices, and the
timers of the delayed-answer slots. Dispatch stands in Service, and what ends a frame on the line in Line. -/

namespace Sys2Proof.Machine

/-- The link controller takes a new content. -/
def State.setLink (s : State) (l : Link) : State := { s with link := l }

/-! ### STATUS, NOTICE-MASK and LINK-SPEED -/

/-- What STATUS reports (R182). -/
def statusReport (s : State) : StatusReport :=
  { linkError := s.link.linkError, noticesLost := s.link.noticesLost, defaulted := s.settings.defaulted
    clockRunning := s.clock.reading.isSome, lineSpeed := s.link.lineSpeed, speedSetting := s.link.speedSetting
    mask := s.link.mask, holding := s.link.holding.length, notices := s.link.notices.length, counter := s.link.counter
    slots := s.link.slots }

/-- STATUS: the link-error and notices-lost flags are cleared on taking it (R182). -/
def ownStatus (s : State) : Answer :=
  okWith (s.setLink { s.link with linkError := false, noticesLost := false }) (.status (statusReport s))

/-- The seven enable flags of a NOTICE-MASK (R181, R201). -/
def maskFlags (f : Vector Nat 7) : Except Reason (Vector Bool 7) := do
  require (f.all fun n => within 0 1 n) .range
  pure (f.map fun n => n == 1)

/-- NOTICE-MASK (R181). -/
def ownNoticeMask (flags : Vector Nat 7) (s : State) : Answer := do
  let mask ← maskFlags flags
  okWith (s.setLink { s.link with mask := mask }) (.mask mask)

/-- Whether a speed is one of the three (R171). -/
def validSpeed (v : Nat) : Bool := [19200, 57600, 115200].contains v

/-- LINK-SPEED (R171). -/
def ownLinkSpeed (speed : Nat) (s : State) : Answer := do
  require (validSpeed speed) .range
  okWith (s.setLink { s.link with speedSetting := speed }) (.speeds speed s.link.lineSpeed)

/-! ### Characters on the line (R171) -/

/-- The data bits that carry a byte, the least significant first (R171). -/
def dataBits (b : Byte) : DataBits := Vector.ofFn fun k => b[k.val]

/-- The byte that data bits carry, the least significant received first (R171). -/
def dataByte (d : DataBits) : Byte := (BitVec.ofBoolListLE d.toList).setWidth 8

/-- The bits of the character that sends a byte: the start bit 0, the data bits and the stop bit 1 (R171; log 49). -/
def characterBits (b : Byte) : List Bool := false :: (dataBits b).toList ++ [true]

/-! ### Frames received (R172 to R174) -/

/-- How many busy replies wait in the reply line (R174). -/
def Link.busyCount (l : Link) : Nat := (l.replies.filter fun r => r.busy).length

/-- An arrived frame joins the holding, is answered BUSY, or is discarded (R174). -/
def Link.hold (l : Link) (f : Frame) : Link :=
  if l.holding.length < Config.holdingSize then { l with holding := l.holding ++ [f] }
  else if l.busyCount < Config.busyReplies then l.joinReply ⟨f.tag, f.kind, .refused .busy, true⟩
  else { l with linkError := true }

/-- The start byte of a frame. -/
def startByte : Byte := 0xA5

/-- A byte judged while hunting (R172, R173). -/
def huntByte (b : Byte) (stopBit : Bool) : Receiver :=
  if stopBit && b == startByte then .assembling [] 0 else .hunting

/-- What the bytes after a start byte have come to. -/
inductive Assembly where
  | more | bad | arrived (f : Frame)
  deriving DecidableEq, Repr

/-- The bytes after a start byte judged: the length 2..250, and after the last byte the check (R172, R173). -/
def assembly (bytes : List Byte) : Assembly :=
  match bytes with
  | [] => .more
  | len :: rest =>
    let l := len.toNat
    if l < 2 ∨ 250 < l then .bad
    else if rest.length < l + 2 then .more
    else
      match rest.take l, decide (rest.drop l = crcBytes (len :: rest.take l)) with
      | tag :: kind :: body, true => .arrived ⟨tag, kind, body⟩
      | _, _ => .bad

/-- The receiver takes a new state. -/
def State.setReceiver (s : State) (r : Receiver) : State := s.setLink { s.link with receiver := r }

/-- The fault of a frame is found: the frame is discarded, the receiver goes on as given and the link-error flag is set
(R173). -/
def State.discardFrame (s : State) (next : Receiver) : State :=
  s.setLink { s.link with receiver := next, linkError := true }

/-- BAD_FRAME: a frame that ends on the line is bad; it is discarded and the link-error flag set (R173; log 27). -/
def execBadFrame (s : State) : Host.Outcome State Fault Refusal := onPower s fun s => s.discardFrame .hunting

/-- FRAME_GAP_TIMEOUT: more than 20 ms pass in a frame; it is discarded and the flag set (R173). A receiver that hunts has
no gap running (log 7). -/
def execFrameGapTimeout (s : State) : Host.Outcome State Fault Refusal :=
  onPower s fun s =>
    match s.link.receiver with
    | .assembling _ _ => s.discardFrame .hunting
    | .hunting => s

/-! ### Notices (R180) -/

/-- The class of a notice (R180). -/
def noticeClass : Notice → NoticeClass
  | .chestDecided _ _ _ _ _ _ _ | .tareDecided _ _ _ _ | .disturbed _ _ _ _ _ _ | .zeroLimit _ _ | .signalLost _
  | .stationRestarted _ _ | .stationOverload _ _ => .station
  | .invoiceFull _ _ _ | .invoiceOverrun _ | .giveawayHigh _ _ _ _ | .sampleLate _ _ _ _ | .invoiceWaiting _ _ _
  | .invoiceSheeted _ _ _ _ _ => .invoice
  | .bulkComponentDone _ _ _ _ _ _ | .bulkComplete _ _ _ _ _ | .bulkStalled _ _ _ _ _ => .bulk
  | .stencilMissed _ _ _ _ _ | .stencilDropped _ _ _ _ | .stencilDone _ _ _ _ | .headStopped _ _ _ _
  | .headHeld _ _ _ _ _ => .stencil
  | .user _ _ _ _ | .actionSkipped _ _ _ | .setExhausted _ _ _ | .chainCut _ _ => .action
  | .dayRollover _ => .clock
  | .slotReady _ _ _ => .slot

/-- The place of a class in the mask (R181). -/
def maskPlace : NoticeClass → Fin 7
  | .station => 0
  | .invoice => 1
  | .bulk => 2
  | .stencil => 3
  | .action => 4
  | .clock => 5
  | .slot => 6

/-- A notice offer: masked, numbered, and queued or dropped (R180). -/
def Link.offer (l : Link) (n : Notice) : Link :=
  if l.mask[maskPlace (noticeClass n)] then
    if l.notices.length < Config.noticeQueueSize then
      { l with notices := l.notices ++ [(l.counter, n)], counter := (l.counter + 1) % 256 }
    else { l with counter := (l.counter + 1) % 256, noticesLost := true }
  else l

/-- NOTICE_OFFER: a notice offered by a block is masked, numbered and queued or dropped (R180), and a free transmitter begins
it (R179). -/
def execNoticeOffer (n : Notice) (s : State) : Host.Outcome State Fault Refusal :=
  onPower s fun s =>
    let s := s.taken (.noticeOffer n)
    s.setLink (s.link.offer n).beginSend

/-! ### Slot timers (R187, R188) -/

/-- The wait timer of a slot reaches 30 s (R187); only a WAITING capture slot has one. -/
def takeWaitTimeout (i : Fin 4) (s : State) : State :=
  match s.link.slots[i] with
  | .waiting (.capture _) _ _ => s.slotBecomesReady i .timeout none
  | _ => s

/-- CAPTURE_WAIT_TIMEOUT: a waiting capture slot becomes READY with TIMEOUT (R187). -/
def execCaptureWaitTimeout (i : Fin 4) (s : State) : Host.Outcome State Fault Refusal :=
  onPower s (takeWaitTimeout i)

/-- The discard timer of a slot reaches 60 s (R188); only a READY slot has one. -/
def takeDiscard (i : Fin 4) (s : State) : State :=
  match s.link.slots[i] with
  | .ready _ _ _ _ _ => s.setSlot i .free
  | _ => s

/-- SLOT_DISCARD: a READY slot is freed and its answer discarded (R188). -/
def execSlotDiscard (i : Fin 4) (s : State) : Host.Outcome State Fault Refusal :=
  onPower s (takeDiscard i)

end Sys2Proof.Machine
end

