-- ==== Sys2Proof/Machine/Service.lean ====
section
/-! DEFINITION. How the host's requests are served (spec/09 9.3 to 9.5): a request taken by its owner at the moment of its
dispatch, the dispatch of the frames in the holding, and the reply to a request. -/

namespace Sys2Proof.Machine

/-! ### A request and its owner (R176, R178) -/

/-- An owner's answer becomes the reply, which joins the reply line; a refused request changes nothing (spec/09 9.4). -/
def answerRequest (tag kind : Byte) (s : State) (a : Answer) : State :=
  match a with
  | .ok (t, form) => t.joinReply ⟨tag, kind, form, false⟩
  | .error r => s.joinReply ⟨tag, kind, .refused r, false⟩

/-- A request is taken by its owner (R176 step 4), SAVE-SETTINGS and RESTART staying in hand (R177); an arrival is no request
and is not taken here. -/
def takeRequest (i : Instr) (s : State) : State :=
  match i with
  | .stationConfig tag fields => answerRequest tag 0x01 s (ownStationConfig fields s)
  | .stationCal tag station zeroCount span => answerRequest tag 0x02 s (ownStationCal station zeroCount span s)
  | .stationRestart tag station => answerRequest tag 0x03 s (ownStationRestart station s)
  | .stationZero tag station => answerRequest tag 0x04 s (ownStationZero station s)
  | .weighCapture tag station => answerRequest tag 0x05 s (ownWeighCapture station s)
  | .stationRead tag station => answerRequest tag 0x06 s (ownStationRead station s)
  | .packtypeSet tag type description nominal band =>
    answerRequest tag 0x07 s (ownPacktypeSet type description nominal band s)
  | .tareListClear tag type => answerRequest tag 0x08 s (ownTareListClear type s)
  | .tareListRead tag type => answerRequest tag 0x09 s (ownTareListRead type s)
  | .classSet tag pairs => answerRequest tag 0x0A s (ownClassSet pairs s)
  | .classRead tag => answerRequest tag 0x0B s (ownClassRead s)
  | .bulkDefine tag total count components => answerRequest tag 0x0C s (ownBulkDefine total count components s)
  | .bulkStart tag run => answerRequest tag 0x0D s (ownBulkStart run s)
  | .bulkNext tag run => answerRequest tag 0x0E s (ownBulkNext run s)
  | .bulkHold tag run => answerRequest tag 0x0F s (ownBulkHold run s)
  | .bulkResume tag run => answerRequest tag 0x10 s (ownBulkResume run s)
  | .bulkShort tag run => answerRequest tag 0x11 s (ownBulkShort run s)
  | .bulkAbort tag run => answerRequest tag 0x12 s (ownBulkAbort run s)
  | .bulkRetire tag run => answerRequest tag 0x13 s (ownBulkRetire run s)
  | .bulkRead tag run => answerRequest tag 0x14 s (ownBulkRead run s)
  | .bulkConfig tag preactStart tolerance preact =>
    answerRequest tag 0x15 s (ownBulkConfig preactStart tolerance preact s)
  | .invOpen tag fields => answerRequest tag 0x16 s (ownInvOpen fields s)
  | .invAmend tag number fields => answerRequest tag 0x17 s (ownInvAmend number fields s)
  | .invRead tag number part => answerRequest tag 0x18 s (ownInvRead number part s)
  | .invVoidLast tag number expected => answerRequest tag 0x19 s (ownInvVoidLast number expected s)
  | .invClose tag number short => answerRequest tag 0x1A s (ownInvClose number short s)
  | .invCancel tag number => answerRequest tag 0x1B s (ownInvCancel number s)
  | .stationQueueAdd tag station number => answerRequest tag 0x1C s (ownStationQueueAdd station number s)
  | .stationQueueRemove tag station number => answerRequest tag 0x1D s (ownStationQueueRemove station number s)
  | .vectorSet tag source set => answerRequest tag 0x1E s (ownVectorSet source set s)
  | .vectorRead tag => answerRequest tag 0x1F s (ownVectorRead s)
  | .actionSetWrite tag set fields => answerRequest tag 0x20 s (ownActionSetWrite set fields s)
  | .actionSetRead tag set => answerRequest tag 0x21 s (ownActionSetRead set s)
  | .templateLoad tag template lines => answerRequest tag 0x22 s (ownTemplateLoad template lines s)
  | .templateRead tag template => answerRequest tag 0x23 s (ownTemplateRead template s)
  | .stencilRequest tag head template number chest =>
    answerRequest tag 0x24 s (ownStencilRequest head template number chest s)
  | .headResume tag head => answerRequest tag 0x25 s (ownHeadResume head s)
  | .headReline tag head => answerRequest tag 0x26 s (ownHeadReline head s)
  | .headSkip tag head => answerRequest tag 0x27 s (ownHeadSkip head s)
  | .headReset tag head => answerRequest tag 0x28 s (ownHeadReset head s)
  | .headSet tag head setting => answerRequest tag 0x29 s (ownHeadSet head setting s)
  | .headRead tag head => answerRequest tag 0x2A s (ownHeadRead head s)
  | .windowSet tag window fields => answerRequest tag 0x2B s (ownWindowSet window fields s)
  | .windowRead tag number => answerRequest tag 0x2C s (ownWindowRead number s)
  | .sheetFetch tag number part => answerRequest tag 0x2D s (ownSheetFetch number part s)
  | .sheetRelease tag number => answerRequest tag 0x2E s (ownSheetRelease number s)
  | .storeRead tag part => answerRequest tag 0x2F s (ownStoreRead part s)
  | .clockSet tag reading => answerRequest tag 0x30 s (ownClockSet reading s)
  | .clockRound tag => answerRequest tag 0x31 s (ownClockRound s)
  | .clockRead tag => answerRequest tag 0x32 s (ownClockRead s)
  | .status tag => answerRequest tag 0x33 s (ownStatus s)
  | .noticeMask tag flags => answerRequest tag 0x34 s (ownNoticeMask flags s)
  | .linkSpeed tag speed => answerRequest tag 0x35 s (ownLinkSpeed speed s)
  | .saveSettings tag => takeSaveSettings tag s
  | .restart tag form => takeRestart tag form s
  | .sampleWord _ _ | .signalTimerExpiry _ | .append _ _ _ _ | .appendAnswer _ _ | .tareSample _ _ _
  | .tareAnswer _ _ _ | .reading _ _ _ _ | .leaveReport | .stallTimerExpiry | .sampleMark _ _ | .event _ _
  | .gatePulseEnd _ | .stencilJobRequest _ _ _ _ | .stencilStatus _ _ | .jobRemoval _ | .characterSent _
  | .lineAcknowledge _ | .ackTimerExpiry _ | .headFault _ | .sheetRequest _ | .chestEntryWritten | .secondAdvance
  | .frameReceived _ | .badFrame | .frameGapTimeout | .frameSent | .noticeOffer _ | .captureWaitTimeout _
  | .slotDiscard _ | .saveWriteEnd _ | .powerOn | .powerLoss | .byteReceived _ _ => s

/-! ### Dispatch (R175) -/

/-- The transmitter, when free, begins the oldest reply or notice (R179). -/
def State.transmit (s : State) : State := s.setLink s.link.beginSend

/-- A dispatched frame is refused for its kind or its length, or taken by the owner of its request (R176). -/
def takeFrame (f : Frame) (s : State) : State :=
  match decodeRequest f with
  | .error e => s.joinReply ⟨f.tag, f.kind, .refused (dispatchReason e), false⟩
  | .ok i => takeRequest i s

/-- The front frame leaves the holding and its request is taken at that moment (R175, R178). -/
def dispatchFront (s : State) : State :=
  match s.link.holding with
  | [] => s
  | f :: rest => takeFrame f (s.setLink { s.link with holding := rest })

/-- As long as a request may be dispatched the front frame is, and the transmitter begins its reply when free: at most one
round for each frame held. -/
def serveRounds : Nat → State → State
  | 0, s => s
  | n + 1, s => if s.link.mayDispatch then serveRounds n (dispatchFront s).transmit else s

/-- The transmitter and the dispatcher act until neither can (R175, R179). -/
def State.serve (s : State) : State := serveRounds s.link.holding.length s.transmit

/-! ### Replies (R178) -/

/-- The reply of a request joins the reply line, and the line and the holding are served (R175, R178, R179). -/
def State.reply (s : State) (tag kind : Byte) (form : Form) : State := (s.joinReply ⟨tag, kind, form, false⟩).serve

/-- A request on a powered part: it is taken by its owner, and the line and the holding are served (log 3). -/
def onRequest (tag kind : Byte) (s : State) (owner : State → Answer) : Host.Outcome State Fault Refusal :=
  onPower s fun s => (answerRequest tag kind s (owner s)).serve

end Sys2Proof.Machine
end

