-- ==== Sys2Proof/Machine/Line.lean ====
section
/-! DEFINITION. What ends on the host line (spec/09): frames received whole or byte by byte (R172 to R174), and frames sent
(R179, R191). Each frees the holding or the transmitter, so the line is served behind it. -/

namespace Sys2Proof.Machine

/-! ### Frames received (R172 to R174) -/

/-- A frame with a good check has arrived: the receiver hunts, the frame joins the holding or is answered BUSY (R174), and is
dispatched when it may be (R175). -/
def frameArrives (f : Frame) (s : State) : State :=
  (s.setLink (({ s.link with receiver := .hunting } : Link).hold f)).serve

/-- FRAME_RECEIVED: a frame that ends on the line has arrived (R172, R174, R175; log 27). -/
def execFrameReceived (f : Frame) (s : State) : Host.Outcome State Fault Refusal := onPower s (frameArrives f)

/-- A byte taken while assembling (R172, R173). -/
def assembleByte (bytes : List Byte) (b : Byte) (s : State) : State :=
  match assembly (bytes ++ [b]) with
  | .more => s.setReceiver (.assembling (bytes ++ [b]) 0)
  | .bad => s.discardFrame .hunting
  | .arrived f => frameArrives f s

/-- A byte on the host line (R172, R173). -/
def takeByte (b : Byte) (stopBit : Bool) (s : State) : State :=
  match s.link.receiver with
  | .hunting => s.setReceiver (huntByte b stopBit)
  | .assembling bytes gap =>
    if Config.frameGapLimit < gap then s.discardFrame (huntByte b stopBit)
    else if !stopBit then s.discardFrame .hunting
    else assembleByte bytes b s

/-- BYTE_RECEIVED: a byte moves the receiver, and the last byte of a frame makes it arrive or be found bad (R171 to
R173). -/
def execByteReceived (byte : DataBits) (stopBit : Bool) (s : State) : Host.Outcome State Fault Refusal :=
  onPower s (takeByte (dataByte byte) stopBit)

/-! ### Frames sent (R179, R191) -/

/-- Whether the frame being sent is the reply that a restart waits for (R191). -/
def OutFrame.isRestart : OutFrame → Bool
  | .reply r => match r.form with
    | .ok (.restart _) => true
    | _ => false
  | .notice _ _ => false

/-- The frame being sent has ended and the transmitter goes on with the next (R179, R175). -/
def sendNext (s : State) : State := (s.setLink { s.link with sending := none }).serve

/-- The frame being sent ends: the restart it replied to is taken, or the next frame begins (R179, R191, R192). -/
def takeFrameSent (s : State) : State :=
  match s.link.sending with
  | none => s
  | some f =>
    match s.settings.restart with
    | some form => if f.isRestart then startIn form s else sendNext s
    | none => sendNext s

/-- FRAME_SENT: the transmitter finishes a frame and begins the oldest reply or notice waiting (R179). -/
def execFrameSent (s : State) : Host.Outcome State Fault Refusal := onPower s takeFrameSent

end Sys2Proof.Machine
end

