-- ==== Sys2Proof/Machine/Requests.lean ====
section
/-! DEFINITION. The meanings of the requests, one for each: the request is taken by its owner, whose answer is the reply, and
the line is served behind it (R175, R178). What an owner checks and does stands in its own file. -/

namespace Sys2Proof.Machine

/-! ### Weigh station unit (spec/01) -/

/-- STATION_CONFIG: a station's role, measuring settings and standing settings are set (R3). -/
def execStationConfig (tag : Byte) (r : StationConfigFields) (s : State) : Host.Outcome State Fault Refusal :=
  onRequest tag 0x01 s (ownStationConfig r)

/-- STATION_CAL: a station's zero count and span are set, Zt cleared and the station restarted (R6). -/
def execStationCal (tag : Byte) (station : Nat) (zeroCount : Int) (span : Nat) (s : State) :
    Host.Outcome State Fault Refusal :=
  onRequest tag 0x02 s (ownStationCal station zeroCount span)

/-- STATION_RESTART: a station restart of a station with a role (R9). -/
def execStationRestart (tag : Byte) (station : Nat) (s : State) : Host.Outcome State Fault Refusal :=
  onRequest tag 0x03 s (ownStationRestart station)

/-- STATION_ZERO: a settled empty station is zeroed (R16). -/
def execStationZero (tag : Byte) (station : Nat) (s : State) : Host.Outcome State Fault Refusal :=
  onRequest tag 0x04 s (ownStationZero station)

/-- WEIGH_CAPTURE: a station's next settled gross is answered at once or through a delayed-answer slot (R27). -/
def execWeighCapture (tag : Byte) (station : Nat) (s : State) : Host.Outcome State Fault Refusal :=
  onRequest tag 0x05 s (ownWeighCapture station)

/-- STATION_READ: a station's role, state, weights, decision record and queue are reported (R28). -/
def execStationRead (tag : Byte) (station : Nat) (s : State) : Host.Outcome State Fault Refusal :=
  onRequest tag 0x06 s (ownStationRead station)

/-! ### Package type table (spec/02) -/

/-- PACKTYPE_SET: a type takes its description, nominal tare and band, and its tare list is emptied (R36). -/
def execPacktypeSet (tag : Byte) (type : Nat) (description : Text) (nominal band : Int) (s : State) :
    Host.Outcome State Fault Refusal :=
  onRequest tag 0x07 s (ownPacktypeSet type description nominal band)

/-- TARE_LIST_CLEAR: a type's tare list is emptied (R37). -/
def execTareListClear (tag : Byte) (type : Nat) (s : State) : Host.Outcome State Fault Refusal :=
  onRequest tag 0x08 s (ownTareListClear type)

/-- TARE_LIST_READ: a type, its tare list and its tare value are reported (R38). -/
def execTareListRead (tag : Byte) (type : Nat) (s : State) : Host.Outcome State Fault Refusal :=
  onRequest tag 0x09 s (ownTareListRead type)

/-- CLASS_SET: the whole class table is replaced at once (R40). -/
def execClassSet (tag : Byte) (pairs : Vector (Nat × Nat) 4) (s : State) : Host.Outcome State Fault Refusal :=
  onRequest tag 0x0A s (ownClassSet pairs)

/-- CLASS_READ: the four classes are reported (R41). -/
def execClassRead (tag : Byte) (s : State) : Host.Outcome State Fault Refusal :=
  onRequest tag 0x0B s ownClassRead

/-! ### Bulking controller (spec/03) -/

/-- BULK_DEFINE: a bulk record is created with its components and a new run number (R44). -/
def execBulkDefine (tag : Byte) (total count : Nat) (cs : List ComponentFields) (s : State) :
    Host.Outcome State Fault Refusal :=
  onRequest tag 0x0C s (ownBulkDefine total count cs)

/-- BULK_START: a DEFINED run becomes active, arming its first component (R49). -/
def execBulkStart (tag : Byte) (run : Nat) (s : State) : Host.Outcome State Fault Refusal :=
  onRequest tag 0x0D s (ownBulkStart run)

/-- BULK_NEXT: the next PENDING component is armed, or the run completes (R53). -/
def execBulkNext (tag : Byte) (run : Nat) (s : State) : Host.Outcome State Fault Refusal :=
  onRequest tag 0x0E s (ownBulkNext run)

/-- BULK_HOLD: a run in FEEDING or ARMED is held (R56). -/
def execBulkHold (tag : Byte) (run : Nat) (s : State) : Host.Outcome State Fault Refusal :=
  onRequest tag 0x0F s (ownBulkHold run)

/-- BULK_RESUME: a HELD or STALLED run returns to ARMED with its carried gain (R58). -/
def execBulkResume (tag : Byte) (run : Nat) (s : State) : Host.Outcome State Fault Refusal :=
  onRequest tag 0x10 s (ownBulkResume run)

/-- BULK_ABORT: a run ends ABORTED (R59). -/
def execBulkAbort (tag : Byte) (run : Nat) (s : State) : Host.Outcome State Fault Refusal :=
  onRequest tag 0x12 s (ownBulkAbort run)

/-- BULK_SHORT: the active component is declared SHORT and the run rescaled (R60). -/
def execBulkShort (tag : Byte) (run : Nat) (s : State) : Host.Outcome State Fault Refusal :=
  onRequest tag 0x11 s (ownBulkShort run)

/-- BULK_RETIRE: a COMPLETE or ABORTED record with no bound invoices is freed (R65). -/
def execBulkRetire (tag : Byte) (run : Nat) (s : State) : Host.Outcome State Fault Refusal :=
  onRequest tag 0x13 s (ownBulkRetire run)

/-- BULK_READ: a bulk record is reported, or a summary for run number 0 (R66). -/
def execBulkRead (tag : Byte) (run : Nat) (s : State) : Host.Outcome State Fault Refusal :=
  onRequest tag 0x14 s (ownBulkRead run)

/-- BULK_CONFIG: the preact start, the proportion tolerance and optionally the feeder preact are set (R67). -/
def execBulkConfig (tag : Byte) (preactStart : Int) (tolerance : Nat) (preact : KeepField Int) (s : State) :
    Host.Outcome State Fault Refusal :=
  onRequest tag 0x15 s (ownBulkConfig preactStart tolerance preact)

/-! ### Invoice table (spec/04) -/

/-- INV_OPEN: an invoice is opened after number, slot, date, tare and commitment steps (R74). -/
def execInvOpen (tag : Byte) (r : InvOpenFields) (s : State) : Host.Outcome State Fault Refusal :=
  onRequest tag 0x16 s (ownInvOpen r)

/-- STATION_QUEUE_ADD: an OPEN invoice joins the end of a CHEST station's queue (R83). -/
def execStationQueueAdd (tag : Byte) (station number : Nat) (s : State) : Host.Outcome State Fault Refusal :=
  onRequest tag 0x1C s (ownStationQueueAdd station number)

/-- STATION_QUEUE_REMOVE: an invoice is removed from a station's queue (R84). -/
def execStationQueueRemove (tag : Byte) (station number : Nat) (s : State) : Host.Outcome State Fault Refusal :=
  onRequest tag 0x1D s (ownStationQueueRemove station number)

/-- INV_VOID_LAST: the newest chest of an OPEN or FULL invoice is removed (R85). -/
def execInvVoidLast (tag : Byte) (number expected : Nat) (s : State) : Host.Outcome State Fault Refusal :=
  onRequest tag 0x19 s (ownInvVoidLast number expected)

/-- INV_CLOSE: a FULL invoice begins closing, or an OPEN one is closed short (R86). -/
def execInvClose (tag : Byte) (number short : Nat) (s : State) : Host.Outcome State Fault Refusal :=
  onRequest tag 0x1A s (ownInvClose number short)

/-- INV_CANCEL: an OPEN invoice with no chests is removed and its commitment returned (R89). -/
def execInvCancel (tag : Byte) (number : Nat) (s : State) : Host.Outcome State Fault Refusal :=
  onRequest tag 0x1B s (ownInvCancel number)

/-- INV_AMEND: an invoice's mark, grade, ceiling, sample allowance or auto-close flag is changed (R90). -/
def execInvAmend (tag : Byte) (number : Nat) (f : InvAmendFields) (s : State) : Host.Outcome State Fault Refusal :=
  onRequest tag 0x17 s (ownInvAmend number f)

/-- INV_READ: part of an invoice is reported, or a table summary for number 0 (R95, R96). -/
def execInvRead (tag : Byte) (number part : Nat) (s : State) : Host.Outcome State Fault Refusal :=
  onRequest tag 0x18 s (ownInvRead number part)

/-! ### Action dispatcher (spec/05) -/

/-- VECTOR_SET: the vector table entry of a source is set (R101). -/
def execVectorSet (tag : Byte) (source : Nat) (set : Option Nat) (s : State) : Host.Outcome State Fault Refusal :=
  onRequest tag 0x1E s (ownVectorSet source set)

/-- VECTOR_READ: the vector table, the sets' flags and counts and the gate lines are reported (R113). -/
def execVectorRead (tag : Byte) (s : State) : Host.Outcome State Fault Refusal :=
  onRequest tag 0x1F s ownVectorRead

/-- ACTION_SET_WRITE: a set's written part is replaced and its live part reset (R103). -/
def execActionSetWrite (tag : Byte) (set : Nat) (r : ActionSetFields) (s : State) : Host.Outcome State Fault Refusal :=
  onRequest tag 0x20 s (ownActionSetWrite set r)

/-- ACTION_SET_READ: a set's written and live parts are reported (R112). -/
def execActionSetRead (tag : Byte) (set : Nat) (s : State) : Host.Outcome State Fault Refusal :=
  onRequest tag 0x21 s (ownActionSetRead set)

/-! ### Stencil formatter (spec/06) -/

/-- STENCIL_REQUEST: a stencil job is queued for a chest on a head (R125). -/
def execStencilRequest (tag : Byte) (head template number chest : Nat) (s : State) :
    Host.Outcome State Fault Refusal :=
  onRequest tag 0x24 s (ownStencilRequest head template number chest)

/-- HEAD_RESUME: a HELD channel continues from its resume point (R134). -/
def execHeadResume (tag : Byte) (head : Nat) (s : State) : Host.Outcome State Fault Refusal :=
  onRequest tag 0x25 s (ownHeadResume head)

/-- HEAD_RELINE: the current line is sent again from its start (R135). -/
def execHeadReline (tag : Byte) (head : Nat) (s : State) : Host.Outcome State Fault Refusal :=
  onRequest tag 0x26 s (ownHeadReline head)

/-- HEAD_SKIP: the job in hand is given up (R136). -/
def execHeadSkip (tag : Byte) (head : Nat) (s : State) : Host.Outcome State Fault Refusal :=
  onRequest tag 0x27 s (ownHeadSkip head)

/-- HEAD_RESET: every job of a head is dropped and its channel set IDLE (R137). -/
def execHeadReset (tag : Byte) (head : Nat) (s : State) : Host.Outcome State Fault Refusal :=
  onRequest tag 0x28 s (ownHeadReset head)

/-- HEAD_SET: a head is turned OFF, dropping its jobs, or ON (R138). -/
def execHeadSet (tag : Byte) (head setting : Nat) (s : State) : Host.Outcome State Fault Refusal :=
  onRequest tag 0x29 s (ownHeadSet head setting)

/-- HEAD_READ: a head channel, its job in hand and its queue are reported (R139). -/
def execHeadRead (tag : Byte) (head : Nat) (s : State) : Host.Outcome State Fault Refusal :=
  onRequest tag 0x2A s (ownHeadRead head)

/-- TEMPLATE_LOAD: a template's lines and items are replaced (R116). -/
def execTemplateLoad (tag : Byte) (template : Nat) (lines : List Byte) (s : State) : Host.Outcome State Fault Refusal :=
  onRequest tag 0x22 s (ownTemplateLoad template lines)

/-- TEMPLATE_READ: a template is reported (R117). -/
def execTemplateRead (tag : Byte) (template : Nat) (s : State) : Host.Outcome State Fault Refusal :=
  onRequest tag 0x23 s (ownTemplateRead template)

/-! ### Sheet builder and record store (spec/07) -/

/-- WINDOW_SET: a catalogue window's fields and enabled flag are set (R143). -/
def execWindowSet (tag : Byte) (window : Nat) (r : WindowFields) (s : State) : Host.Outcome State Fault Refusal :=
  onRequest tag 0x2B s (ownWindowSet window r)

/-- WINDOW_READ: the windows are reported, and optionally the lot a number would take (R144). -/
def execWindowRead (tag : Byte) (number : Option Nat) (s : State) : Host.Outcome State Fault Refusal :=
  onRequest tag 0x2C s (ownWindowRead number)

/-- SHEET_FETCH: a part of a sheet is answered at once or through a delayed-answer slot (R155). -/
def execSheetFetch (tag : Byte) (n part : Nat) (s : State) : Host.Outcome State Fault Refusal :=
  onRequest tag 0x2D s (ownSheetFetch n part)

/-- SHEET_RELEASE: the oldest written sheet is released when no stencil job names its invoice (R157). -/
def execSheetRelease (tag : Byte) (n : Nat) (s : State) : Host.Outcome State Fault Refusal :=
  onRequest tag 0x2E s (ownSheetRelease n)

/-- STORE_READ: the record store, its lines and its stored sheets are reported by part (R160). -/
def execStoreRead (tag : Byte) (part : Nat) (s : State) : Host.Outcome State Fault Refusal :=
  onRequest tag 0x2F s (ownStoreRead part)

/-! ### Date clock (spec/08) -/

/-- CLOCK_SET: the reading is set and the clock made RUNNING (R166). -/
def execClockSet (tag : Byte) (r : ClockReading) (s : State) : Host.Outcome State Fault Refusal :=
  onRequest tag 0x30 s (ownClockSet r)

/-- CLOCK_ROUND: a RUNNING clock is rounded to the nearest whole minute (R167). -/
def execClockRound (tag : Byte) (s : State) : Host.Outcome State Fault Refusal :=
  onRequest tag 0x31 s ownClockRound

/-- CLOCK_READ: the state and, in RUNNING, the reading are reported (R168). -/
def execClockRead (tag : Byte) (s : State) : Host.Outcome State Fault Refusal :=
  onRequest tag 0x32 s ownClockRead

/-! ### Link controller (spec/09) -/

/-- STATUS: flags, speeds, mask, counts and slots are reported and the two error flags cleared (R182). -/
def execStatus (tag : Byte) (s : State) : Host.Outcome State Fault Refusal := onRequest tag 0x33 s ownStatus

/-- NOTICE_MASK: the notice mask is set (R181). -/
def execNoticeMask (tag : Byte) (flags : Vector Nat 7) (s : State) : Host.Outcome State Fault Refusal :=
  onRequest tag 0x34 s (ownNoticeMask flags)

/-- LINK_SPEED: the speed setting is set; the line speed stands (R171). -/
def execLinkSpeed (tag : Byte) (speed : Nat) (s : State) : Host.Outcome State Fault Refusal :=
  onRequest tag 0x35 s (ownLinkSpeed speed)

/-! ### Settings store (spec/10) -/

/-- SAVE_SETTINGS: the write of the working copy into the store begins, and the request stays in hand (R177, R196). -/
def execSaveSettings (tag : Byte) (s : State) : Host.Outcome State Fault Refusal := onPower s (takeSaveSettings tag)

/-- The write of a save ends and is verified (R197), and its request is answered and no longer in hand (R177); with no save
in flight there is no write to end (log 7). -/
def takeSaveWriteEnd (verified : Bool) (s : State) : State :=
  match s.settings.save with
  | none => s
  | some f =>
    let u := s.setLink (s.link.release 0x36)
    if verified then
      ({ u with settings := s.settings.saved f } : State).reply s.link.inHandTag 0x36 (.ok (.saved f.generation f.target))
    else
      ({ u with settings := { s.settings with save := none } } : State).reply s.link.inHandTag 0x36 (.refused .storeFail)

/-- SAVE_WRITE_END: the target is verified and the save succeeds or fails (R197). -/
def execSaveWriteEnd (verified : Bool) (s : State) : Host.Outcome State Fault Refusal :=
  onPower s (takeSaveWriteEnd verified)

/-- RESTART: a warm or cold restart is asked for, taking effect after its reply is sent (R192). -/
def execRestart (tag : Byte) (form : Nat) (s : State) : Host.Outcome State Fault Refusal :=
  onPower s fun s => (takeRestart tag form s).serve

end Sys2Proof.Machine
end

