-- ==== Sys2Proof/Machine/Idle.lean ====
section
/-! DEFINITION. What the part does with no command waiting in its queue (log 1): an arrival sent between blocks is taken, a
timer that has run out expires; with neither of these, one millisecond passes. -/

namespace Sys2Proof.Machine

/-! ### Timers that have run out -/

/-- Whether a running timer has reached its limit. -/
def due (limit : Nat) (t : Option Nat) : Bool :=
  match t with
  | some n => decide (limit ≤ n)
  | none => false

/-- The first number below `n` that satisfies a test, as the command it calls for. -/
def firstDue (n : Nat) (test : Fin n → Bool) (command : Fin n → Instr) : Option Instr :=
  ((List.finRange n).find? test).map command

/-- A signal timer that has run out (R8). -/
def signalDue (s : State) : Option Instr :=
  firstDue 4 (fun i => due Config.signalLimit s.stations[i].signalTimer) .signalTimerExpiry

/-- The stall timer, when it has run out (R57). -/
def stallDue (s : State) : Option Instr :=
  if due Config.stallLimit s.bulking.stallTimer then some .stallTimerExpiry else none

/-- An acknowledge timer that has run out in LINE-WAIT (R132). -/
def ackDue (s : State) : Option Instr :=
  firstDue 2 (fun i => s.stencils.heads[i].state == .lineWait && due Config.ackLimit s.stencils.heads[i].ackTimer)
    .ackTimerExpiry

/-- The gap between two bytes of a frame, when it has passed 20 ms (R173). -/
def gapDue (s : State) : Option Instr :=
  match s.link.receiver with
  | .assembling _ gap => if Config.frameGapLimit < gap then some .frameGapTimeout else none
  | .hunting => none

/-- Whether the wait timer of a slot has run out (R187). -/
def waitOver : Slot → Bool
  | .waiting (.capture _) _ wait => due Config.captureWaitLimit wait
  | _ => false

/-- Whether the discard timer of a slot has run out (R188). -/
def discardOver : Slot → Bool
  | .ready _ _ _ _ discard => due Config.discardLimit (some discard)
  | _ => false

/-- A slot whose wait or discard timer has run out (R187, R188). -/
def slotDue (s : State) : Option Instr :=
  (firstDue 4 (fun i => waitOver s.link.slots[i]) .captureWaitTimeout).or
    (firstDue 4 (fun i => discardOver s.link.slots[i]) .slotDiscard)

/-- A gate pulse that has run its length (R109). -/
def gateDue (s : State) : Option Instr :=
  firstDue 8 (fun i => (s.actions.gates[i].map fun p => decide (p.length ≤ p.run)).getD false) .gatePulseEnd

/-- The advance of a second, when the phase has reached 1,000 ms (R164). -/
def secondDue (s : State) : Option Instr :=
  if s.clock.reading.isSome && decide (Config.secondLength ≤ s.clock.phase) then some .secondAdvance else none

/-- A timer that has run out, as the command of its expiry. -/
def timerDue (s : State) : Option Instr :=
  (signalDue s).or ((stallDue s).or ((ackDue s).or ((gapDue s).or ((slotDue s).or ((gateDue s).or (secondDue s))))))

/-- What the part does next of itself (log 1); nothing without power. -/
def nextInternal (s : State) : Option Instr :=
  if s.powered then s.transit.head?.or (timerDue s) else none

/-! ### One millisecond -/

/-- A running timer measures one more millisecond. -/
def runTimer (t : Option Nat) : Option Nat := t.map (· + 1)

/-- The timers of a slot measure one more millisecond. -/
def Slot.tick : Slot → Slot
  | .free => .free
  | .waiting k part wait => .waiting k part (runTimer wait)
  | .ready k part o a discard => .ready k part o a (discard + 1)

/-- The gap of a frame being assembled measures one more millisecond. -/
def Receiver.tick : Receiver → Receiver
  | .hunting => .hunting
  | .assembling bytes gap => .assembling bytes (gap + 1)

/-- A gate pulse runs one more millisecond. -/
def Pulse.tick (p : Pulse) : Pulse := { p with run := p.run + 1 }

/-- The phase of a RUNNING clock measures one more millisecond (R164). -/
def Clock.tick (c : Clock) : Clock := if c.reading.isSome then { c with phase := c.phase + 1 } else c

/-- A station's signal timer measures one more millisecond. -/
def Station.tick (st : Station) : Station := { st with signalTimer := runTimer st.signalTimer }

/-- A head's acknowledge timer measures one more millisecond. -/
def Head.tick (h : Head) : Head := { h with ackTimer := runTimer h.ackTimer }

/-- The link controller's timers measure one more millisecond. -/
def Link.tick (l : Link) : Link := { l with receiver := l.receiver.tick, slots := l.slots.map Slot.tick }

/-- One millisecond passes: every running timer measures it. -/
def tick (s : State) : State :=
  { s with
    stations := s.stations.map Station.tick
    bulking := { s.bulking with stallTimer := runTimer s.bulking.stallTimer }
    actions := { s.actions with gates := s.actions.gates.map fun p => p.map Pulse.tick }
    stencils := { s.stencils with heads := s.stencils.heads.map Head.tick }
    clock := s.clock.tick
    link := s.link.tick }

/-- A millisecond on a part that has power. -/
def idle (s : State) : State := if s.powered then tick s else s

end Sys2Proof.Machine
end

