-- ==== Sys2Proof/Machine/Dispatch.lean ====
section
/-! DEFINITION. The meaning of each command: one arm for each row of spec/opcode_table.json. -/

namespace Sys2Proof.Machine

def exec (i : Instr) (s : State) : Host.Outcome State Fault Refusal :=
  match i with
  | .stationConfig tag fields => Sys2Proof.Machine.execStationConfig tag fields s
  | .stationCal tag station zeroCount span => Sys2Proof.Machine.execStationCal tag station zeroCount span s
  | .stationRestart tag station => Sys2Proof.Machine.execStationRestart tag station s
  | .stationZero tag station => Sys2Proof.Machine.execStationZero tag station s
  | .weighCapture tag station => Sys2Proof.Machine.execWeighCapture tag station s
  | .stationRead tag station => Sys2Proof.Machine.execStationRead tag station s
  | .packtypeSet tag type description nominal band => Sys2Proof.Machine.execPacktypeSet tag type description nominal band s
  | .tareListClear tag type => Sys2Proof.Machine.execTareListClear tag type s
  | .tareListRead tag type => Sys2Proof.Machine.execTareListRead tag type s
  | .classSet tag pairs => Sys2Proof.Machine.execClassSet tag pairs s
  | .classRead tag => Sys2Proof.Machine.execClassRead tag s
  | .bulkDefine tag total count components => Sys2Proof.Machine.execBulkDefine tag total count components s
  | .bulkStart tag run => Sys2Proof.Machine.execBulkStart tag run s
  | .bulkNext tag run => Sys2Proof.Machine.execBulkNext tag run s
  | .bulkHold tag run => Sys2Proof.Machine.execBulkHold tag run s
  | .bulkResume tag run => Sys2Proof.Machine.execBulkResume tag run s
  | .bulkShort tag run => Sys2Proof.Machine.execBulkShort tag run s
  | .bulkAbort tag run => Sys2Proof.Machine.execBulkAbort tag run s
  | .bulkRetire tag run => Sys2Proof.Machine.execBulkRetire tag run s
  | .bulkRead tag run => Sys2Proof.Machine.execBulkRead tag run s
  | .bulkConfig tag preactStart tolerance preact => Sys2Proof.Machine.execBulkConfig tag preactStart tolerance preact s
  | .invOpen tag fields => Sys2Proof.Machine.execInvOpen tag fields s
  | .invAmend tag number fields => Sys2Proof.Machine.execInvAmend tag number fields s
  | .invRead tag number part => Sys2Proof.Machine.execInvRead tag number part s
  | .invVoidLast tag number expected => Sys2Proof.Machine.execInvVoidLast tag number expected s
  | .invClose tag number short => Sys2Proof.Machine.execInvClose tag number short s
  | .invCancel tag number => Sys2Proof.Machine.execInvCancel tag number s
  | .stationQueueAdd tag station number => Sys2Proof.Machine.execStationQueueAdd tag station number s
  | .stationQueueRemove tag station number => Sys2Proof.Machine.execStationQueueRemove tag station number s
  | .vectorSet tag source set => Sys2Proof.Machine.execVectorSet tag source set s
  | .vectorRead tag => Sys2Proof.Machine.execVectorRead tag s
  | .actionSetWrite tag set fields => Sys2Proof.Machine.execActionSetWrite tag set fields s
  | .actionSetRead tag set => Sys2Proof.Machine.execActionSetRead tag set s
  | .templateLoad tag template lines => Sys2Proof.Machine.execTemplateLoad tag template lines s
  | .templateRead tag template => Sys2Proof.Machine.execTemplateRead tag template s
  | .stencilRequest tag head template number chest => Sys2Proof.Machine.execStencilRequest tag head template number chest s
  | .headResume tag head => Sys2Proof.Machine.execHeadResume tag head s
  | .headReline tag head => Sys2Proof.Machine.execHeadReline tag head s
  | .headSkip tag head => Sys2Proof.Machine.execHeadSkip tag head s
  | .headReset tag head => Sys2Proof.Machine.execHeadReset tag head s
  | .headSet tag head setting => Sys2Proof.Machine.execHeadSet tag head setting s
  | .headRead tag head => Sys2Proof.Machine.execHeadRead tag head s
  | .windowSet tag window fields => Sys2Proof.Machine.execWindowSet tag window fields s
  | .windowRead tag number => Sys2Proof.Machine.execWindowRead tag number s
  | .sheetFetch tag number part => Sys2Proof.Machine.execSheetFetch tag number part s
  | .sheetRelease tag number => Sys2Proof.Machine.execSheetRelease tag number s
  | .storeRead tag part => Sys2Proof.Machine.execStoreRead tag part s
  | .clockSet tag reading => Sys2Proof.Machine.execClockSet tag reading s
  | .clockRound tag => Sys2Proof.Machine.execClockRound tag s
  | .clockRead tag => Sys2Proof.Machine.execClockRead tag s
  | .status tag => Sys2Proof.Machine.execStatus tag s
  | .noticeMask tag flags => Sys2Proof.Machine.execNoticeMask tag flags s
  | .linkSpeed tag speed => Sys2Proof.Machine.execLinkSpeed tag speed s
  | .saveSettings tag => Sys2Proof.Machine.execSaveSettings tag s
  | .restart tag form => Sys2Proof.Machine.execRestart tag form s
  | .sampleWord station word => Sys2Proof.Machine.execSampleWord station word s
  | .signalTimerExpiry station => Sys2Proof.Machine.execSignalTimerExpiry station s
  | .append station invoice gross net => Sys2Proof.Machine.execAppend station invoice gross net s
  | .appendAnswer station answer => Sys2Proof.Machine.execAppendAnswer station answer s
  | .tareSample station type gross => Sys2Proof.Machine.execTareSample station type gross s
  | .tareAnswer station type taken => Sys2Proof.Machine.execTareAnswer station type taken s
  | .reading station q settled d => Sys2Proof.Machine.execReading station q settled d s
  | .leaveReport => Sys2Proof.Machine.execLeaveReport s
  | .stallTimerExpiry => Sys2Proof.Machine.execStallTimerExpiry s
  | .sampleMark serial grams => Sys2Proof.Machine.execSampleMark serial grams s
  | .event source context => Sys2Proof.Machine.execEvent source context s
  | .gatePulseEnd line => Sys2Proof.Machine.execGatePulseEnd line s
  | .stencilJobRequest head template serial invoice => Sys2Proof.Machine.execStencilJobRequest head template serial invoice s
  | .stencilStatus serial arrival => Sys2Proof.Machine.execStencilStatus serial arrival s
  | .jobRemoval serial => Sys2Proof.Machine.execJobRemoval serial s
  | .characterSent head => Sys2Proof.Machine.execCharacterSent head s
  | .lineAcknowledge head => Sys2Proof.Machine.execLineAcknowledge head s
  | .ackTimerExpiry head => Sys2Proof.Machine.execAckTimerExpiry head s
  | .headFault head => Sys2Proof.Machine.execHeadFault head s
  | .sheetRequest invoice => Sys2Proof.Machine.execSheetRequest invoice s
  | .chestEntryWritten => Sys2Proof.Machine.execChestEntryWritten s
  | .secondAdvance => Sys2Proof.Machine.execSecondAdvance s
  | .frameReceived frame => Sys2Proof.Machine.execFrameReceived frame s
  | .badFrame => Sys2Proof.Machine.execBadFrame s
  | .frameGapTimeout => Sys2Proof.Machine.execFrameGapTimeout s
  | .frameSent => Sys2Proof.Machine.execFrameSent s
  | .noticeOffer notice => Sys2Proof.Machine.execNoticeOffer notice s
  | .captureWaitTimeout slot => Sys2Proof.Machine.execCaptureWaitTimeout slot s
  | .slotDiscard slot => Sys2Proof.Machine.execSlotDiscard slot s
  | .saveWriteEnd verified => Sys2Proof.Machine.execSaveWriteEnd verified s
  | .powerOn => Sys2Proof.Machine.execPowerOn s
  | .powerLoss => Sys2Proof.Machine.execPowerLoss s
  | .byteReceived byte stopBit => Sys2Proof.Machine.execByteReceived byte stopBit s

end Sys2Proof.Machine
end

