-- ==== Sys2Proof/Machine/Frames.lean ====
section
/-! DEFINITION. The frames the transmitter sends, as bytes (R201 to R205): replies, notices and fetched sheets. Where R203
and R201 leave a form open (an absent value with no stated form, a value of several parts, the size of a small quantity that
R201 does not name) logs 16 to 18, 37, 38, 41, 42 and 48 say which form stands here. -/

namespace Sys2Proof.Machine

/-! ### Values (R201) -/

/-- A flag in one byte. -/
def flagByte (b : Bool) : List Byte := natBytes 1 (if b then 1 else 0)

/-- A number that may be absent, sent as 0 then. -/
def optBytes (k : Nat) (o : Option Nat) : List Byte := natBytes k (o.getD 0)

/-- A signed weight that may be absent, sent as 0 then. -/
def optWeight (o : Option Int) : List Byte := intBytes 4 (o.getD 0)

/-- An index that may be absent, sent as 255 then. -/
def optIndex (o : Option Nat) : List Byte := natBytes 1 (o.getD 255)

/-- A list of varying length: a count byte and the entries (R203). -/
def listBytes {α : Type} (enc : α → List Byte) (l : List α) : List Byte := natBytes 1 l.length ++ l.flatMap enc

/-- A vector entry, 255 for NONE. -/
def entryBytes (e : Option (Fin 32)) : List Byte := optIndex (e.map Fin.val)

/-- The kind and object of a slot: a station in one byte, an invoice number in three. -/
def keyBytes : SlotKey → List Byte
  | .capture i => natBytes 1 0 ++ natBytes 1 i
  | .fetch n => natBytes 1 1 ++ natBytes 3 n

/-- The object of a slot alone. -/
def objectBytes : SlotKey → List Byte
  | .capture i => natBytes 1 i
  | .fetch n => natBytes 3 n

/-- A resume point: its form, line and remaining length (log 17), each in one byte (log 48). -/
def resumeBytes : ResumePoint → List Byte
  | .midLine line remaining => natBytes 1 0 ++ natBytes 1 line ++ natBytes 1 remaining
  | .atLineEnd line => natBytes 1 1 ++ natBytes 1 line ++ natBytes 1 0
  | .none => natBytes 1 2 ++ natBytes 1 0 ++ natBytes 1 0

/-- The parts of an event's context. -/
def contextBytes (c : EventContext) : List Byte :=
  optIndex (c.station.map Fin.val) ++ optBytes 3 c.invoice ++ optBytes 2 c.serial

/-- The code of a refusal reason (R201). -/
def reasonCode : Reason → Nat
  | .length => 1
  | .unknown => 2
  | .range => 3
  | .state => 4
  | .notFound => 5
  | .full => 6
  | .busy => 7
  | .conflict => 8
  | .insufficient => 9
  | .storeFail => 10

/-! ### Records -/

/-- A decision record, absent fields as R201 gives. -/
def decisionBytes (r : DecisionRecord) : List Byte :=
  natBytes 1 r.outcome.ctorIdx ++ optBytes 3 r.invoice ++ optWeight r.gross ++ optWeight r.net ++ optBytes 1 r.chest ++
    optBytes 2 r.serial

/-- What STATION-READ reports, in the order of R28. -/
def stationBytes (r : StationReport) : List Byte :=
  natBytes 1 r.role.ctorIdx ++ natBytes 1 r.state.ctorIdx ++ flagByte r.settled ++ flagByte r.outOfRange ++
    intBytes 4 r.q ++ intBytes 2 r.zt ++ natBytes 1 r.filterCount ++ natBytes 1 r.settleCount ++
    decisionBytes r.decision ++ flagByte r.outstanding ++ listBytes (natBytes 3) r.queue

/-- A component as BULK-READ reports it (R66). -/
def componentBytes (c : Component) : List Byte :=
  c.label ++ natBytes 2 c.fraction ++ natBytes 4 c.target ++ natBytes 4 c.fed ++ natBytes 1 c.state.ctorIdx

/-- A bulk record in the order of R66; its carried gain is sent with or without an active component (log 36). -/
def bulkBytes (r : BulkRecord) (gain : Option Int) : List Byte :=
  natBytes 2 r.run ++ natBytes 1 r.state.ctorIdx ++ natBytes 3 r.definedTotal ++ natBytes 4 r.total ++
    optIndex r.active ++ intBytes 4 r.carried ++ optWeight gain ++ listBytes componentBytes r.components ++
    natBytes 4 r.fed ++ natBytes 4 r.uncommitted ++ natBytes 1 r.bound ++ dateBytes r.date ++
    flagByte r.offProportion ++ flagByte r.short

/-- A lot binding: its form and its lot (log 17). -/
def lotBytes : LotBinding → List Byte
  | .unresolved => natBytes 1 0 ++ natBytes 3 0
  | .bound lot => natBytes 1 1 ++ natBytes 3 lot
  | .none => natBytes 1 2 ++ natBytes 3 0

/-- An invoice record in the order of the table of spec/04 4.1, the accepted count at its place there (R95; log 42). -/
def recordBytes (r : InvoiceRecord) (accepted : Nat) : List Byte :=
  natBytes 3 r.number ++ r.garden ++ r.grade ++ natBytes 1 r.packType ++ natBytes 2 r.tare ++ natBytes 3 r.declaredNet ++
    natBytes 1 r.packages ++ natBytes 1 accepted ++ natBytes 1 r.cls ++ flagByte r.tightened ++ natBytes 2 r.ceiling ++
    intBytes 4 r.tally ++ flagByte r.overrun ++ natBytes 3 r.allowance ++ flagByte r.autoClose ++
    flagByte r.shortClose ++ optBytes 2 r.bulkRun ++ flagByte r.offProportion ++ dateBytes (some r.date) ++
    lotBytes r.lot ++ natBytes 1 r.state.ctorIdx

/-- A chest entry in the order of the second table of spec/04 4.1. -/
def chestBytes (c : Chest) : List Byte :=
  natBytes 1 c.number ++ natBytes 2 c.serial ++ natBytes 1 c.station ++ intBytes 4 c.gross ++ intBytes 4 c.net ++
    natBytes 1 c.status.ctorIdx ++ flagByte c.sample

/-- A line of the table summary (R96). -/
def lineBytes (l : InvoiceLine) : List Byte :=
  natBytes 3 l.number ++ natBytes 1 l.state.ctorIdx ++ natBytes 1 l.accepted ++ natBytes 1 l.packages ++
    optBytes 2 l.bulkRun

/-- The kind and parameters of an action in the four bytes of ACTION-SET-WRITE (spec/11), which the replies send too
(log 38). -/
def actionBytes : Action → List Byte
  | .stencil head template => natBytes 1 0 ++ natBytes 1 head ++ natBytes 2 template
  | .gate line length => natBytes 1 1 ++ natBytes 1 line ++ natBytes 2 length
  | .notice code => natBytes 1 2 ++ natBytes 1 code ++ natBytes 2 0
  | .sample grams => natBytes 1 3 ++ natBytes 1 0 ++ natBytes 2 grams

/-- A set as ACTION-SET-READ reports it: the reload in one byte, the count in two (spec/11). -/
def setBytes (a : ActionSet) : List Byte :=
  flagByte a.written.enabled ++ actionBytes a.written.action ++ natBytes 1 a.written.actOn.ctorIdx ++
    natBytes 1 a.written.mode.ctorIdx ++ natBytes 1 a.written.reload ++ flagByte a.written.notify ++
    flagByte a.written.chain ++ flagByte a.live ++ natBytes 2 a.count

/-- A gate line: low or high, and the time left (R113; log 17). -/
def gateBytes (left : Option Nat) : List Byte := flagByte left.isSome ++ optBytes 2 left

/-- A snapshot, zeros when absent (log 16). -/
def snapshotBytes (c : Option Snapshot) : List Byte :=
  optBytes 1 (c.map (·.chest)) ++ optWeight (c.map (·.gross)) ++ optWeight (c.map (·.net))

/-- The job in hand as HEAD-READ reports it (R139); the position and the remaining length take one byte each (DESIGN CHOICE,
log 48). -/
def jobBytes (j : JobReport) : List Byte :=
  natBytes 2 j.serial ++ natBytes 3 j.invoice ++ natBytes 1 j.template ++ natBytes 1 j.lines ++ natBytes 1 j.line ++
    natBytes 1 j.position ++ natBytes 1 j.remaining ++ snapshotBytes j.snapshot

/-- A queued job as HEAD-READ reports it (R139). -/
def queuedBytes (j : Job) : List Byte :=
  natBytes 2 j.serial ++ natBytes 3 j.invoice ++ natBytes 1 j.template ++ natBytes 1 j.origin.ctorIdx ++
    flagByte j.snapshot.isSome

/-- What HEAD-READ reports, in the order of R139; no job in hand is nineteen zeros (log 16). -/
def headBytes (h : HeadReport) : List Byte :=
  natBytes 1 h.state.ctorIdx ++ (match h.inHand with | some j => jobBytes j | none => natBytes 19 0) ++
    resumeBytes h.resume ++ optBytes 2 h.ackLeft ++ listBytes queuedBytes h.queue

/-- A catalogue window (R143). -/
def windowBytes (w : Window) : List Byte :=
  natBytes 3 w.base ++ natBytes 2 w.span ++ natBytes 3 w.lotBase ++ flagByte w.enabled

/-- The lookup of WINDOW-READ: the window, 255 for NONE, and the lot (R144). -/
def lookupBytes : Option (Option (Fin 4 × Nat)) → List Byte
  | none => []
  | some none => natBytes 1 255 ++ natBytes 3 0
  | some (some (i, lot)) => natBytes 1 i ++ natBytes 3 lot

/-- A delayed-answer slot as STATUS reports it: its number and state, for a slot in use its key, for READY its outcome
(R182; log 16). -/
def slotBytes (i : Fin 4) : Slot → List Byte
  | .free => natBytes 1 i ++ natBytes 1 0
  | .waiting k _ _ => natBytes 1 i ++ natBytes 1 1 ++ keyBytes k
  | .ready k _ o _ _ => natBytes 1 i ++ natBytes 1 2 ++ keyBytes k ++ natBytes 1 o.ctorIdx

/-- What STATUS reports, in the order of R182; the notice counter takes one byte, as in a frame (log 48). -/
def statusBytes (r : StatusReport) : List Byte :=
  flagByte r.linkError ++ flagByte r.noticesLost ++ flagByte r.defaulted ++ flagByte r.clockRunning ++
    natBytes 3 r.lineSpeed ++ natBytes 3 r.speedSetting ++ r.mask.toList.flatMap flagByte ++ natBytes 1 r.holding ++
    natBytes 1 r.notices ++ natBytes 1 r.counter ++ (List.finRange 4).flatMap fun i => slotBytes i r.slots[i]

/-! ### Fetched sheets (R205) -/

/-- The flags of a sheet head, summed (R205). -/
def sheetFlags (h : SheetHead) : Nat :=
  (if h.tightened then 1 else 0) + (if h.shortClose then 2 else 0) + (if h.overrun then 4 else 0) +
    (if h.offProportion then 8 else 0)

/-- The sheet head, 62 bytes (R205). -/
def sheetHeadBytes (h : SheetHead) : List Byte :=
  natBytes 3 h.number ++ h.garden ++ h.grade ++ natBytes 1 h.packType ++ natBytes 1 h.packages ++
    natBytes 3 h.declaredNet ++ natBytes 2 h.tare ++ natBytes 4 h.totalDeclared ++ intBytes 4 h.totalGross ++
    intBytes 4 h.totalActual ++ intBytes 4 h.giveaway ++ natBytes 1 (sheetFlags h) ++ natBytes 3 h.allowance ++
    dateBytes (some h.date) ++ optBytes 3 h.lot ++ optBytes 2 h.bulkRun ++ readingBytes h.time

/-- A chest entry of a sheet, 5 bytes (R205). -/
def sheetEntryBytes (e : SheetEntry) : List Byte :=
  natBytes 1 e.station ++ intBytes 2 e.deviation ++ natBytes 1 e.status.ctorIdx ++ flagByte e.sample

/-- The content of a part (R205). -/
def partBytes : SheetPart → List Byte
  | .head h => sheetHeadBytes h
  | .entries es => es.flatMap sheetEntryBytes

/-- The answer data of a capture or fetch, after its object (R203). -/
def answerBytes : SlotAnswer → List Byte
  | .capture _ st q zt => natBytes 1 st.ctorIdx ++ intBytes 4 q ++ intBytes 2 zt
  | .sheet _ part last content => natBytes 1 part ++ natBytes 1 last ++ partBytes content

/-! ### Replies (R203) -/

/-- The data of an OK reply in bytes, in the order of its rule (R203). The number of things in a list is the count byte of the
list (R38, R96; log 37), and VECTOR-READ sends no reload (R113; log 41). A page, a store slot, a place in a queue or line, a
line's length and an image place take one byte each, as R201 names no size for them (DESIGN CHOICE, log 48). -/
def okBytes : OkData → List Byte
  | .done => []
  | .station r => stationBytes r
  | .zeroed zt => intBytes 2 zt
  | .delivered slot k o a =>
    optIndex (slot.map Fin.val) ++ natBytes 1 o.ctorIdx ++ objectBytes k ++
      (match a with | some x => answerBytes x | none => [])
  | .packType t tare => natBytes 1 t ++ natBytes 4 tare
  | .tareList t p tare =>
    natBytes 1 t ++ p.description ++ natBytes 4 p.nominal ++ natBytes 4 p.band ++ listBytes (natBytes 4) p.tares ++
      natBytes 4 tare
  | .classes c => c.toList.flatMap fun a => natBytes 1 a.under ++ natBytes 1 a.overBy
  | .bulkDefined run ts => natBytes 2 run ++ listBytes (natBytes 4) ts
  | .bulkNext st armed =>
    natBytes 1 st.ctorIdx ++ optIndex (armed.map Prod.fst) ++ optBytes 4 (armed.map Prod.snd)
  | .bulkCarried c => intBytes 4 c
  | .bulkFed n => natBytes 4 n
  | .bulkShort total ts off st =>
    natBytes 4 total ++ listBytes (natBytes 4) ts ++ flagByte off ++ natBytes 1 st.ctorIdx
  | .bulkRun n => natBytes 2 n
  | .bulkRecord r gain => bulkBytes r gain
  | .bulkSummary runs p ps tol gate active =>
    listBytes (fun x => natBytes 2 x.1 ++ natBytes 1 x.2.ctorIdx) runs ++ intBytes 4 p ++ intBytes 4 ps ++
      natBytes 2 tol ++ natBytes 1 (if gate then 0 else 1) ++ optBytes 2 active
  | .bulkConfig ps tol p => intBytes 4 ps ++ natBytes 2 tol ++ intBytes 4 p
  | .invOpened n req granted tare date run =>
    natBytes 3 n ++ natBytes 1 req ++ natBytes 1 granted ++ natBytes 2 tare ++ dateBytes (some date) ++ optBytes 2 run
  | .invoice r accepted => recordBytes r accepted
  | .chests accepted cs => listBytes chestBytes cs ++ natBytes 1 accepted
  | .invSummary ls next qs =>
    listBytes lineBytes ls ++ natBytes 2 next ++ qs.toList.flatMap (listBytes (natBytes 3))
  | .voided n c tally => natBytes 3 n ++ chestBytes c ++ intBytes 4 tally
  | .closed st short =>
    natBytes 1 st.ctorIdx ++ optBytes 1 (short.map Prod.fst) ++ optBytes 4 (short.map Prod.snd)
  | .cancelled n w => natBytes 3 n ++ natBytes 4 w
  | .queue q => listBytes (natBytes 3) q
  | .vectors v => v.toList.flatMap entryBytes
  | .dispatcher v sets gates =>
    v.toList.flatMap entryBytes ++ (sets.toList.flatMap fun a => flagByte a.live ++ natBytes 2 a.count) ++
      gates.toList.flatMap gateBytes
  | .actionSet a => setBytes a
  | .templateLoaded t ls => natBytes 1 t ++ listBytes (natBytes 1) ls
  | .template t => templateBytes t
  | .stencilQueued h serial place => natBytes 1 h ++ natBytes 2 serial ++ natBytes 1 place
  | .headState st => natBytes 1 st.ctorIdx
  | .serials ss => listBytes (natBytes 2) ss
  | .serial n => natBytes 2 n
  | .head h => headBytes h
  | .windows ws look => ws.toList.flatMap windowBytes ++ lookupBytes look
  | .released n pages page slot => natBytes 3 n ++ natBytes 1 pages ++ natBytes 1 page ++ natBytes 1 slot
  | .storeSummary page slot pages sheets last building waiting =>
    natBytes 1 page ++ natBytes 1 slot ++ natBytes 1 pages ++ natBytes 1 sheets ++ natBytes 1 last ++
      optBytes 3 (building.map Prod.fst) ++ optBytes 1 (building.map Prod.snd) ++
      listBytes (fun x => natBytes 3 x.1 ++ natBytes 1 x.2) waiting
  | .storeList last sheets =>
    natBytes 1 last ++ listBytes (fun h => natBytes 3 h.invoice ++ natBytes 1 h.page ++ natBytes 1 h.first ++
      natBytes 1 h.slots ++ natBytes 1 (if h.written then 0 else 1)) sheets
  | .clock r =>
    match r with
    | some x => natBytes 1 1 ++ readingBytes (some x)
    | none => natBytes 1 0
  | .clockRounded r => readingBytes (some r)
  | .status r => statusBytes r
  | .mask m => m.toList.flatMap flagByte
  | .speeds setting line => natBytes 3 setting ++ natBytes 3 line
  | .saved g p => natBytes 2 g ++ natBytes 1 p
  | .restart f => natBytes 1 f.ctorIdx

/-- The form of a reply and what follows it (R201, R203). -/
def formBytes : Form → List Byte
  | .ok d => natBytes 1 0 ++ okBytes d
  | .pending i => natBytes 1 1 ++ natBytes 1 i
  | .refused r => natBytes 1 2 ++ natBytes 1 (reasonCode r)

/-! ### Notices (R202, R203) -/

/-- The kind byte of a notice: 0x80 to 0x9A in the order of the class table (R202). -/
def noticeKind (n : Notice) : Byte := BitVec.ofNat 8 (0x80 + n.ctorIdx)

/-- The body of a notice: its fields in the order its rule lists them (R203). The place and the slots of INVOICE-WAITING, and
the page, first slot and slots of INVOICE-SHEETED, take one byte each (DESIGN CHOICE, log 48). -/
def noticeBody : Notice → List Byte
  | .chestDecided i inv o gross net chest serial =>
    natBytes 1 i ++ optBytes 3 inv ++ natBytes 1 o.ctorIdx ++ intBytes 4 gross ++ optWeight net ++ optBytes 1 chest ++
      optBytes 2 serial
  | .tareDecided i t o gross => natBytes 1 i ++ natBytes 1 t ++ natBytes 1 o.ctorIdx ++ intBytes 4 gross
  | .disturbed i inv chest serial gross v =>
    natBytes 1 i ++ natBytes 3 inv ++ natBytes 1 chest ++ natBytes 2 serial ++ intBytes 4 gross ++ intBytes 4 v
  | .zeroLimit i z => natBytes 1 i ++ intBytes 2 z
  | .signalLost i => natBytes 1 i
  | .stationRestarted i r => natBytes 1 i ++ natBytes 1 r.ctorIdx
  | .stationOverload i q => natBytes 1 i ++ intBytes 4 q
  | .invoiceFull n p t => natBytes 3 n ++ natBytes 1 p ++ intBytes 4 t
  | .invoiceOverrun n => natBytes 3 n
  | .giveawayHigh n t c cls => natBytes 3 n ++ intBytes 4 t ++ natBytes 2 c ++ natBytes 1 cls
  | .sampleLate n chest serial g => natBytes 3 n ++ natBytes 1 chest ++ natBytes 2 serial ++ natBytes 2 g
  | .invoiceWaiting n slots place => natBytes 3 n ++ natBytes 1 slots ++ natBytes 1 place
  | .invoiceSheeted n page slot slots lot =>
    natBytes 3 n ++ natBytes 1 page ++ natBytes 1 slot ++ natBytes 1 slots ++ optBytes 3 lot
  | .bulkComponentDone run c target fed excess p =>
    natBytes 2 run ++ natBytes 1 c ++ natBytes 4 target ++ natBytes 4 fed ++ intBytes 4 excess ++ intBytes 4 p
  | .bulkComplete run fed date off short =>
    natBytes 2 run ++ natBytes 4 fed ++ dateBytes date ++ flagByte off ++ flagByte short
  | .bulkStalled run c reason target carried =>
    natBytes 2 run ++ natBytes 1 c ++ natBytes 1 reason.ctorIdx ++ natBytes 4 target ++ intBytes 4 carried
  | .stencilMissed h t serial inv reason =>
    natBytes 1 h ++ natBytes 1 t ++ natBytes 2 serial ++ natBytes 3 inv ++ natBytes 1 reason.ctorIdx
  | .stencilDropped h serial inv reason =>
    natBytes 1 h ++ natBytes 2 serial ++ natBytes 3 inv ++ natBytes 1 reason.ctorIdx
  | .stencilDone h serial inv chest => natBytes 1 h ++ natBytes 2 serial ++ natBytes 3 inv ++ natBytes 1 chest
  | .headStopped h serial inv line => natBytes 1 h ++ natBytes 2 serial ++ natBytes 3 inv ++ natBytes 1 line
  | .headHeld h left serial inv p =>
    natBytes 1 h ++ natBytes 1 left.ctorIdx ++ optBytes 2 serial ++ optBytes 3 inv ++ resumeBytes p
  | .user code i source c => natBytes 1 code ++ natBytes 1 i ++ natBytes 1 source ++ contextBytes c
  | .actionSkipped i source k => natBytes 1 i ++ natBytes 1 source ++ natBytes 1 k.ctorIdx
  | .setExhausted i m source => natBytes 1 i ++ natBytes 1 m.ctorIdx ++ natBytes 1 source
  | .chainCut source i => natBytes 1 source ++ natBytes 1 i
  | .dayRollover d => dateBytes (some d)
  | .slotReady i k o => natBytes 1 i ++ keyBytes k ++ natBytes 1 o.ctorIdx

/-! ### Frames (R202) -/

/-- A frame as it is sent: start byte, length, tag, kind, body and the check (R202). -/
def frameBytes (tag kind : Byte) (body : List Byte) : List Byte :=
  let inner := natBytes 1 (body.length + 2) ++ tag :: kind :: body
  startByte :: inner ++ crcBytes inner

/-- The bytes the transmitter sends for a reply or a notice (R179, R202, R203). -/
def OutFrame.bytes : OutFrame → List Byte
  | .reply r => frameBytes r.tag 0x40 (r.kind :: formBytes r.form)
  | .notice number n => frameBytes (BitVec.ofNat 8 number) (noticeKind n) (noticeBody n)

/-- The bits the transmitter puts on the line for a reply or a notice, each byte one character (R171). -/
def OutFrame.bits (f : OutFrame) : List Bool := f.bytes.flatMap characterBits

/-- A frame as a host sends it: the bytes that reach the receiver one by one (R172). -/
def requestBytes (f : Frame) : List Byte := frameBytes f.tag f.kind f.body

end Sys2Proof.Machine
end

