-- ==== Sys2Proof/Safety.lean ====
section
/-! DEFINITION. What holds of every state the part reaches, in the terms the statements use: one predicate for each promise
the spec makes about the part as a whole. -/

namespace Sys2Proof.Machine

/-- The images of the settings store: those of its VALID places and the copy of a save in flight. -/
def Settings.images (t : Settings) : List Image :=
  (t.places.toList.filterMap fun p => match p with | .valid _ m => some m | .invalid => none) ++
    (t.save.map (·.copy)).toList

/-- A RUNNING clock reads a calendar date of 2000..2099 and a time of day (spec/08 8.1). -/
def ClockValid (s : State) : Prop := ∀ r, s.clock.reading = some r → validReading r = true

/-- The holding keeps within three frames, the reply line within three busy replies, the notice queue within 32 notices
and the counter within a byte (R174, R180). -/
def LinkBounded (s : State) : Prop :=
  s.link.holding.length ≤ 3 ∧ s.link.busyCount ≤ 3 ∧ s.link.notices.length ≤ 32 ∧ s.link.counter < 256

/-- The line is served: nothing waits while the transmitter is free, and a frame waits in the holding only behind a request in
hand or a reply not yet sent (R175, R179). -/
def LineServed (l : Link) : Prop :=
  (l.sending = none → l.replies = [] ∧ l.notices = []) ∧
    (l.holding ≠ [] → l.inHand ≠ none ∨ ∃ r ∈ l.replies, r.busy = false)

/-- No two delayed-answer slots share a request kind and object (R183). -/
def SlotKeysDistinct (s : State) : Prop :=
  ∀ i j : Fin 4, i ≠ j → s.link.slots[i].key ≠ none → s.link.slots[i].key ≠ s.link.slots[j].key

/-- A class table lies in range and is ordered (R40). -/
def classesSound (c : Vector Allowance 4) : Prop := classesInRange c = true ∧ classesOrdered c = true

/-- The class table, and every one in the settings store, lies in range and is ordered (R40, R194). -/
def ClassTablesOrdered (s : State) : Prop :=
  classesSound s.packs.classes ∧ ∀ m ∈ s.settings.images, classesSound m.classes

/-- How many of four stations hold the role FEED. -/
def feedCount (r : Vector StationSettings 4) : Nat := (r.toList.filter fun p => p.role == .feed).length

/-- At most one station holds the role FEED, in the part and in every image of its settings (R2, R194). -/
def FeedUnique (s : State) : Prop :=
  feedCount (s.stations.map (·.settings)) ≤ 1 ∧ ∀ m ∈ s.settings.images, feedCount m.stations ≤ 1

/-- The bulk table: at most four records under distinct numbers, none of them the next number, each with fractions that sum
to 1,000, at most one active, and the feed gate open, with the stall timer running, exactly while a run is in FEEDING
(R44, R45, R46, R48). -/
structure BulkSound (b : Bulking) : Prop where
  places : b.records.length ≤ 4
  next : 1 ≤ b.nextRun ∧ b.nextRun ≤ 65535
  numbers : (b.nextRun :: b.records.map (·.run)).Nodup
  fractions : ∀ r ∈ b.records, (r.components.map (·.fraction)).sum = 1000
  oneActive : (b.records.filter fun r => r.state.isActive).length ≤ 1
  gate : b.gateOpen = true ↔ ∃ r ∈ b.records, r.state = .feeding
  timer : b.stallTimer.isSome = true ↔ ∃ r ∈ b.records, r.state = .feeding

/-- One invoice: its chest numbers are 1..accepted in order, its accepted count never exceeds its packages nor they 120, an
OPEN one has room, a FULL one has none, and with its overrun flag clear its tally is the sum of its deviations (R70, R71,
R80, spec/04 4.2). -/
structure InvoiceSound (v : Invoice) : Prop where
  numbered : v.chests.map (·.number) = List.range' 1 v.chests.length
  room : v.chests.length ≤ v.record.packages
  packages : v.record.packages ≤ 120
  opened : v.record.state = .opened → v.chests.length < v.record.packages
  full : v.record.state = .full → v.chests.length = v.record.packages
  tally : v.record.overrun = false → v.record.tally = (v.chests.map fun c => c.net - (v.record.declaredNet : Int)).sum

/-- The invoice table: at most sixteen invoices under distinct numbers, each sound, and the serial counter in its range at a
number no chest holds, no chest serial standing twice (R70, R71, R72). -/
structure TableSound (t : InvoiceTable) : Prop where
  slots : t.invoices.length ≤ 16
  numbers : (t.invoices.map fun v => v.record.number).Nodup
  next : 1 ≤ t.nextSerial ∧ t.nextSerial ≤ 65535
  serials : (t.nextSerial :: t.invoices.flatMap fun v => v.chests.map fun c => c.serial).Nodup
  each : ∀ v ∈ t.invoices, InvoiceSound v

/-- The queues: at most four numbers, none twice, at a station; at most eight jobs at a head, and no chest serial in two jobs
of the two heads, in hand or queued (R82, R123). -/
def QueuesBounded (s : State) : Prop :=
  (∀ i : Fin 4, s.invoices.queues[i].length ≤ 4 ∧ s.invoices.queues[i].Nodup) ∧
    (∀ i : Fin 2, s.stencils.heads[i].queue.length ≤ 8) ∧ (s.stencils.jobs.map (·.serial)).Nodup

/-- The record store: every sheet whole on one page, the free point on the ring, each sheet of a page behind the older ones
there, so that no two share a slot, and none at or after the free point on its page; no reserved sheet older than a written
one, no invoice number twice among the stored sheets and the waiting line, and every invoice of the table with a written
sheet SHEETED (R146, R147, R152, spec/07 7.4). -/
structure StoreSound (s : State) : Prop where
  whole : ∀ h ∈ s.store.sheets, h.page < 24 ∧ h.first + h.slots ≤ 32 ∧ h.slots = sheetSlots h.chests
  free : s.store.freePage < 24 ∧ s.store.freeSlot ≤ 32
  apart : s.store.sheets.Pairwise fun a b => a.page = b.page → a.first + a.slots ≤ b.first
  clear : ∀ h ∈ s.store.sheets, h.page = s.store.freePage → h.first + h.slots ≤ s.store.freeSlot
  order : s.store.sheets.Pairwise fun a b => b.written = true → a.written = true
  numbers : (s.store.waiting ++ s.store.sheets.map (·.invoice)).Nodup
  sheeted : ∀ h ∈ s.store.sheets, h.written = true → ∀ v ∈ s.invoices.invoices, v.record.number = h.invoice →
    v.record.state = .sheeted

/-! ### Timers -/

/-- A timer that has run out, by the command of its expiry. -/
inductive TimerOut (s : State) : Instr → Prop where
  /-- 250 ms without a valid sample (R8). -/
  | signal (i : Fin 4) (n : Nat) : s.stations[i].signalTimer = some n → 250 ≤ n → TimerOut s (.signalTimerExpiry i)
  /-- 20 s without a rise of d (R57). -/
  | stall (n : Nat) : s.bulking.stallTimer = some n → 20000 ≤ n → TimerOut s .stallTimerExpiry
  /-- 3 s in LINE-WAIT (R132). -/
  | acknowledge (i : Fin 2) (n : Nat) : s.stencils.heads[i].state = .lineWait → s.stencils.heads[i].ackTimer = some n →
    3000 ≤ n → TimerOut s (.ackTimerExpiry i)
  /-- More than 20 ms between two bytes of a frame (R173). -/
  | gap (bytes : List Byte) (n : Nat) : s.link.receiver = .assembling bytes n → 20 < n → TimerOut s .frameGapTimeout
  /-- 30 s in WAITING for a capture (R187). -/
  | wait (i station : Fin 4) (part : Option Nat) (n : Nat) : s.link.slots[i] = .waiting (.capture station) part (some n) →
    30000 ≤ n → TimerOut s (.captureWaitTimeout i)
  /-- 60 s in READY (R188). -/
  | discard (i : Fin 4) (key : SlotKey) (part : Option Nat) (o : SlotOutcome) (a : Option SlotAnswer) (n : Nat) :
    s.link.slots[i] = .ready key part o a n → 60000 ≤ n → TimerOut s (.slotDiscard i)
  /-- The length of a gate pulse (R109). -/
  | pulse (i : Fin 8) (p : Pulse) : s.actions.gates[i] = some p → p.length ≤ p.run → TimerOut s (.gatePulseEnd i)
  /-- 1,000 ms of the phase of a RUNNING clock (R164). -/
  | second : s.clock.reading ≠ none → 1000 ≤ s.clock.phase → TimerOut s .secondAdvance

/-! ### What requests carry -/

/-- The settings of a station lie in the ranges of the station record table (spec/01 1.1). -/
def StationSettings.inRange (p : StationSettings) : Bool :=
  validWindow p.w && within 2 16 p.m && within 0 8 p.b && validDivision p.d && within 1000 300000 p.c &&
    within (10 * p.d) p.c p.l

/-- A flag as its byte (R201). -/
def flagCode (b : Bool) : Nat := if b then 1 else 0

/-- The STATION-CONFIG that carries the settings `p` to station `i` (spec/11). -/
def configOf (i : Fin 4) (p : StationSettings) : StationConfigFields :=
  ⟨i, p.role.ctorIdx, p.w, p.m, p.b, p.d, p.c, p.l, p.cls, flagCode p.autoRestart, p.tareTarget⟩

/-- The states in which R4 takes a role change: OFF, NOSIGNAL, EMPTY, or ACTIVE with no active run. -/
def ChangeAllowed (i : Fin 4) (s : State) : Prop :=
  s.stations[i].state = .off ∨ s.stations[i].state = .noSignal ∨ s.stations[i].state = .empty ∨
    (s.stations[i].state = .active ∧ ∀ r ∈ s.bulking.records, r.state.isActive = false)

/-- The parameters of an action lie in range (R102). -/
def Action.inRange : Action → Prop
  | .stencil _ _ => True
  | .gate _ length => 50 ≤ length ∧ length ≤ 2000
  | .notice code => code ≤ 255
  | .sample grams => 1 ≤ grams ∧ grams ≤ 2000

/-- The kind and the two parameters that carry an action (spec/11, ACTION-SET-WRITE). -/
def Action.codes : Action → Nat × Nat × Nat
  | .stencil head template => (0, head, template)
  | .gate line length => (1, line, length)
  | .notice code => (2, code, 0)
  | .sample grams => (3, 0, grams)

/-- The ACTION-SET-WRITE fields that carry a written part (spec/11). -/
def setFields (w : WrittenSet) : ActionSetFields :=
  ⟨flagCode w.enabled, w.action.codes.1, w.action.codes.2.1, w.action.codes.2.2, w.actOn.ctorIdx, w.mode.ctorIdx, w.reload,
    flagCode w.notify, flagCode w.chain⟩

/-- An item within the ranges of spec/06 6.1, and within the nibble that carries its decimals (log 34). -/
def Item.valid : Item → Prop
  | .literal t => 1 ≤ t.length ∧ t.length ≤ 32 ∧ t.all allowedChar = true
  | .field name width _ decimals =>
    1 ≤ width ∧ width ≤ 32 ∧ decimals < 16 ∧ (name.isWeight = true → 1 ≤ decimals ∧ decimals ≤ 2)

/-- A template of at most six lines, each of at most eight items and 32 characters (R115, R116). -/
def templateValid (t : Template) : Prop :=
  t.length ≤ 6 ∧ ∀ line ∈ t, line.length ≤ 8 ∧ lineLength line ≤ 32 ∧ ∀ item ∈ line, item.valid

end Sys2Proof.Machine
end

