-- ==== Sys2Proof/Certificates/Slice0/Obligations.lean ====
section
/-! DEFINITION. The statements for the provers: what each command does to the part, what every request and every step
keeps, and how the bytes of the host line are read, each from the rules it names. -/

open Sys2Proof Sys2Proof.Machine

/-! ### The part as a whole -/

/-- One step takes the command at the front of the queue. With none waiting, a part without power stays as it is, and one
with power takes the oldest arrival between its blocks, or with none in transit the expiry of a timer that has run out; with
neither, one millisecond passes and every running timer measures it: the signal timers, the stall timer, the gate pulses,
the acknowledge timers, the phase of a RUNNING clock, the gap of a frame, and the wait and discard timers of the slots (R8,
R57, R109, R132, R164, R173, R187, R188). The order of an empty queue, arrivals in transit before timers and timers before
the millisecond, is the model's choice (log 1), and so is a part without power that stays as it is (log 6). -/
def Obligations.StepRunsTheFrontCommand : Prop :=
  (∀ (c : Instr) (s : State), step { s with pending := c :: s.pending } = exec c s) ∧
  ∀ s : State, s.pending = [] →
    (s.powered = false → step s = .next s) ∧
    (s.powered = true →
      (∀ m rest, s.transit = m :: rest → step s = exec m s) ∧
      (s.transit = [] → (∃ c, TimerOut s c) → ∃ c, TimerOut s c ∧ step s = exec c s) ∧
      (s.transit = [] → (∀ c, ¬ TimerOut s c) →
        let later (t : Option Nat) : Option Nat := t.map fun n => n + 1
        step s = .next { s with
          stations := s.stations.map fun x => { x with signalTimer := later x.signalTimer }
          bulking := { s.bulking with stallTimer := later s.bulking.stallTimer }
          actions := { s.actions with gates := s.actions.gates.map fun g => g.map fun p => ⟨p.run + 1, p.length⟩ }
          stencils := { s.stencils with
            heads := s.stencils.heads.map fun h => { h with ackTimer := later h.ackTimer } }
          clock := ⟨s.clock.reading, if s.clock.reading = none then s.clock.phase else s.clock.phase + 1⟩
          link := { s.link with
            receiver := match s.link.receiver with
              | .hunting => .hunting
              | .assembling bytes gap => .assembling bytes (gap + 1)
            slots := s.link.slots.map fun x => match x with
              | .free => .free
              | .waiting key part wait => .waiting key part (later wait)
              | .ready key part o a n => .ready key part o a (n + 1) } }))

/-- Every command answers a next state (log 25) and leaves the command queue as it was; without power nothing but a power-on
is taken (the model's choice, log 6). -/
def Obligations.ExecAnswersAndKeepsTheQueue : Prop :=
  (∀ (c : Instr) (s : State), ∃ t, exec c s = .next t ∧ t.pending = s.pending) ∧
  (∀ (c : Instr) (s : State), s.powered = false → c ≠ .powerOn → exec c s = .next s)

/-- Every request but SAVE-SETTINGS and RESTART is answered at once by exactly one reply that carries its tag and kind; a
refused one changes nothing else, and only a capture or a fetch is answered PENDING (spec/09 9.4, R178, R185). That a
request commanded without dispatch is answered too is the model's choice (log 3). -/
def Obligations.EveryRequestIsAnsweredOnce : Prop :=
  ∀ (c : Instr) (k : Byte) (s : State), c.requestKind = some k → k ≠ 0x36 → k ≠ 0x37 → s.powered = true →
    ∃ (u : State) (form : Form), exec c s = .next (u.reply c.requestTag k form) ∧
      u.link.replies = s.link.replies ∧ u.link.sending = s.link.sending ∧ u.link.inHand = s.link.inHand ∧
      (∀ r, form = .refused r → u = s) ∧ (∀ i, form = .pending i → k = 0x05 ∨ k = 0x2D)

/-- A value outside its range is refused with RANGE and changes nothing: the numbers of stations, types (PACKTYPE-SET among
their requests), sets, heads, runs and invoices, every field of STATION-CONFIG, INV-OPEN and INV-AMEND, what STENCIL-REQUEST
names, the expected serial of INV-VOID-LAST, the short option of INV-CLOSE and the setting of HEAD-SET (R1, R3, R36, R73,
R83, R84, R85, R90, R125, R155, R201, spec/00 3.8). RANGE for a run number outside 1..65,535, and for the invoice number of
STATION-QUEUE-REMOVE, where the request's own rule speaks only of NOTFOUND, is the model's choice (log 31), and so is RANGE
for a text that has not the length of its field, which no frame can carry (log 33). -/
def Obligations.NumbersOutOfRangeAreRefused : Prop :=
  ∀ (tag : Byte) (s : State), s.powered = true →
    let refused (c : Instr) : Prop := ∃ k, c.requestKind = some k ∧ exec c s = .next (s.reply tag k (.refused .range))
    (∀ n m : Nat, 4 ≤ n → ∀ c ∈ [Instr.stationRestart tag n, .stationZero tag n, .weighCapture tag n, .stationRead tag n,
      .stationQueueAdd tag n m, .stationQueueRemove tag n m], refused c) ∧
    (∀ n, 8 ≤ n → ∀ c ∈ [Instr.tareListClear tag n, .tareListRead tag n, .templateRead tag n], refused c) ∧
    (∀ (n : Nat) (d : Text) (nominal band : Int), 8 ≤ n → refused (.packtypeSet tag n d nominal band)) ∧
    (∀ n, 32 ≤ n → refused (.actionSetRead tag n)) ∧
    (∀ n setting, 2 ≤ n → ∀ c ∈ [Instr.headResume tag n, .headReline tag n, .headSkip tag n, .headReset tag n,
      .headSet tag n setting, .headSet tag 0 n, .headSet tag 1 n, .headRead tag n, .restart tag n], refused c) ∧
    (∀ n, n = 0 ∨ 65535 < n → ∀ c ∈ [Instr.bulkStart tag n, .bulkNext tag n, .bulkHold tag n, .bulkResume tag n,
      .bulkShort tag n, .bulkAbort tag n, .bulkRetire tag n], refused c) ∧
    (∀ n, 65535 < n → refused (.bulkRead tag n)) ∧
    (∀ (n m : Nat) (i : Fin 4) (h : Fin 2) (t : Fin 8) (f : InvAmendFields), n = 0 ∨ 99999 < n →
      ∀ c ∈ [Instr.invVoidLast tag n m, .invClose tag n m, .invCancel tag n, .invAmend tag n f, .sheetRelease tag n,
        .stationQueueAdd tag i n, .stationQueueRemove tag i n, .windowRead tag (some n), .stencilRequest tag h t n m],
        refused c) ∧
    (∀ n part, 99999 < n → refused (.invRead tag n part)) ∧
    (∀ n part, n = 0 ∨ 99999 < n → (∀ i : Fin 4, s.link.slots[i].key ≠ some (.fetch n)) →
      refused (.sheetFetch tag n part)) ∧
    (∀ head template n chest : Nat, 2 ≤ head ∨ 8 ≤ template → refused (.stencilRequest tag head template n chest)) ∧
    (∀ n expected, 65535 < expected → refused (.invVoidLast tag n expected)) ∧
    (∀ n short, 2 ≤ short → refused (.invClose tag n short)) ∧
    (∀ f : StationConfigFields,
      4 ≤ f.station ∨ 4 ≤ f.role ∨ f.w ∉ [1, 2, 4, 8, 16, 32] ∨ f.m < 2 ∨ 16 < f.m ∨ 8 < f.b ∨
        f.d ∉ [1, 2, 5, 10, 20, 50, 100] ∨ f.c < 1000 ∨ 300000 < f.c ∨ f.l < 10 * f.d ∨ f.c < f.l ∨ 4 ≤ f.cls ∨
        2 ≤ f.autoRestart ∨ 8 ≤ f.tareTarget → refused (.stationConfig tag f)) ∧
    (∀ f : InvOpenFields,
      f.number = 0 ∨ 99999 < f.number ∨ validText 12 f.garden = false ∨ validText 6 f.grade = false ∨ 8 ≤ f.packType ∨
        f.declaredNet < 1000 ∨ 100000 < f.declaredNet ∨ f.packages = 0 ∨ 120 < f.packages ∨ 4 ≤ f.cls ∨
        9999 < f.ceiling ∨ 99999 < f.allowance ∨ 2 ≤ f.autoClose ∨
        (∃ n, f.bulkRun = some n ∧ (n = 0 ∨ 65535 < n)) ∨ (∃ d, f.date = some d ∧ validDate d = false) →
      refused (.invOpen tag f)) ∧
    ∀ (n : Nat) (f : InvAmendFields),
      (f.garden.given = 1 ∧ validText 12 f.garden.value = false) ∨ (f.grade.given = 1 ∧ validText 6 f.grade.value = false) ∨
        (f.ceiling.given = 1 ∧ 9999 < f.ceiling.value) ∨ (f.allowance.given = 1 ∧ 99999 < f.allowance.value) ∨
        (f.autoClose.given = 1 ∧ 2 ≤ f.autoClose.value) ∨ 2 ≤ f.garden.given ∨ 2 ≤ f.grade.given ∨ 2 ≤ f.ceiling.given ∨
        2 ≤ f.allowance.given ∨ 2 ≤ f.autoClose.given → refused (.invAmend tag n f)

/-! ### Bytes and frames -/

/-- Every well-formed request, sent as its frame, is read back as itself, with every operand at every value its field
admits (R201 to R204). -/
def Obligations.RequestsRoundTrip : Prop :=
  ∀ (i : Instr) (f : Frame), i.wellFormed = true → encodeRequest i = some f → decodeRequest f = .ok i

/-- The kind is judged before the length, and the two alone decide what the link controller refuses: UNKNOWN exactly outside
0x01..0x37, LENGTH exactly where the body does not fit its kind; and the bytes of a frame, taken one by one, are more to
come up to the last and then the frame itself, for the frames the part sends as for those it receives, while a length
outside 2..250 and a wrong check are bad (R172, R173, R176, R202). A frame is the start byte, its length, tag, kind and
body, and the CRC-16 of these, low byte first: the register starts at 0xFFFF, takes each byte into its high eight bits by
exclusive-or and is shifted left eight times, 0x1021 combined into it at each 1 shifted out, so that `123456789` gives
0x29B1 (R202). The allowed characters are A to Z, 0 to 9, space and the four signs, and a text of a field has the field's
width (spec/00 3.6; log 33). On the line each byte is a start bit 0, its eight bits, the least significant first, and a stop
bit 1 (R171; the values of the two are log 49). Numbers are sent low byte first, signed ones in two's complement (R201). A
reply is a frame of kind 0x40 under its request's tag, its body the kind, the form and what the form carries; a notice is a
frame of its class-table kind under its number. The bodies of CHEST-DECIDED, of a fetched sheet, a captured weight, the
clock's readings and a part of a chest list are read back field by field; the sheet head is 62 bytes and an entry 5, so a
full part's reply is 209 bytes and the head's 71 (R189, R203, R205, R95, R167; the code of an outcome is that of log 17). -/
def Obligations.BytesAreReadAndSent : Prop :=
  (∀ f : Frame,
     (decodeRequest f = .error .unknown ↔ f.kind.toNat = 0 ∨ 0x37 < f.kind.toNat) ∧
     (decodeRequest f = .error .length ↔
       1 ≤ f.kind.toNat ∧ f.kind.toNat ≤ 0x37 ∧ bodyLengthFits f.kind.toNat f.body.length = false)) ∧
  (∀ (tag kind : Byte) (body : List Byte), body.length ≤ 248 → ∃ bytes,
     frameBytes tag kind body = startByte :: bytes ∧ assembly bytes = .arrived ⟨tag, kind, body⟩ ∧
     ∀ n, n < bytes.length → assembly (bytes.take n) = .more) ∧
  (∀ (length : Byte) (rest : List Byte), length.toNat < 2 ∨ 250 < length.toNat → assembly (length :: rest) = .bad) ∧
  (∀ (tag kind : Byte) (body check : List Byte), body.length ≤ 248 → check.length = 2 →
     let checked := BitVec.ofNat 8 (body.length + 2) :: tag :: kind :: body
     check ≠ crcBytes checked → assembly (checked ++ check) = .bad) ∧
  ((∀ (tag kind : Byte) (body : List Byte),
      let checked := BitVec.ofNat 8 (body.length + 2) :: tag :: kind :: body
      frameBytes tag kind body = 0xA5 :: checked ++ crcBytes checked) ∧
    (∀ bytes : List Byte,
      crcBytes bytes = [BitVec.ofNat 8 (crc16 bytes).toNat, BitVec.ofNat 8 ((crc16 bytes).toNat / 256)]) ∧
    crc16 [] = 0xFFFF ∧
    (∀ (bytes : List Byte) (b : Byte),
      let shift (r : BitVec 16) : BitVec 16 := if r.getLsbD 15 = true then (r <<< 1) ^^^ 0x1021 else r <<< 1
      crc16 (bytes ++ [b]) =
        shift (shift (shift (shift (shift (shift (shift (shift (crc16 bytes ^^^ BitVec.ofNat 16 (b.toNat * 256)))))))))) ∧
    crc16 ("123456789".toList.map fun c => BitVec.ofNat 8 c.toNat) = 0x29B1) ∧
  ((∀ c : Byte,
      allowedChar c = true ↔ c.toNat ∈ "ABCDEFGHIJKLMNOPQRSTUVWXYZ0123456789 -/.&".toList.map Char.toNat) ∧
    ∀ (width : Nat) (t : Text), validText width t = true ↔ t.length = width ∧ ∀ c ∈ t, allowedChar c = true) ∧
  (∀ k n off : Nat, ∀ z : Int, ∀ front back : List Byte, front.length = off →
     (n < 256 ^ k → natAt off k (front ++ natBytes k n ++ back) = n ∧ (natBytes k n).length = k) ∧
     (1 ≤ k → -(256 ^ k : Int) ≤ 2 * z → 2 * z < (256 ^ k : Int) →
       intAt off k (front ++ intBytes k z ++ back) = z ∧ (intBytes k z).length = k)) ∧
  (∀ (tag kind : Byte) (busy : Bool),
     let sent (form : Form) (rest : List Byte) : Prop :=
       (OutFrame.reply ⟨tag, kind, form, busy⟩).bytes = frameBytes tag 0x40 (kind :: rest)
     (∀ i : Fin 4, sent (.pending i) [1, BitVec.ofNat 8 i]) ∧
     (∀ (r : Reason) (code : Byte), (r, code) ∈ [(Reason.length, (1 : Byte)), (.unknown, 2), (.range, 3), (.state, 4),
       (.notFound, 5), (.full, 6), (.busy, 7), (.conflict, 8), (.insufficient, 9), (.storeFail, 10)] →
       sent (.refused r) [2, code]) ∧
     (∀ d, sent (.ok d) (0 :: okBytes d))) ∧
  (∀ f : OutFrame, f.bits = f.bytes.flatMap fun b =>
     [false, b.getLsbD 0, b.getLsbD 1, b.getLsbD 2, b.getLsbD 3, b.getLsbD 4, b.getLsbD 5, b.getLsbD 6, b.getLsbD 7, true]) ∧
  (∀ (number : Nat) (n : Notice),
     (OutFrame.notice number n).bytes = frameBytes (BitVec.ofNat 8 number) (noticeKind n) (noticeBody n) ∧
     0x80 ≤ (noticeKind n).toNat ∧ (noticeKind n).toNat ≤ 0x9A) ∧
  (∀ (n m serial : Nat) (z : Int) (h : Fin 2) (t : Fin 8) (why : MissReason) (i : Fin 32) (source : Fin 20)
     (x : EventContext) (slot : Fin 4) (key : SlotKey) (o : SlotOutcome),
     noticeKind (.invoiceFull n m z) = 0x87 ∧ noticeKind (.stencilMissed h t serial n why) = 0x90 ∧
     noticeKind (.user m i source x) = 0x95 ∧ noticeKind (.slotReady slot key o) = 0x9A) ∧
  (∀ (i : Fin 4) (inv : Option Nat) (o : DecisionOutcome) (gross : Int) (net : Option Int) (chest serial : Option Nat),
     (∀ n ∈ inv, n ≤ 99999) → -2147483648 ≤ gross → gross < 2147483648 →
     (∀ n ∈ net, -2147483648 ≤ n ∧ n < 2147483648) → (∀ n ∈ chest, n ≤ 120) → (∀ n ∈ serial, n ≤ 65535) →
     let n : Notice := .chestDecided i inv o gross net chest serial
     let b := noticeBody n
     noticeKind n = 0x80 ∧ b.length = 16 ∧ natAt 0 1 b = i ∧ natAt 1 3 b = inv.getD 0 ∧ natAt 4 1 b = o.ctorIdx ∧
       intAt 5 4 b = gross ∧ intAt 9 4 b = net.getD 0 ∧ natAt 13 1 b = chest.getD 0 ∧ natAt 14 2 b = serial.getD 0) ∧
  (∀ (i : Fin 4) (d : Date), 2000 ≤ d.year → d.year ≤ 2255 → d.month < 256 → d.day < 256 →
     noticeKind (.signalLost i) = 0x84 ∧ noticeBody (.signalLost i) = [BitVec.ofNat 8 i] ∧
     noticeKind (.dayRollover d) = 0x99 ∧ (noticeBody (.dayRollover d)).length = 3 ∧
     natAt 0 1 (noticeBody (.dayRollover d)) = d.day ∧ natAt 1 1 (noticeBody (.dayRollover d)) = d.month ∧
     natAt 2 1 (noticeBody (.dayRollover d)) = d.year - 2000 ∧
     ∀ r : ClockReading, r.date = d → r.hour < 256 → r.minute < 256 → r.second < 256 →
       let b := okBytes (.clockRounded r)
       b.length = 6 ∧ natAt 0 1 b = d.day ∧ natAt 1 1 b = d.month ∧ natAt 2 1 b = d.year - 2000 ∧ natAt 3 1 b = r.hour ∧
         natAt 4 1 b = r.minute ∧ natAt 5 1 b = r.second ∧ okBytes (.clock (some r)) = 1 :: b ∧
         okBytes (.clock none) = [0]) ∧
  (∀ h : SheetHead, h.number ≤ 99999 → h.garden.length = 12 → h.grade.length = 6 → h.packages ≤ 120 →
     h.declaredNet ≤ 100000 → h.tare ≤ 65535 → h.totalDeclared < 4294967296 →
     (∀ z ∈ [h.totalGross, h.totalActual, h.giveaway], -2147483648 ≤ z ∧ z < 2147483648) → h.allowance ≤ 99999 →
     2000 ≤ h.date.year → h.date.year ≤ 2099 → h.date.month ≤ 12 → h.date.day ≤ 31 → (∀ n ∈ h.lot, n ≤ 99999) →
     (∀ n ∈ h.bulkRun, n ≤ 65535) →
     let b := sheetHeadBytes h
     b.length = 62 ∧ natAt 0 3 b = h.number ∧ field 3 12 b = h.garden ∧ field 15 6 b = h.grade ∧
       natAt 21 1 b = h.packType ∧ natAt 22 1 b = h.packages ∧ natAt 23 3 b = h.declaredNet ∧ natAt 26 2 b = h.tare ∧
       natAt 28 4 b = h.totalDeclared ∧ intAt 32 4 b = h.totalGross ∧ intAt 36 4 b = h.totalActual ∧
       intAt 40 4 b = h.giveaway ∧
       natAt 44 1 b = flagCode h.tightened + 2 * flagCode h.shortClose + 4 * flagCode h.overrun +
         8 * flagCode h.offProportion ∧
       natAt 45 3 b = h.allowance ∧ natAt 48 1 b = h.date.day ∧ natAt 49 1 b = h.date.month ∧
       natAt 50 1 b = h.date.year - 2000 ∧ natAt 51 3 b = h.lot.getD 0 ∧ natAt 54 2 b = h.bulkRun.getD 0 ∧
       field 56 6 b = (match h.time with | some r => okBytes (.clockRounded r) | none => List.replicate 6 0)) ∧
  (∀ (slot : Option (Fin 4)) (n k last : Nat) (c : SheetPart), n ≤ 99999 → k < 256 → last < 256 →
     let b := okBytes (.delivered slot (.fetch n) .answer (some (.sheet n k last c)))
     natAt 0 1 b = (slot.map Fin.val).getD 255 ∧ natAt 1 1 b = 0 ∧ natAt 2 3 b = n ∧ natAt 5 1 b = k ∧
       natAt 6 1 b = last ∧
     (∀ h : SheetHead, c = .head h → b.drop 7 = sheetHeadBytes h ∧
       (h.garden.length = 12 → h.grade.length = 6 → 2 + b.length = 71)) ∧
     ∀ es : List SheetEntry, c = .entries es → b.length = 7 + 5 * es.length ∧ (es.length = 40 → 2 + b.length = 209) ∧
       ∀ j e, es[j]? = some e → -32768 ≤ e.deviation → e.deviation ≤ 32767 →
         natAt (7 + 5 * j) 1 b = e.station ∧ intAt (8 + 5 * j) 2 b = e.deviation ∧
           natAt (10 + 5 * j) 1 b = e.status.ctorIdx ∧ natAt (11 + 5 * j) 1 b = flagCode e.sample) ∧
  (∀ (slot : Option (Fin 4)) (i : Fin 4) (st : StationState) (q zt : Int), -2147483648 ≤ q → q < 2147483648 →
     -32768 ≤ zt → zt ≤ 32767 →
     let b := okBytes (.delivered slot (.capture i) .answer (some (.capture i st q zt)))
     b.length = 10 ∧ natAt 0 1 b = (slot.map Fin.val).getD 255 ∧ natAt 1 1 b = 0 ∧ natAt 2 1 b = i ∧
       natAt 3 1 b = st.ctorIdx ∧ intAt 4 4 b = q ∧ intAt 8 2 b = zt) ∧
  (∀ (slot : Fin 4) (i : Fin 4),
     okBytes (.delivered (some slot) (.capture i) .timeout none) = [BitVec.ofNat 8 slot, 1, BitVec.ofNat 8 i] ∧
     okBytes (.delivered (some slot) (.capture i) .gone none) = [BitVec.ofNat 8 slot, 2, BitVec.ofNat 8 i]) ∧
  ∀ (accepted : Nat) (cs : List Chest), accepted ≤ 120 → cs.length ≤ 16 →
     let b := okBytes (.chests accepted cs)
     b.length = 2 + 14 * cs.length ∧ natAt 0 1 b = cs.length ∧ natAt (1 + 14 * cs.length) 1 b = accepted ∧
     ∀ j c, cs[j]? = some c → c.number ≤ 120 → c.serial ≤ 65535 →
       (∀ z ∈ [c.gross, c.net], -2147483648 ≤ z ∧ z < 2147483648) →
       natAt (1 + 14 * j) 1 b = c.number ∧ natAt (2 + 14 * j) 2 b = c.serial ∧ natAt (4 + 14 * j) 1 b = c.station ∧
         intAt (5 + 14 * j) 4 b = c.gross ∧ intAt (9 + 14 * j) 4 b = c.net ∧
         natAt (13 + 14 * j) 1 b = c.status.ctorIdx ∧ natAt (14 + 14 * j) 1 b = flagCode c.sample

/-! ### Weigh stations -/

/-- The quantized gross is d times the rounded number of divisions: a whole multiple of d, at most half a division away and
farther from zero at exactly half, with the figures R12 gives (R12). -/
def Obligations.QuantizedGross : Prop :=
  (∀ (d : Nat) (g : Int), 0 < d →
    quantize d g = d * roundDiv g d ∧ (d : Int) ∣ quantize d g ∧ 2 * (g - quantize d g).natAbs ≤ d ∧
      (2 * (g - quantize d g).natAbs = d → g.natAbs < (quantize d g).natAbs)) ∧
    quantize 20 61190 = 61200 ∧ quantize 20 (-30) = -40 ∧ ∀ g, quantize 1 g = g

/-- A STATION-CONFIG that keeps the role. The station class and the auto-restart flag are set in every state of the station,
and nothing else changes. A change of measuring settings is refused with STATE outside the states of R4; else the station
takes its settings, Zt comes within the new limit with ZERO-LIMIT offered where it lay beyond, and the station is restarted
unless it is OFF or NOSIGNAL, where its state stays and its histories are emptied (R5). The measuring settings are W, M, B,
d, C, L and the tare target, the limit is C·4/100 rounded down, and Zt beyond it takes its value with the sign it had (R5).
-/
def Obligations.ChangesWithoutANewRole : Prop :=
  ((∀ a b : StationSettings, measuringDiffers a b = true ↔
      a.w ≠ b.w ∨ a.m ≠ b.m ∨ a.b ≠ b.b ∨ a.d ≠ b.d ∨ a.c ≠ b.c ∨ a.l ≠ b.l ∨ a.tareTarget ≠ b.tareTarget) ∧
    ∀ (p : StationSettings) (z : Int), 100 * p.zeroLimit ≤ 4 * p.c ∧ (4 * p.c : Int) < 100 * (p.zeroLimit + 1) ∧
      (p.zeroLimit < z.natAbs → clampAbs p.zeroLimit z = if 0 < z then p.zeroLimit else -p.zeroLimit)) ∧
  (∀ (tag : Byte) (s : State) (i : Fin 4) (cls : Fin 4) (auto : Bool), s.powered = true →
     s.stations[i].settings.inRange = true →
     exec (.stationConfig tag (configOf i { s.stations[i].settings with cls := cls, autoRestart := auto })) s =
       .next ((s.setStation i { s.stations[i] with
         settings := { s.stations[i].settings with cls := cls, autoRestart := auto } }).reply tag 0x01 (.ok .done))) ∧
  (∀ (tag : Byte) (s : State) (i : Fin 4) (p : StationSettings), s.powered = true → p.inRange = true →
     p.role = s.stations[i].settings.role → measuringDiffers s.stations[i].settings p = true →
     (¬ ChangeAllowed i s →
       exec (.stationConfig tag (configOf i p)) s = .next (s.reply tag 0x01 (.refused .state))) ∧
     (ChangeAllowed i s →
       ∃ t : State, exec (.stationConfig tag (configOf i p)) s = .next (t.reply tag 0x01 (.ok .done)) ∧
         t.stations[i].settings = { p with zeroCount := s.stations[i].settings.zeroCount
                                           span := s.stations[i].settings.span } ∧
         (p.zeroLimit < s.stations[i].zt.natAbs →
           t.stations[i].zt = clampAbs p.zeroLimit s.stations[i].zt ∧
           t.transit = s.transit ++ [.noticeOffer (.zeroLimit i s.stations[i].zt)]) ∧
         (s.stations[i].zt.natAbs ≤ p.zeroLimit → t.stations[i].zt = s.stations[i].zt ∧ t.transit = s.transit) ∧
         t.stations[i].filter = [] ∧ t.stations[i].settle = [] ∧
         (s.stations[i].state = .off ∨ s.stations[i].state = .noSignal →
           t.stations[i].state = s.stations[i].state ∧ t.stations[i].decision = s.stations[i].decision) ∧
         (s.stations[i].state = .empty ∨ s.stations[i].state = .active →
           t.stations[i].state = reentry p.role ∧ t.stations[i].decision = .blank ∧ t.stations[i].settled = false) ∧
         t.stations[i].outstanding = s.stations[i].outstanding ∧
         t.stations[i].signalTimer = s.stations[i].signalTimer ∧
         (∀ j : Fin 4, j ≠ i → t.stations[j] = s.stations[j]) ∧ t.link = s.link ∧ t.invoices = s.invoices))

/-- A role change: refused with STATE outside the states of R4 or while the queue of a CHEST station holds an invoice, with
CONFLICT when another station holds FEED; else the station takes its settings and Zt within the new limit, and is set OFF
or restarted under the new role, the other stations untouched (R3, R4, R9). The model's choices: a role change to another
role than OFF restarts the station and so sets its decision record to NONE (log 9), STATE is judged before CONFLICT
(log 13), and a role change that changes measuring settings too brings Zt within the new limit (log 14). A station set OFF
ends its waiting capture slot with GONE (R27, R186); otherwise the link is untouched, and nothing but the stations, the
arrivals in transit and that slot changes. -/
def Obligations.RoleChange : Prop :=
  ∀ (tag : Byte) (s : State) (i : Fin 4) (p : StationSettings), s.powered = true → p.inRange = true →
    p.role ≠ s.stations[i].settings.role →
    ((¬ ChangeAllowed i s ∨ (s.stations[i].settings.role = .chest ∧ s.invoices.queues[i] ≠ [])) →
      exec (.stationConfig tag (configOf i p)) s = .next (s.reply tag 0x01 (.refused .state))) ∧
    (ChangeAllowed i s → (s.stations[i].settings.role = .chest → s.invoices.queues[i] = []) →
      (p.role = .feed ∧ (∃ j, j ≠ i ∧ s.stations[j].settings.role = .feed) →
        exec (.stationConfig tag (configOf i p)) s = .next (s.reply tag 0x01 (.refused .conflict))) ∧
      ((p.role = .feed → ∀ j, j ≠ i → s.stations[j].settings.role ≠ .feed) →
        ∃ t : State, exec (.stationConfig tag (configOf i p)) s = .next (t.reply tag 0x01 (.ok .done)) ∧
          t.stations[i].settings = { p with zeroCount := s.stations[i].settings.zeroCount
                                            span := s.stations[i].settings.span } ∧
          t.stations[i].zt = (if measuringDiffers s.stations[i].settings p = true ∧
              p.zeroLimit < s.stations[i].zt.natAbs then clampAbs p.zeroLimit s.stations[i].zt
            else s.stations[i].zt) ∧
          t.stations[i].outstanding = s.stations[i].outstanding ∧
          t.stations[i].filter = [] ∧ t.stations[i].settle = [] ∧ t.stations[i].settled = false ∧
          t.stations[i].outOfRange = false ∧ t.stations[i].state = reentry p.role ∧
          (p.role = .off → t.stations[i].signalTimer = none ∧ t.stations[i].decision = s.stations[i].decision) ∧
          (p.role ≠ .off → t.stations[i].signalTimer = some 0 ∧ t.stations[i].decision = .blank ∧
            t.stations[i].disturbed = false) ∧
          (s.stations[i].settings.role = .feed → .leaveReport ∈ t.transit) ∧
          (∀ j : Fin 4, j ≠ i → t.stations[j] = s.stations[j]) ∧
          t = { s with stations := t.stations, transit := t.transit, link := t.link } ∧
          (p.role ≠ .off → t.link = s.link) ∧
          ((∀ (k : Fin 4) (part wait : Option Nat), s.link.slots[k] ≠ .waiting (.capture i) part wait) → t.link = s.link) ∧
          ∀ (k : Fin 4) (part wait : Option Nat), SlotKeysDistinct s → p.role = .off →
            s.link.slots[k] = .waiting (.capture i) part wait →
            t.link = { s.link with slots := s.link.slots.set k (.ready (.capture i) part .gone none 0) } ∧
              .noticeOffer (.slotReady k (.capture i) .gone) ∈ t.transit))

/-- STATION-CAL: RANGE for a station, zero count or span outside its range, STATE where R4 refuses a role change, else Z0
and S are set, Zt is 0, the histories are empty, and unless OFF or NOSIGNAL the station is restarted; no other station and
no other block changes (R4, R6, R9). The last in-range weight (R13), which the model keeps in a field of its own, is 0 after
the restart (log 12). -/
def Obligations.CalibrationSetsZeroAndSpan : Prop :=
  ∀ (tag : Byte) (s : State) (i : Fin 4) (z : Int) (sp : Nat), s.powered = true →
    (∀ n, 3 < n → exec (.stationCal tag n z sp) s = .next (s.reply tag 0x02 (.refused .range))) ∧
    (¬ (-8388608 ≤ z ∧ z ≤ 8388607 ∧ 1 ≤ sp ∧ sp ≤ 65535) →
      exec (.stationCal tag i z sp) s = .next (s.reply tag 0x02 (.refused .range))) ∧
    (-8388608 ≤ z ∧ z ≤ 8388607 ∧ 1 ≤ sp ∧ sp ≤ 65535 → ¬ ChangeAllowed i s →
      exec (.stationCal tag i z sp) s = .next (s.reply tag 0x02 (.refused .state))) ∧
    (-8388608 ≤ z ∧ z ≤ 8388607 ∧ 1 ≤ sp ∧ sp ≤ 65535 → ChangeAllowed i s →
      exec (.stationCal tag i z sp) s = .next (State.reply
        (s.setStation i
          (if s.stations[i].state = .off ∨ s.stations[i].state = .noSignal then
            { s.stations[i] with
              settings := { s.stations[i].settings with zeroCount := z, span := sp }, zt := 0, filter := [], settle := [] }
          else
            { s.stations[i] with
              settings := { s.stations[i].settings with zeroCount := z, span := sp }, zt := 0, filter := [], settle := []
              settled := false, outOfRange := false, overloadReturn := false, decision := .blank, disturbed := false
              lastInRange := 0, state := reentry s.stations[i].settings.role }))
        tag 0x02 (.ok .done)))

/-- STATION-RESTART: refused with STATE in OFF; in any other state the station is restarted, keeping Zt and the
append-outstanding mark, its signal timer restarts, STATION-RESTARTED is offered, and a waiting capture slot is left (R9).
STATION-ZERO: refused with STATE unless EMPTY and settled, with RANGE when Zt plus g passes the limit; else Zt takes in g, q
becomes 0 and every settle entry 0, and the reply carries the new Zt (R16). STATION-READ reports the station in every state
and changes none of it; in OVERLOAD its q is the last in-range q (R13, R28), which the model keeps in a field of its own, 0
after a restart (log 12). -/
def Obligations.StationsAreRestartedZeroedAndRead : Prop :=
  (∀ (tag : Byte) (s : State) (i : Fin 4), s.powered = true →
     exec (.stationRestart tag i) s =
       if s.stations[i].state = .off then .next (s.reply tag 0x03 (.refused .state))
       else .next (State.reply
         ((s.setStation i { s.stations[i] with
             filter := [], settle := [], settled := false, outOfRange := false, overloadReturn := false, decision := .blank
             disturbed := false, lastInRange := 0, state := reentry s.stations[i].settings.role
             signalTimer := some 0 }).notify (.stationRestarted i s.stations[i].settings.role))
         tag 0x03 (.ok .done))) ∧
  (∀ (tag : Byte) (s : State) (i : Fin 4), s.powered = true →
     exec (.stationZero tag i) s =
       if ¬ (s.stations[i].state = .empty ∧ s.stations[i].settled = true) then
         .next (s.reply tag 0x04 (.refused .state))
       else if s.stations[i].settings.zeroLimit < (s.stations[i].zt + s.stations[i].grams).natAbs then
         .next (s.reply tag 0x04 (.refused .range))
       else .next (State.reply
         (s.setStation i { s.stations[i] with
           zt := s.stations[i].zt + s.stations[i].grams, q := 0, lastInRange := 0
           settle := s.stations[i].settle.map fun _ => 0 })
         tag 0x04 (.ok (.zeroed (s.stations[i].zt + s.stations[i].grams))))) ∧
  (∀ (tag : Byte) (s : State) (i : Fin 4), s.powered = true →
     exec (.stationRead tag i) s = .next (s.reply tag 0x06 (.ok (.station
       { role := s.stations[i].settings.role, state := s.stations[i].state, settled := s.stations[i].settled
         outOfRange := s.stations[i].outOfRange
         q := if s.stations[i].state = .overload then s.stations[i].lastInRange else s.stations[i].q
         zt := s.stations[i].zt, filterCount := s.stations[i].filter.length, settleCount := s.stations[i].settle.length
         decision := s.stations[i].decision, outstanding := s.stations[i].outstanding.isSome
         queue := s.invoices.queues[i] }))))

/-- WEIGH-CAPTURE: a slot of the station answers first, PENDING while it waits and collected, becoming FREE, when READY;
with no such slot the station refuses with STATE in OFF and NOSIGNAL, answers at once when settled, and else takes the
lowest FREE slot, or is refused BUSY when none is (R27, R184, R185). An answer or outcome that arrives for a key makes the
slot that waits for it READY with its discard timer at zero and offers SLOT-READY; with none waiting it changes nothing
(R186). -/
def Obligations.CaptureIsAnsweredOrKeepsASlot : Prop :=
  (∀ (s : State) (key : SlotKey) (o : SlotOutcome) (a : Option SlotAnswer),
    ((∀ (k : Fin 4) (part wait : Option Nat), s.link.slots[k] ≠ .waiting key part wait) → s.slotArrival key o a = s) ∧
    ∀ (k : Fin 4) (part wait : Option Nat), SlotKeysDistinct s → s.link.slots[k] = .waiting key part wait →
      s.slotArrival key o a = (s.setSlot k (.ready key part o a 0)).notify (.slotReady k key o)) ∧
  ∀ (tag : Byte) (s : State) (i : Fin 4), s.powered = true →
    (∀ k part wait, s.link.slots[k] = .waiting (.capture i) part wait → SlotKeysDistinct s →
      exec (.weighCapture tag i) s = .next (s.reply tag 0x05 (.pending k))) ∧
    (∀ k part o a disc, s.link.slots[k] = .ready (.capture i) part o a disc → SlotKeysDistinct s →
      exec (.weighCapture tag i) s =
        .next ((s.setSlot k .free).reply tag 0x05 (.ok (.delivered (some k) (.capture i) o a)))) ∧
    ((∀ k : Fin 4, s.link.slots[k].key ≠ some (.capture i)) →
      (s.stations[i].state = .off ∨ s.stations[i].state = .noSignal →
        exec (.weighCapture tag i) s = .next (s.reply tag 0x05 (.refused .state))) ∧
      (s.stations[i].state ≠ .off → s.stations[i].state ≠ .noSignal → s.stations[i].settled = true →
        exec (.weighCapture tag i) s = .next (s.reply tag 0x05 (.ok (.delivered none (.capture i) .answer
          (some (.capture i s.stations[i].state s.stations[i].q s.stations[i].zt)))))) ∧
      (s.stations[i].state ≠ .off → s.stations[i].state ≠ .noSignal → s.stations[i].settled = false →
        (∀ k : Fin 4, s.link.slots[k] = .free → (∀ j : Fin 4, j < k → s.link.slots[j] ≠ .free) →
          exec (.weighCapture tag i) s =
            .next ((s.setSlot k (.waiting (.capture i) none (some 0))).reply tag 0x05 (.pending k))) ∧
        ((∀ k : Fin 4, s.link.slots[k] ≠ .free) →
          exec (.weighCapture tag i) s = .next (s.reply tag 0x05 (.refused .busy)))))

/-- A sample word that fails its parity check, and a valid one at a station in OFF, or in NOSIGNAL with auto-restart off,
changes nothing; any other valid word restarts the signal timer at zero and joins the filter history, emptied before it by
the restart of a station in NOSIGNAL, its oldest entry leaving a full history; no other station and no block but the
station unit, the arrivals it sends and the slots change (R7, R9, R10). A word passes its check when each byte with its
parity bit holds an odd number of ones (R7). The filtered count is the sum of the filter history over its number, rounded,
the grams its distance from Z0 times S over 65,536, rounded, less Zt, each half rounded away from zero, and the q a sample
gives is the quantized gross of the grams of the history it has joined (R10, R11, R12). -/
def Obligations.SampleWordJoinsTheFilter : Prop :=
  (∀ w : SampleWord,
    let ones (byte : Nat) (parity : Bool) : Nat :=
      ((List.range 8).filter fun k => w.count.getLsbD (8 * byte + k)).length + (if parity = true then 1 else 0)
    sampleValid w = true ↔ ones 0 w.parityLow % 2 = 1 ∧ ones 1 w.parityMid % 2 = 1 ∧ ones 2 w.parityHigh % 2 = 1) ∧
  (∀ (n : Nat) (l : List Int) (x : Int),
    (l.length < n → pushNewest n l x = l ++ [x]) ∧
    (1 ≤ n → l.length = n → pushNewest n l x = l.drop 1 ++ [x])) ∧
  (∀ (st : Station) (x : Int), st.sample x = { st with
    signalTimer := some 0, filter := pushNewest st.settings.w st.filter x, q := (st.sample x).q } ∧
    (st.sample x).q = quantize st.settings.d (st.sample x).grams) ∧
  (∀ st : Station, st.filter ≠ [] →
    let nearest (n : Int) (m : Nat) (z : Int) : Prop :=
      2 * (n - m * z).natAbs ≤ m ∧ (2 * (n - m * z).natAbs = m → n.natAbs < ((m : Int) * z).natAbs)
    ∃ a r : Int, nearest st.filter.sum st.filter.length a ∧
      nearest ((a - st.settings.zeroCount) * st.settings.span) 65536 r ∧ st.grams = r - st.zt) ∧
  ∀ (s : State) (i : Fin 4) (w : SampleWord), s.powered = true →
    (sampleValid w = false ∨ s.stations[i].state = .off ∨
        (s.stations[i].state = .noSignal ∧ s.stations[i].settings.autoRestart = false) →
      exec (.sampleWord i w) s = .next s) ∧
    (sampleValid w = true → s.stations[i].state ≠ .off →
      (s.stations[i].state = .noSignal → s.stations[i].settings.autoRestart = true) →
      ∃ t : State, exec (.sampleWord i w) s = .next t ∧
        t.stations[i].filter = pushNewest s.stations[i].settings.w
          (if s.stations[i].state = .noSignal then [] else s.stations[i].filter) w.count.toInt ∧
        t.stations[i].signalTimer = some 0 ∧ t.stations[i].settings = s.stations[i].settings ∧
        (∀ j : Fin 4, j ≠ i → t.stations[j] = s.stations[j]) ∧
        t = { s with stations := t.stations, transit := t.transit, link := { s.link with slots := t.link.slots } })

/-- A valid sample at a FEED station in ACTIVE whose new q is in range is judged for settle and delivered to the bulking
controller as a reading; one that enters settled answers a waiting capture (R13, R14, R26, R27). It is settled when the
settle history holds M values no two of which lie more than B·d apart (R14). -/
def Obligations.FeedSampleDeliversAReading : Prop :=
  (∀ (history : List Int) (n : Int), history ≠ [] →
    (spread history ≤ n ↔ ∀ x ∈ history, ∀ y ∈ history, x - y ≤ n)) ∧
  ∀ (s : State) (i : Fin 4) (w : SampleWord), s.powered = true → sampleValid w = true →
    s.stations[i].settings.role = .feed → s.stations[i].state = .active →
    let st := s.stations[i].sample w.count.toInt
    st.settings.outOfRange st.q = false →
    let history := pushNewest st.settings.m st.settle st.q
    let settled := decide (history.length = st.settings.m ∧ spread history ≤ ((st.settings.b * st.settings.d : Nat) : Int))
    let after := (s.setStation i { st with lastInRange := st.q, settle := history, settled := settled }).send
      (.reading i st.q settled st.settings.d)
    exec (.sampleWord i w) s =
      .next (if settled = true ∧ s.stations[i].settled = false then
        after.slotArrival (.capture i) .answer (some (.capture i .active st.q st.zt)) else after)

/-- An in-range sample of a CHEST or TARE station in its load cycle, with all it does. The settled flag is judged first
(R14). STARTING ends on a settled value: below L in EMPTY with zero tracking, else in DECIDED with no decision (R17). EMPTY
and LOADED below L are EMPTY; EMPTY at or above L is a new cycle with the disturbance latch clear; a settled value at or
above L with no append outstanding is decided, a TARE station sending a tare sample for its target (R18, R25). DECIDED stays
until q falls below L; meanwhile each entry into settled is decided again after LIGHT and HEAVY, and after ACCEPTED the
first settled value more than B·d from the accepted gross sends DISTURBED and sets the latch; TARE does neither (R22, R23,
R25). Zero tracking, on entering settled in EMPTY within two divisions of zero, takes g into Zt with q and the settle
history becoming 0, or beyond the limit clamps Zt, offers ZERO-LIMIT with the value intended and computes q anew (R15). A
value that enters settled answers a waiting capture with the station as it then stands (R27). The model's choices: a q that
takes a station from LOADED or DECIDED to EMPTY does not track zero, even where it enters settled (log 11), a station that
goes from STARTING to DECIDED has its record at NONE, even after an answer that came in STARTING (log 10), and the last
in-range weight is kept in a field of its own (log 12). -/
def Obligations.LoadCycleFollowsItsTable : Prop :=
  ∀ (s : State) (i : Fin 4) (w : SampleWord), s.powered = true → sampleValid w = true →
    (s.stations[i].settings.role = .chest ∨ s.stations[i].settings.role = .tare) →
    let st := s.stations[i].sample w.count.toInt
    st.settings.outOfRange st.q = false →
    let history := pushNewest st.settings.m st.settle st.q
    let settled := decide (history.length = st.settings.m ∧ spread history ≤ ((st.settings.b * st.settings.d : Nat) : Int))
    let enters : Prop := settled = true ∧ s.stations[i].settled = false
    let judged : Station := { st with lastInRange := st.q, settle := history, settled := settled }
    let put (x : Station) : State := s.setStation i x
    let results (u : State) : Prop := exec (.sampleWord i w) s = .next
      (if enters then u.slotArrival (.capture i) .answer
        (some (.capture i u.stations[i].state u.stations[i].q u.stations[i].zt)) else u)
    let limit : Int := ((st.settings.c * 4 / 100 : Nat) : Int)
    let intended : Int := st.zt + st.grams
    let clamped : Int := if 0 < intended then limit else -limit
    let left : Int := quantize st.settings.d ({ judged with zt := clamped } : Station).grams
    let tracked : State :=
      if 2 * st.settings.d < st.q.natAbs then put { judged with state := .empty }
      else if intended.natAbs ≤ limit then
        put { judged with state := .empty, zt := intended, q := 0, lastInRange := 0, settle := history.map fun _ => 0 }
      else (put { judged with
        state := .empty, zt := clamped, q := left, lastInRange := left, settle := history.map fun _ => left }).notify
          (.zeroLimit i intended)
    let decided (u : State) : State :=
      if st.settings.role = .chest then decideChest i st.q u
      else { u with
        stations := u.stations.set i { u.stations[i] with
          state := .decided, decision := ⟨.appending, none, some st.q, none, none, none⟩
          outstanding := some (.sample st.settings.tareTarget st.q) }
        transit := u.transit ++ [.tareSample i st.settings.tareTarget st.q] }
    let decidedIfSettled (x : Station) : State :=
      if settled = true ∧ x.outstanding = none then decided (put x) else put x
    (s.stations[i].state = .starting →
      (settled = false → results (put judged)) ∧
      (settled = true → st.q < st.settings.l → results tracked) ∧
      (settled = true → st.settings.l ≤ st.q →
        results (put { judged with state := .decided, decision := ⟨.none, none, none, none, none, none⟩ }))) ∧
    (s.stations[i].state = .empty →
      (st.q < st.settings.l → enters → results tracked) ∧
      (st.q < st.settings.l → ¬ enters → results (put judged)) ∧
      (st.settings.l ≤ st.q → results (decidedIfSettled { judged with state := .loaded, disturbed := false }))) ∧
    (s.stations[i].state = .loaded →
      (st.q < st.settings.l → results (put { judged with state := .empty })) ∧
      (st.settings.l ≤ st.q → results (decidedIfSettled judged))) ∧
    (s.stations[i].state = .decided →
      (st.q < st.settings.l → results (put { judged with state := .empty })) ∧
      (st.settings.l ≤ st.q →
        (st.settings.role = .chest → (st.decision.outcome = .light ∨ st.decision.outcome = .heavy) →
          results (if enters then decideChest i st.q (put judged) else put judged)) ∧
        (st.settings.role = .chest → ∀ n chest serial gross net,
          st.decision = ⟨.accepted, some n, some gross, net, some chest, some serial⟩ →
          results
            (if st.disturbed = false ∧ settled = true ∧ st.settings.b * st.settings.d < (st.q - gross).natAbs then
              (put { judged with disturbed := true }).notify (.disturbed i n chest serial gross st.q)
            else put judged)) ∧
        (st.settings.role = .tare ∨ (st.decision.outcome ≠ .light ∧ st.decision.outcome ≠ .heavy ∧
            st.decision.outcome ≠ .accepted) → results (put judged))))

/-- A q outside the measuring range puts a station into OVERLOAD: the settle history is emptied, both flags are set as R13
says, the return mark tells whether it came from STARTING, event 18 is raised and STATION-OVERLOAD offered, and a FEED
station is reported as having left ACTIVE (R13, R19, R26). In OVERLOAD another such q only joins the filter history; the
first in-range one ends it: the flag and the mark are cleared, q is the one entry of the settle history, and the station
enters ACTIVE with a reading that is not settled, or STARTING where the mark was set, else EMPTY below L and LOADED as a new
cycle (R13, R19, R26). A valid sample in NOSIGNAL with auto-restart on restarts the station, offers STATION-RESTARTED and is
then weighed (R9). The signal timer's expiry does nothing in OFF and NOSIGNAL; in any other state the station enters
NOSIGNAL, its flags, mark and latch cleared and its timer stopped, a FEED station is reported, a waiting capture ends GONE,
and SIGNAL-LOST is offered (R8, R27). That an expiry commanded while the timer does not run has no effect is log 7, and that
one commanded before its limit has its effect is log 8; the last in-range weight in a field of its own is log 12. -/
def Obligations.StationsLeaveTheirCycle : Prop :=
  (∀ (s : State) (i : Fin 4) (w : SampleWord), s.powered = true → sampleValid w = true →
     s.stations[i].state ≠ .off → s.stations[i].state ≠ .noSignal → s.stations[i].state ≠ .overload →
     let st := s.stations[i].sample w.count.toInt
     ((st.settings.c : Int) + 9 * st.settings.d < st.q ∨ st.q < -(20 * (st.settings.d : Int))) →
     exec (.sampleWord i w) s = .next { s with
       stations := s.stations.set i { st with
         outOfRange := true, settled := false, settle := [], disturbed := false
         overloadReturn := s.stations[i].state == .starting, state := .overload }
       transit := s.transit ++ [.event 18 ⟨some i, none, none⟩, .noticeOffer (.stationOverload i st.q)] ++
         (if s.stations[i].settings.role = .feed then [.leaveReport] else []) }) ∧
  (∀ (s : State) (i : Fin 4) (w : SampleWord), s.powered = true → sampleValid w = true → s.stations[i].state = .overload →
     let st := s.stations[i].sample w.count.toInt
     (((st.settings.c : Int) + 9 * st.settings.d < st.q ∨ st.q < -(20 * (st.settings.d : Int))) →
       exec (.sampleWord i w) s = .next { s with stations := s.stations.set i st }) ∧
     (st.q ≤ (st.settings.c : Int) + 9 * st.settings.d → -(20 * (st.settings.d : Int)) ≤ st.q →
       exec (.sampleWord i w) s = .next { s with
         stations := s.stations.set i { st with
           lastInRange := st.q, outOfRange := false, settle := [st.q], settled := false, overloadReturn := false
           disturbed := false
           state :=
             if st.settings.role = .feed then .active
             else if s.stations[i].overloadReturn = true then .starting
             else if st.q < st.settings.l then .empty
             else .loaded }
         transit := s.transit ++
           (if st.settings.role = .feed then [.reading i st.q false st.settings.d] else []) })) ∧
  (∀ (s : State) (i : Fin 4) (w : SampleWord), s.powered = true → sampleValid w = true →
     s.stations[i].state = .noSignal → s.stations[i].settings.role ≠ .off →
     s.stations[i].settings.autoRestart = true →
     exec (.sampleWord i w) s = exec (.sampleWord i w)
       ((s.setStation i { s.stations[i] with
         filter := [], settle := [], settled := false, outOfRange := false, overloadReturn := false
         decision := ⟨.none, none, none, none, none, none⟩, disturbed := false, lastInRange := 0
         state := if s.stations[i].settings.role = .feed then .active else .starting, signalTimer := some 0 }).notify
           (.stationRestarted i s.stations[i].settings.role))) ∧
  (∀ (s : State) (i : Fin 4), s.powered = true →
     exec (.signalTimerExpiry i) s =
       if s.stations[i].state = .off ∨ s.stations[i].state = .noSignal then .next s
       else .next (State.notify
         (State.slotArrival
           { s with
             stations := s.stations.set i { s.stations[i] with
               settled := false, outOfRange := false, overloadReturn := false, disturbed := false, state := .noSignal
               signalTimer := none }
             transit := s.transit ++ (if s.stations[i].settings.role = .feed then [.leaveReport] else []) }
           (.capture i) .gone none)
         (.signalLost i)))

/-- A chest decision compares the actual net q - T with the declared net under the stricter of the two classes: below
N - u·d LIGHT with its event, above N + o·d HEAVY with its event, the bounds themselves within allowance, which sends an
append and marks it outstanding; with no invoice in the queue the outcome is NOINVOICE (R20, R21, R24). -/
def Obligations.ChestDecisionComparesTheNet : Prop :=
  ∀ (s : State) (i : Fin 4) (q : Int),
    let st := s.stations[i]
    (s.invoices.queues[i] = [] →
      decideChest i q s = (s.setStation i { st with
        state := .decided, decision := ⟨.noInvoice, none, some q, none, none, none⟩ }).notify
          (.chestDecided i none .noInvoice q none none none)) ∧
    ∀ (n : Nat) (rest : List Nat) (v : Invoice), s.invoices.queues[i] = n :: rest → s.invoices.find n = some v →
      let net : Int := q - v.record.tare
      let allowed := if st.settings.cls.val < v.record.cls.val then s.packs.classes[v.record.cls]
        else s.packs.classes[st.settings.cls]
      let low : Int := v.record.declaredNet - ((allowed.under * st.settings.d : Nat) : Int)
      let high : Int := v.record.declaredNet + ((allowed.overBy * st.settings.d : Nat) : Int)
      (net < low → decideChest i q s =
        { s with
          stations := s.stations.set i { st with
            state := .decided, decision := ⟨.light, some n, some q, some net, none, none⟩ }
          transit := s.transit ++ [.event ⟨4 + i.val, by omega⟩ ⟨some i, some n, none⟩,
            .noticeOffer (.chestDecided i (some n) .light q (some net) none none)] }) ∧
      (high < net → low ≤ net → decideChest i q s =
        { s with
          stations := s.stations.set i { st with
            state := .decided, decision := ⟨.heavy, some n, some q, some net, none, none⟩ }
          transit := s.transit ++ [.event ⟨8 + i.val, by omega⟩ ⟨some i, some n, none⟩,
            .noticeOffer (.chestDecided i (some n) .heavy q (some net) none none)] }) ∧
      (low ≤ net → net ≤ high → decideChest i q s =
        { s with
          stations := s.stations.set i { st with
            state := .decided, decision := ⟨.appending, some n, some q, some net, none, none⟩
            outstanding := some (.append n q net) }
          transit := s.transit ++ [.append i n q net] })

/-- An append's answer clears the mark, writes the outcome with the invoice, gross and net kept with the mark and the chest
and serial of ACCEPTED, and is reported by CHEST-DECIDED, whatever the station's state; a tare sample's answer likewise by
TARE-DECIDED (R21, R24, R25). -/
def Obligations.AnswersAreRecorded : Prop :=
  ∀ (s : State) (i : Fin 4), s.powered = true →
    (∀ n gross net, s.stations[i].outstanding = some (.append n gross net) →
      (∀ chest serial, exec (.appendAnswer i (.accepted chest serial)) s =
        .next (((s.taken (.appendAnswer i (.accepted chest serial))).setStation i { s.stations[i] with
          outstanding := none
          decision := ⟨.accepted, some n, some gross, some net, some chest, some serial⟩ }).notify
            (.chestDecided i (some n) .accepted gross (some net) (some chest) (some serial)))) ∧
      exec (.appendAnswer i .surplus) s =
        .next (((s.taken (.appendAnswer i .surplus)).setStation i { s.stations[i] with
          outstanding := none, decision := ⟨.surplus, some n, some gross, some net, none, none⟩ }).notify
            (.chestDecided i (some n) .surplus gross (some net) none none))) ∧
    ∀ type gross took t, s.stations[i].outstanding = some (.sample type gross) →
      exec (.tareAnswer i t took) s =
        .next (((s.taken (.tareAnswer i t took)).setStation i { s.stations[i] with
          outstanding := none
          decision := ⟨if took then .tareTaken else .tareReject, none, some gross, none, none, none⟩ }).notify
            (.tareDecided i t (if took then .tareTaken else .tareReject) gross))

/-! ### Package types and tolerance classes -/

/-- A tare sample within nominal ± band and of 1 g or more joins the list of its type as the newest of at most ten, the
oldest leaving, and is answered TARE-TAKEN; any other leaves the table as it was and is answered TARE-REJECT (R31, R32). The
tare value is the nominal tare with an empty list and else ten times the rounded quotient of the sum by ten times the count,
with the figures R33 gives (R33). -/
def Obligations.TareSamplesAndTareValue : Prop :=
  (∀ (s : State) (i : Fin 4) (t : Fin 8) (g : Int), s.powered = true →
     let p := s.packs.types[t]
     let u := s.taken (.tareSample i t g)
     ((p.nominal : Int) - p.band ≤ g ∧ g ≤ (p.nominal : Int) + p.band ∧ 1 ≤ g →
       ∃ tares : List Nat, exec (.tareSample i t g) s =
           .next ((u.setPackType t { p with tares := tares }).send (.tareAnswer i t true)) ∧
         (p.tares.length < 10 → tares = p.tares ++ [g.toNat]) ∧
         (p.tares.length = 10 → tares = p.tares.drop 1 ++ [g.toNat])) ∧
     (¬ ((p.nominal : Int) - p.band ≤ g ∧ g ≤ (p.nominal : Int) + p.band ∧ 1 ≤ g) →
       exec (.tareSample i t g) s = .next (u.send (.tareAnswer i t false)))) ∧
  ((∀ p : PackType, p.tares = [] → p.tare = p.nominal) ∧
     (∀ p : PackType, p.tares ≠ [] → ∃ k : Nat, p.tare = 10 * k ∧
       2 * ((p.tares.sum : Int) - 10 * p.tares.length * k).natAbs ≤ 10 * p.tares.length ∧
       (2 * ((p.tares.sum : Int) - 10 * p.tares.length * k).natAbs = 10 * p.tares.length →
         p.tares.sum < 10 * p.tares.length * k)) ∧
     (∀ (d : Text) (n b : Nat), (⟨d, n, b, [1200, 1209]⟩ : PackType).tare = 1200 ∧
       (⟨d, n, b, [1200, 1210]⟩ : PackType).tare = 1210))

/-- PACKTYPE-SET sets the type and empties its list when every field lies in range and is refused with RANGE otherwise;
TARE-LIST-READ reports the type with its list and tare value; CLASS-SET replaces the whole table when it lies in range and
is ordered and is refused with RANGE otherwise, PACKTYPE-SET also for a type outside 0..7; none touches any other part of
the state. RANGE for a description that has not eight characters, which no frame can carry, is the model's choice (log 33).
CLASS-READ is answered at once with OK, carrying the four classes in class order, and changes no state (R36, R38, R40, R41).
-/
def Obligations.TypesAndClassesAreSetWhole : Prop :=
  ∀ (tag : Byte) (s : State), s.powered = true →
    (∀ (t : Fin 8) (d : Text) (nom band : Int),
      exec (.packtypeSet tag t d nom band) s =
        if 100 ≤ nom ∧ nom ≤ 20000 ∧ 10 ≤ band ∧ band ≤ 2000 ∧ validText 8 d = true then
          .next ((s.setPackType t ⟨d, nom.toNat, band.toNat, []⟩).reply tag 0x07 (.ok (.packType t nom.toNat)))
        else .next (s.reply tag 0x07 (.refused .range))) ∧
    (∀ (n : Nat) (d : Text) (nom band : Int), 7 < n →
      exec (.packtypeSet tag n d nom band) s = .next (s.reply tag 0x07 (.refused .range))) ∧
    (∀ t : Fin 8, exec (.tareListRead tag t) s =
      .next (s.reply tag 0x09 (.ok (.tareList t s.packs.types[t] s.packs.types[t].tare)))) ∧
    exec (.classRead tag) s = .next (s.reply tag 0x0B (.ok (.classes s.packs.classes))) ∧
    ∀ ps : Vector (Nat × Nat) 4,
      exec (.classSet tag ps) s =
        if (∀ i : Fin 4, ps[i].1 ≤ 4 ∧ ps[i].2 ≤ 15) ∧
            (∀ i j : Fin 4, i ≤ j → ps[j].1 ≤ ps[i].1 ∧ ps[j].2 ≤ ps[i].2) then
          .next (State.reply { s with packs := { s.packs with classes := ps.map fun p => ⟨p.1, p.2⟩ } } tag 0x0A
            (.ok (.classes (ps.map fun p => ⟨p.1, p.2⟩))))
        else .next (s.reply tag 0x0A (.refused .range))

/-- TARE-LIST-CLEAR is refused with RANGE outside 0..7; otherwise the list is emptied, whether or not it held a sample, the
description, nominal tare and band are kept, and the reply carries the type and the tare value, now the nominal tare (R37).
-/
def Obligations.TareListClearEmptiesTheList : Prop :=
  ∀ (tag : Byte) (s : State), s.powered = true →
    (∀ n, 7 < n → exec (.tareListClear tag n) s = .next (s.reply tag 0x08 (.refused .range))) ∧
    ∀ t : Fin 8, exec (.tareListClear tag t) s =
      .next ((s.setPackType t { s.packs.types[t] with tares := [] }).reply tag 0x08
        (.ok (.packType t s.packs.types[t].nominal)))

/-! ### Bulking -/

/-- BULK-DEFINE: refused with RANGE where a field lies outside its range or the fractions do not sum to 1,000, with FULL
with four records; otherwise a DEFINED record takes the next run number, each component its share of the total rounded, and
the next run number becomes the first after it, from 65,535 on to 1, that no record of the table holds (R44, R45). RANGE for
a batch label that has not ten characters, which no frame can carry, is the model's choice (log 33). -/
def Obligations.BulkDefineMakesARecord : Prop :=
  ∀ (tag : Byte) (s : State) (total : Nat) (cs : List ComponentFields), s.powered = true →
    let valid := 10000 ≤ total ∧ total ≤ 2000000 ∧ 1 ≤ cs.length ∧ cs.length ≤ 8 ∧
      (∀ c ∈ cs, 1 ≤ c.fraction ∧ c.fraction ≤ 1000 ∧ validText 10 c.label = true) ∧ (cs.map (·.fraction)).sum = 1000
    (¬ valid → exec (.bulkDefine tag total cs.length cs) s = .next (s.reply tag 0x0C (.refused .range))) ∧
    (∀ n, n ≠ cs.length → exec (.bulkDefine tag total n cs) s = .next (s.reply tag 0x0C (.refused .range))) ∧
    (valid → 4 ≤ s.bulking.records.length →
      exec (.bulkDefine tag total cs.length cs) s = .next (s.reply tag 0x0C (.refused .full))) ∧
    (valid → s.bulking.records.length < 4 → ∃ next : Nat,
      exec (.bulkDefine tag total cs.length cs) s = .next (State.reply
        { s with bulking := { s.bulking with
          records := s.bulking.records ++ [
            { run := s.bulking.nextRun, state := .defined, definedTotal := total, total := total
              components := cs.map fun c => ⟨c.label, c.fraction, (2 * (total * c.fraction) + 1000) / 2000, 0, .pending⟩
              active := none, carried := 0, start := none, fed := 0, uncommitted := 0, bound := 0, date := none
              offProportion := false, short := false }]
          nextRun := next } }
        tag 0x0C (.ok (.bulkDefined s.bulking.nextRun
          (cs.map fun c => (2 * (total * c.fraction) + 1000) / 2000)))) ∧
      let run := s.bulking.nextRun
      let held := run :: s.bulking.records.map fun r => r.run
      (1 ≤ run → run ≤ 65535 →
        ∃ k, next = (run + k) % 65535 + 1 ∧ next ∉ held ∧ ∀ j, j < k → (run + j) % 65535 + 1 ∈ held))

/-- BULK-START, BULK-NEXT and BULK-RESUME are refused with NOTFOUND when no record holds the number. BULK-START: STATE
unless the record is DEFINED, no run is active and a FEED station is ACTIVE; otherwise component 0 is armed with carried
gain 0 and no start weight, and the run enters ARMED; the gate stays (R49). BULK-NEXT: STATE outside BETWEEN; with a PENDING
component left the lowest-numbered one is armed with carried gain 0, else the run completes with its fed total, uncommitted
weight and the clock's date, and BULK-COMPLETE and event 15 follow (R53, R54). BULK-RESUME: STATE in neither HELD nor
STALLED; otherwise the run enters ARMED with the same active component and carried gain, whatever the FEED station's state
(R58). That the carried gain of a COMPLETE record is left standing is the model's choice (log 36). -/
def Obligations.RunsAreArmed : Prop :=
  (∀ s : State,
     (∀ i : Fin 4, s.stations[i].settings.role = .feed → (∀ j : Fin 4, j ≠ i → s.stations[j].settings.role ≠ .feed) →
       (feedIsActive s = true ↔ s.stations[i].state = .active)) ∧
     ((∀ i : Fin 4, s.stations[i].settings.role ≠ .feed) → feedIsActive s = false)) ∧
  (∀ (tag : Byte) (s : State) (n : Nat), s.powered = true → 1 ≤ n → n ≤ 65535 →
     (s.bulking.find n = none → exec (.bulkStart tag n) s = .next (s.reply tag 0x0D (.refused .notFound))) ∧
     ∀ r, s.bulking.find n = some r →
       let startable := r.state = .defined ∧ (∀ k ∈ s.bulking.records, k.state.isActive = false) ∧
         feedIsActive s = true
       (¬ startable → exec (.bulkStart tag n) s = .next (s.reply tag 0x0D (.refused .state))) ∧
       (startable → exec (.bulkStart tag n) s = .next ((s.updateRun n fun k => { k with
         components := k.components.modify 0 fun c => { c with state := .armed }
         state := .armed, active := some 0, carried := 0, start := none }).reply tag 0x0D (.ok .done)))) ∧
  (∀ (tag : Byte) (s : State) (n : Nat), s.powered = true → 1 ≤ n → n ≤ 65535 →
     (s.bulking.find n = none → exec (.bulkNext tag n) s = .next (s.reply tag 0x0E (.refused .notFound))) ∧
     ∀ r, s.bulking.find n = some r →
       (r.state ≠ .between → exec (.bulkNext tag n) s = .next (s.reply tag 0x0E (.refused .state))) ∧
       (r.state = .between → ∀ (i : Nat) (c : Component), r.components[i]? = some c → c.state = .pending →
         (∀ j d, j < i → r.components[j]? = some d → d.state ≠ .pending) →
         exec (.bulkNext tag n) s = .next ((s.updateRun n fun k => { k with
           components := k.components.modify i fun d => { d with state := .armed }
           state := .armed, active := some i, carried := 0, start := none }).reply tag 0x0E
             (.ok (.bulkNext .armed (some (i, c.target)))))) ∧
       (r.state = .between → (∀ c ∈ r.components, c.state ≠ .pending) →
         let fed := (r.components.map (·.fed)).sum
         let date := s.clock.reading.map (·.date)
         exec (.bulkNext tag n) s = .next (State.reply
           (((s.updateRun n fun _ => { r with
             fed := fed, uncommitted := fed, active := none, start := none, date := date, state := .complete }).notify
               (.bulkComplete n fed date r.offProportion r.short)).raise 15 ⟨none, none, none⟩)
           tag 0x0E (.ok (.bulkNext .complete none))))) ∧
  (∀ (tag : Byte) (s : State) (n : Nat), s.powered = true → 1 ≤ n → n ≤ 65535 →
     (s.bulking.find n = none → exec (.bulkResume tag n) s = .next (s.reply tag 0x10 (.refused .notFound))) ∧
     ∀ r, s.bulking.find n = some r →
       (r.state ≠ .held → r.state ≠ .stalled →
         exec (.bulkResume tag n) s = .next (s.reply tag 0x10 (.refused .state))) ∧
       (r.state = .held ∨ r.state = .stalled →
         exec (.bulkResume tag n) s =
           .next ((s.updateRun n fun k => { k with state := .armed }).reply tag 0x10 (.ok .done))))

/-- BULK-HOLD is refused with NOTFOUND when no record holds the number and with STATE outside FEEDING and ARMED; in FEEDING
it closes the gate, stops the stall timer and carries the gain of the last reading; in ARMED the carried gain is kept; in
both the run enters HELD with its component ARMED and no start weight (R56). A leave report stalls a run in FEEDING or
SETTLING with reason SIGNAL, and the stall timer's expiry a run in FEEDING with reason NOFLOW: the gate closes, the timer
stops, the gain at the last reading is carried, the component stands in ARMED and BULK-STALLED is offered (R57). With no
active run, or an active run in another state, a leave report has no effect (R47); that a stall-timer expiry with no run in
FEEDING, or with the timer stopped, has none is log 7, and that one commanded before its limit has its effect is log 8. -/
def Obligations.HoldsAndStallsCarryTheGain : Prop :=
  (∀ (tag : Byte) (s : State) (n : Nat), s.powered = true → 1 ≤ n → n ≤ 65535 →
     (s.bulking.find n = none → exec (.bulkHold tag n) s = .next (s.reply tag 0x0F (.refused .notFound))) ∧
     ∀ r, s.bulking.find n = some r → r.state ≠ .feeding → r.state ≠ .armed →
       exec (.bulkHold tag n) s = .next (s.reply tag 0x0F (.refused .state))) ∧
  (∀ (tag : Byte) (s : State) (n i : Nat) (r : BulkRecord) (c : Component), s.powered = true → 1 ≤ n → n ≤ 65535 →
     s.bulking.find n = some r → r.active = some i → r.components[i]? = some c →
     (r.state = .feeding → ∀ (l : LastReading) (w : Int), s.bulking.lastReading = some l → r.start = some w →
       let gain := r.carried + (l.q - w)
       let u := s.updateRun n fun k => { k with
         components := k.components.modify i fun d => { d with state := .armed }
         state := .held, carried := gain, start := none }
       exec (.bulkHold tag n) s = .next (State.reply
         { u with bulking := { u.bulking with gateOpen := false, stallTimer := none } } tag 0x0F
           (.ok (.bulkCarried gain)))) ∧
     (r.state = .armed →
       exec (.bulkHold tag n) s = .next ((s.updateRun n fun k => { k with
         components := k.components.modify i fun d => { d with state := .armed }
         state := .held, start := none }).reply tag 0x0F (.ok (.bulkCarried r.carried))))) ∧
  (∀ s : State, s.powered = true →
     (s.bulking.active = none → exec .leaveReport s = .next (s.taken .leaveReport) ∧ exec .stallTimerExpiry s = .next s) ∧
     (∀ r, s.bulking.active = some r →
       (r.state ≠ .feeding → r.state ≠ .settling → exec .leaveReport s = .next (s.taken .leaveReport)) ∧
       (r.state ≠ .feeding → exec .stallTimerExpiry s = .next s)) ∧
     (s.bulking.stallTimer = none → exec .stallTimerExpiry s = .next s) ∧
     ∀ (r : BulkRecord) (i : Nat) (c : Component) (l : LastReading) (w : Int), s.bulking.active = some r →
       r.active = some i → r.components[i]? = some c → s.bulking.lastReading = some l → r.start = some w →
       let gain := r.carried + (l.q - w)
       let stalled (u : State) (reason : StallReason) : State :=
         let v := u.updateRun r.run fun k => { k with
           components := k.components.modify i fun x => { x with state := .armed }
           state := .stalled, carried := gain, start := none }
         State.notify { v with bulking := { v.bulking with gateOpen := false, stallTimer := none } }
           (.bulkStalled r.run i reason c.target gain)
       (r.state = .feeding ∨ r.state = .settling →
         exec .leaveReport s = .next (stalled (s.taken .leaveReport) .signal)) ∧
       (r.state = .feeding → s.bulking.stallTimer.isSome = true →
         exec .stallTimerExpiry s = .next (stalled s .noFlow)))

/-- BULK-ABORT of an active run closes the gate and stops the stall timer; the component in progress records its gain at
the last reading, or its carried gain with no start weight, negative as 0; every component not DONE or SHORT is SKIPPED; the
fed total is the sum, the uncommitted weight 0, and the run ends ABORTED. A DEFINED run ends ABORTED likewise, its PENDING
components SKIPPED. COMPLETE and ABORTED are refused with STATE, and a number no record holds with NOTFOUND (R59). That the
abort of a run that is not active leaves the gate and the stall timer as they stand, and that the carried gain of an ABORTED
record is left standing, are the model's choices (logs 28, 36). -/
def Obligations.BulkAbortEndsTheRun : Prop :=
  ∀ (tag : Byte) (s : State) (n : Nat), s.powered = true → 1 ≤ n → n ≤ 65535 →
    (s.bulking.find n = none → exec (.bulkAbort tag n) s = .next (s.reply tag 0x12 (.refused .notFound))) ∧
    ∀ r : BulkRecord, s.bulking.find n = some r →
    (r.state = .defined → (∀ c ∈ r.components, c.state = .pending) →
      exec (.bulkAbort tag n) s = .next ((s.updateRun n fun _ => { r with
        components := r.components.map fun c => { c with state := .skipped }
        fed := (r.components.map fun c => c.fed).sum, uncommitted := 0, active := none, start := none
        state := .aborted }).reply tag 0x12 (.ok (.bulkFed (r.components.map fun c => c.fed).sum)))) ∧
    (r.state = .complete ∨ r.state = .aborted →
      exec (.bulkAbort tag n) s = .next (s.reply tag 0x12 (.refused .state))) ∧
    (r.state.isActive = true →
      ∃ cs : List Component,
        (let u := s.updateRun n fun _ => { r with
            components := cs, fed := (cs.map (·.fed)).sum, uncommitted := 0, active := none, start := none
            state := .aborted }
         exec (.bulkAbort tag n) s = .next (State.reply
          { u with bulking := { u.bulking with gateOpen := false, stallTimer := none } } tag 0x12
            (.ok (.bulkFed (cs.map (·.fed)).sum)))) ∧
        cs.length = r.components.length ∧
        ∀ (j : Nat) (c d : Component), r.components[j]? = some c → cs[j]? = some d →
          d.label = c.label ∧ d.fraction = c.fraction ∧ d.target = c.target ∧
          (c.state = .done ∨ c.state = .short → d = c) ∧
          (c.state ≠ .done → c.state ≠ .short → d.state = .skipped) ∧
          (c.state = .pending ∨ c.state = .skipped → d.fed = c.fed) ∧
          (c.state = .armed ∨ c.state = .feeding ∨ c.state = .settling →
            (r.start = none → d.fed = r.carried.toNat) ∧
            ∀ l w, s.bulking.lastReading = some l → r.start = some w → d.fed = (r.carried + (l.q - w)).toNat))

/-- A short rescales the run: the total becomes the short weight × 1000 / its fraction rounded, the PENDING targets follow
it, the short flag is set, the off-proportion flag is set when an earlier ended component lies outside the tolerance, and
below 10,000 g the run completes with its PENDING components SKIPPED and the flag set; else it is BETWEEN. BULK-SHORT is
refused with NOTFOUND when no record holds the number, and with STATE outside HELD, STALLED and BETWEEN and after a
component already SHORT (R60, R61). Each figure is the nearest whole number, a half going up (spec/00 3.3). -/
def Obligations.BulkShortRescales : Prop :=
  (∀ n m : Nat, 0 < m → 2 * ((n : Int) - m * roundNat n m).natAbs ≤ m ∧
    (2 * ((n : Int) - m * roundNat n m).natAbs = m → n < m * roundNat n m)) ∧
  ∀ (tag : Byte) (s : State) (n : Nat), s.powered = true → 1 ≤ n → n ≤ 65535 →
    (s.bulking.find n = none → exec (.bulkShort tag n) s = .next (s.reply tag 0x11 (.refused .notFound))) ∧
    ∀ r : BulkRecord, s.bulking.find n = some r →
    (r.state ≠ .held → r.state ≠ .stalled → r.state ≠ .between →
      exec (.bulkShort tag n) s = .next (s.reply tag 0x11 (.refused .state))) ∧
    ∀ (i : Nat) (c : Component), r.active = some i → r.components[i]? = some c →
    (r.state = .between → c.state = .short →
      exec (.bulkShort tag n) s = .next (s.reply tag 0x11 (.refused .state))) ∧
    ((r.state = .held ∨ r.state = .stalled ∨ (r.state = .between ∧ c.state ≠ .short)) →
      let fed := if r.state = .between then c.fed else r.carried.toNat
      let total := roundNat (fed * 1000) c.fraction
      let after := (r.components.modify i fun d => { d with fed := fed, state := .short }).map fun d =>
        if d.state = .pending then { d with target := roundNat (total * d.fraction) 1000 } else d
      let outside := ∃ (j : Nat) (d : Component), j ≠ i ∧ r.components[j]? = some d ∧
        (d.state = .done ∨ d.state = .short) ∧
        s.bulking.tolerance * roundNat (total * d.fraction) 1000 <
          1000 * ((d.fed : Int) - roundNat (total * d.fraction) 1000).natAbs
      ∃ (u : State) (k : BulkRecord) (targets : List Nat),
        exec (.bulkShort tag n) s =
          .next (u.reply tag 0x11 (.ok (.bulkShort total targets k.offProportion k.state))) ∧
        u.bulking = s.bulking.update n (fun _ => k) ∧ k.run = r.run ∧ k.total = total ∧
        k.definedTotal = r.definedTotal ∧ k.short = true ∧
        (10000 ≤ total → k.state = .between ∧ k.components = after ∧ k.active = some i ∧
          (k.offProportion = true ↔ r.offProportion = true ∨ outside) ∧ u.transit = s.transit ∧
          targets = (after.filter fun d => d.state == .pending).map (·.target)) ∧
        (total < 10000 → k.state = .complete ∧ k.offProportion = true ∧ k.active = none ∧
          (k.components = after.map fun d => if d.state = .pending then { d with state := .skipped } else d) ∧
          k.fed = (k.components.map (·.fed)).sum ∧ k.uncommitted = k.fed ∧
          k.date = s.clock.reading.map (·.date) ∧
          u.transit = s.transit ++ [.noticeOffer (.bulkComplete r.run k.fed k.date true true),
            .event 15 ⟨none, none, none⟩]))

/-- BULK-RETIRE: NOTFOUND with no such record, STATE unless it is COMPLETE or ABORTED with no bound invoice; otherwise its
place becomes free and the reply carries the number (R65). BULK-READ reports a record, with its gain at the last reading in
FEEDING and SETTLING, or for 0 a summary (R66). BULK-CONFIG sets the preact start, the tolerance and, where given, the
preact (R67). -/
def Obligations.BulkRecordsAreReadConfiguredAndRetired : Prop :=
  ∀ (tag : Byte) (s : State), s.powered = true →
    (∀ n r, 1 ≤ n → n ≤ 65535 → s.bulking.find n = some r →
      exec (.bulkRetire tag n) s =
        (if (r.state = .complete ∨ r.state = .aborted) ∧ r.bound = 0 then
          .next (State.reply { s with bulking := { s.bulking with
            records := s.bulking.records.filter fun k => k.run != n } } tag 0x13 (.ok (.bulkRun n)))
        else .next (s.reply tag 0x13 (.refused .state))) ∧
      (r.state ≠ .feeding → r.state ≠ .settling →
        exec (.bulkRead tag n) s = .next (s.reply tag 0x14 (.ok (.bulkRecord r none)))) ∧
      (∀ l w, r.state = .feeding ∨ r.state = .settling → s.bulking.lastReading = some l → r.start = some w →
        exec (.bulkRead tag n) s =
          .next (s.reply tag 0x14 (.ok (.bulkRecord r (some (r.carried + (l.q - w)))))))) ∧
    (∀ n, 1 ≤ n → n ≤ 65535 → s.bulking.find n = none →
      exec (.bulkRetire tag n) s = .next (s.reply tag 0x13 (.refused .notFound)) ∧
      exec (.bulkRead tag n) s = .next (s.reply tag 0x14 (.refused .notFound))) ∧
    (∃ runs, runs.Perm (s.bulking.records.map fun r => (r.run, r.state)) ∧
      runs.Pairwise (fun x y => x.1 ≤ y.1) ∧
      exec (.bulkRead tag 0) s = .next (s.reply tag 0x14 (.ok (.bulkSummary runs s.bulking.preact s.bulking.preactStart
        s.bulking.tolerance s.bulking.gateOpen (s.bulking.active.map (·.run)))))) ∧
    (∀ (ps p : Int) (tol given : Nat),
      exec (.bulkConfig tag ps tol ⟨given, p⟩) s =
        if 0 ≤ ps ∧ ps ≤ 5000 ∧ tol ≤ 1000 ∧ (given = 0 ∨ (given = 1 ∧ 0 ≤ p ∧ p ≤ 5000)) then
          .next (State.reply { s with bulking := { s.bulking with
            preactStart := ps, tolerance := tol, preact := if given = 1 then p else s.bulking.preact } } tag 0x15
            (.ok (.bulkConfig ps tol (if given = 1 then p else s.bulking.preact))))
        else .next (s.reply tag 0x15 (.refused .range)))

/-- A reading becomes the last reading and moves the active run as its state gives: in ARMED a settled one is the start
reading, opening the gate unless the carried gain already meets the close condition; in FEEDING the gate closes when the
gain reaches target less preact, and else a rise of d moves the stall reference; in SETTLING a settled one ends the
component DONE, and half the overshoot, truncated toward zero, is learnt, the preact held in 0..5,000 g; in BETWEEN, HELD
and STALLED, and with no active run, it is only kept as the last reading (R47, R50, R51, R52). That the run's fed total does
not move with its components, and that the carried gain stands when its component is DONE, are the model's choices (logs 44,
36). -/
def Obligations.ReadingsMoveTheActiveRun : Prop :=
  ∀ (s : State) (station : Fin 4) (q : Int) (settled : Bool) (d : Nat), s.powered = true →
    let last := s.taken (.reading station q settled d)
    let kept : State := { last with bulking := { last.bulking with lastReading := some ⟨station, d, q⟩ } }
    (s.bulking.active = none → exec (.reading station q settled d) s = .next kept) ∧
    (∀ r, s.bulking.active = some r → r.state = .between ∨ r.state = .held ∨ r.state = .stalled →
      exec (.reading station q settled d) s = .next kept) ∧
    ∀ (r : BulkRecord) (i : Nat) (c : Component), s.bulking.active = some r → r.active = some i →
      r.components[i]? = some c →
      let moved (st : ComponentState) (rs : RunState) (start : Option Int) : State := kept.updateRun r.run fun k => { k with
        components := k.components.modify i fun x => { x with state := st }, state := rs, start := start }
      (r.state = .armed → settled = false → exec (.reading station q settled d) s = .next kept) ∧
      (r.state = .armed → settled = true → (c.target : Int) - s.bulking.preact ≤ r.carried →
        exec (.reading station q settled d) s = .next (kept.updateRun r.run fun k => { k with
          components := k.components.modify i fun x => { x with state := .settling }
          state := .settling, start := some q })) ∧
      (r.state = .armed → settled = true → r.carried < (c.target : Int) - s.bulking.preact →
        ∃ u : State, exec (.reading station q settled d) s = .next u ∧
          u = { kept with bulking := u.bulking } ∧ u.bulking.gateOpen = true ∧ u.bulking.stallTimer = some 0 ∧
          u.bulking.stallReference = r.carried ∧ u.bulking.records = (moved .feeding .feeding (some q)).bulking.records ∧
          u.bulking.preact = s.bulking.preact) ∧
      (∀ w, r.state = .feeding → r.start = some w → (c.target : Int) - s.bulking.preact ≤ r.carried + (q - w) →
        ∃ u : State, exec (.reading station q settled d) s = .next u ∧
          u = { kept with bulking := u.bulking } ∧ u.bulking.gateOpen = false ∧ u.bulking.stallTimer = none ∧
          u.bulking.records = (kept.updateRun r.run fun k => { k with
            components := k.components.modify i fun x => { x with state := .settling }
            state := .settling }).bulking.records) ∧
      (∀ w, r.state = .feeding → r.start = some w → r.carried + (q - w) < (c.target : Int) - s.bulking.preact →
        exec (.reading station q settled d) s =
          .next (if s.bulking.stallReference + d ≤ r.carried + (q - w) then
            { kept with bulking := { kept.bulking with
              stallReference := r.carried + (q - w), stallTimer := some 0 } }
          else kept)) ∧
      (r.state = .settling → settled = false → exec (.reading station q settled d) s = .next kept) ∧
      (∀ w, r.state = .settling → r.start = some w → settled = true →
        let fed := (r.carried + (q - w)).toNat
        let excess : Int := (fed : Int) - c.target
        let learnt : Int := s.bulking.preact + (if 0 ≤ excess then excess / 2 else -(-excess / 2))
        let preact : Int := if learnt < 0 then 0 else if 5000 < learnt then 5000 else learnt
        ∃ u : State, exec (.reading station q settled d) s = .next u ∧
          u = { kept with
            bulking := u.bulking
            transit := last.transit ++ [.noticeOffer (.bulkComponentDone r.run i c.target fed excess preact),
              .event 14 ⟨some station, none, none⟩] } ∧
          u.bulking.preact = preact ∧ u.bulking.gateOpen = s.bulking.gateOpen ∧
          u.bulking.records = (kept.updateRun r.run fun k => { k with
            components := k.components.modify i fun x => { x with state := .done, fed := fed }
            state := .between, start := none }).bulking.records)

/-! ### Invoices -/

/-- INV-OPEN, its fields in range (R73; a date by the calendar of 2000..2099): CONFLICT when the table or the record store
carries the number, FULL with sixteen invoices, STATE with no date given and the clock UNSET, and with a run named the
bulking controller's own refusal; each leaves everything as it was. Taken, the new record stands at the end of the table
with the values of the request, the tare of its type, and with a run named the grant, the run's off-proportion flag and its
date; the grant leaves the run's uncommitted weight and raises its bound count (R62, R73, R74, R75, R161). -/
def Obligations.InvOpenIsCheckedThenMadeWhole : Prop :=
  ((∀ d : Date, validDate d = true ↔ 2000 ≤ d.year ∧ d.year ≤ 2099 ∧ 1 ≤ d.month ∧ d.month ≤ 12 ∧ 1 ≤ d.day ∧
      d.day ≤ (if d.month = 2 then (if d.year % 4 = 0 then 29 else 28)
        else if d.month = 4 ∨ d.month = 6 ∨ d.month = 9 ∨ d.month = 11 then 30 else 31)) ∧
    ∀ f : InvOpenFields, openInRange f = true ↔
      1 ≤ f.number ∧ f.number ≤ 99999 ∧ validText 12 f.garden = true ∧ validText 6 f.grade = true ∧
        1000 ≤ f.declaredNet ∧ f.declaredNet ≤ 100000 ∧ 1 ≤ f.packages ∧ f.packages ≤ 120 ∧ f.ceiling ≤ 9999 ∧
        f.allowance ≤ 99999 ∧ (∀ n, f.bulkRun = some n → 1 ≤ n ∧ n ≤ 65535) ∧
        ∀ d, f.date = some d → validDate d = true) ∧
  (∀ (tag : Byte) (s : State) (f : InvOpenFields), s.powered = true → openInRange f = true → f.packType < 8 →
     f.cls < 4 → f.autoClose < 2 →
     let refused (r : Reason) := exec (.invOpen tag f) s = .next (s.reply tag 0x16 (.refused r))
     let taken := (∃ v ∈ s.invoices.invoices, v.record.number = f.number) ∨ ∃ h ∈ s.store.sheets, h.invoice = f.number
     (taken → refused .conflict) ∧
     (¬ taken → 16 ≤ s.invoices.invoices.length → refused .full) ∧
     (¬ taken → s.invoices.invoices.length < 16 → f.date = none → s.clock.reading = none → refused .state) ∧
     (¬ taken → s.invoices.invoices.length < 16 → (f.date ≠ none ∨ s.clock.reading ≠ none) → ∀ n, f.bulkRun = some n →
       (s.bulking.find n = none → refused .notFound) ∧
       ∀ r, s.bulking.find n = some r →
         (r.state ≠ .complete → refused .state) ∧
         (r.state = .complete → r.uncommitted < f.declaredNet → refused .insufficient))) ∧
  (∀ (tag : Byte) (s : State) (f : InvOpenFields) (date : Date), s.powered = true → openInRange f = true →
     (hp : f.packType < 8) → (hc : f.cls < 4) → f.autoClose < 2 →
     (∀ v ∈ s.invoices.invoices, v.record.number ≠ f.number) → (∀ h ∈ s.store.sheets, h.invoice ≠ f.number) →
     s.invoices.invoices.length < 16 →
     let record (packages : Nat) (off : Bool) : InvoiceRecord :=
       { number := f.number, garden := f.garden, grade := f.grade, packType := ⟨f.packType, hp⟩
         tare := s.packs.types[f.packType].tare, declaredNet := f.declaredNet, packages := packages, cls := ⟨f.cls, hc⟩
         tightened := false, ceiling := f.ceiling, tally := 0, overrun := false, allowance := f.allowance
         autoClose := f.autoClose == 1, shortClose := false, bulkRun := f.bulkRun, offProportion := off, date := date
         lot := .unresolved, state := .opened }
     let opened (u : State) (packages : Nat) (off : Bool) := exec (.invOpen tag f) s = .next (State.reply
       { u with invoices := { s.invoices with invoices := s.invoices.invoices ++ [⟨record packages off, []⟩] } }
       tag 0x16 (.ok (.invOpened f.number f.packages packages s.packs.types[f.packType].tare date f.bulkRun)))
     (f.bulkRun = none → (f.date.or (s.clock.reading.map (·.date))) = some date → opened s f.packages false) ∧
     ∀ n r, f.bulkRun = some n → s.bulking.find n = some r → r.state = .complete → f.declaredNet ≤ r.uncommitted →
       ((f.date.or r.date).or (s.clock.reading.map (·.date))) = some date →
       (f.date ≠ none ∨ s.clock.reading ≠ none) →
       let granted := min f.packages (r.uncommitted / f.declaredNet)
       opened (s.updateRun n fun k => { k with
         uncommitted := k.uncommitted - granted * f.declaredNet, bound := k.bound + 1 }) granted r.offProportion)

/-- An append for an OPEN invoice takes the chest number accepted + 1 and the counter's serial, joins the end of the chest
list with status NONE and sample flag clear, and is answered ACCEPTED after event 0 + station; of its record only the tally,
overrun flag, class, latch and state change, and no other record does; for any other invoice it is answered SURPLUS and
changes nothing (R77, R78). Within ±9,999 g the tally takes the deviation, beyond it is set to the bound with the overrun
flag and INVOICE-OVERRUN, and from then on it stands; with the latch clear a tally above a non-zero ceiling, or at 9,999 g
by an overrun under any non-zero ceiling, raises the class by one, 3 staying 3, sets the latch and offers GIVEAWAY-HIGH, and
no other tally does; and the invoice whose list reaches its packages becomes FULL, leaves every queue and raises event 12,
and closes if its auto-close flag is set (R79, R80, R81, R87). What is sent stands in the order in which R77 and R79 list
it, INVOICE-OVERRUN before GIVEAWAY-HIGH (log 2). The serial counter advances by one, from 65,535 to 1, and past every
number that a chest of the table or a stencil job holds, the new chest among them (R72). -/
def Obligations.AppendsAreAcceptedAndTallied : Prop :=
  (∀ (s : State) (station : Fin 4) (n : Nat) (gross net : Int), s.powered = true →
     let u := s.taken (.append station n gross net)
     (∀ v, s.invoices.find n = some v → v.record.state = .opened →
       ∃ (t : State) (w : Invoice), exec (.append station n gross net) s = .next t ∧
         t = { u with invoices := t.invoices, transit := t.transit } ∧
         t.transit = u.transit ++
           (if v.record.overrun = false ∧ w.record.overrun = true then [.noticeOffer (.invoiceOverrun n)] else []) ++
           (if v.record.tightened = false ∧ w.record.tightened = true then
             [.noticeOffer (.giveawayHigh n w.record.tally v.record.ceiling w.record.cls)] else []) ++
           [.event ⟨station.val, by omega⟩ ⟨some station, some n, some s.invoices.nextSerial⟩,
             .appendAnswer station (.accepted (v.chests.length + 1) s.invoices.nextSerial)] ++
           (if v.chests.length + 1 = v.record.packages then
             [.event 12 ⟨some station, some n, some s.invoices.nextSerial⟩,
               .noticeOffer (.invoiceFull n v.record.packages w.record.tally)] ++
               (if v.record.autoClose = true then [.sheetRequest n] else [])
           else []) ∧
         t.invoices.find n = some w ∧
         w.record = { v.record with
           tally := w.record.tally, overrun := w.record.overrun, cls := w.record.cls, tightened := w.record.tightened
           state := w.record.state } ∧
         w.chests = v.chests ++ [⟨v.chests.length + 1, s.invoices.nextSerial, station, gross, net, .none, false⟩] ∧
         (∀ k, k ≠ n → t.invoices.find k = s.invoices.find k)) ∧
     ((∀ v, s.invoices.find n = some v → v.record.state ≠ .opened) →
       exec (.append station n gross net) s = .next (u.send (.appendAnswer station .surplus)))) ∧
  (∀ (s : State) (station : Fin 4) (n : Nat) (gross net : Int) (v : Invoice), s.powered = true →
     s.invoices.find n = some v → v.record.state = .opened →
     let dev : Int := net - v.record.declaredNet
     let sum : Int := v.record.tally + dev
     ∃ t w, exec (.append station n gross net) s = .next t ∧ t.invoices.find n = some w ∧
       let exceeds : Prop := v.record.ceiling ≠ 0 ∧
         ((v.record.ceiling : Int) < w.record.tally ∨ (w.record.overrun = true ∧ w.record.tally = 9999))
       (v.record.overrun = true → w.record.tally = v.record.tally ∧ w.record.overrun = true) ∧
       (v.record.overrun = false → -9999 ≤ sum → sum ≤ 9999 → w.record.tally = sum ∧ w.record.overrun = false) ∧
       (v.record.overrun = false → 9999 < sum → w.record.tally = 9999 ∧ w.record.overrun = true ∧
         .noticeOffer (.invoiceOverrun n) ∈ t.transit) ∧
       (v.record.overrun = false → sum < -9999 → w.record.tally = -9999 ∧ w.record.overrun = true ∧
         .noticeOffer (.invoiceOverrun n) ∈ t.transit) ∧
       (v.record.tightened = true ∨ ¬ exceeds →
         w.record.cls = v.record.cls ∧ w.record.tightened = v.record.tightened) ∧
       (v.record.tightened = false → exceeds →
         w.record.tightened = true ∧ w.record.cls.val = min 3 (v.record.cls.val + 1) ∧
         .noticeOffer (.giveawayHigh n w.record.tally v.record.ceiling w.record.cls) ∈ t.transit) ∧
       (v.chests.length + 1 ≠ v.record.packages → w.record.state = .opened ∧ t.invoices.queues = s.invoices.queues) ∧
       (v.chests.length + 1 = v.record.packages →
         w.record.state = (if v.record.autoClose = true then .closing else .full) ∧
         (∀ i : Fin 4, t.invoices.queues[i] = s.invoices.queues[i].filter fun k => k != n) ∧
         .event 12 ⟨some station, some n, some s.invoices.nextSerial⟩ ∈ t.transit ∧
         .noticeOffer (.invoiceFull n v.record.packages w.record.tally) ∈ t.transit ∧
         (v.record.autoClose = true → .sheetRequest n ∈ t.transit))) ∧
  (∀ (s t : State) (station : Fin 4) (n : Nat) (gross net : Int) (v : Invoice), s.powered = true →
     s.invoices.find n = some v → v.record.state = .opened → (s.invoices.invoices.map fun k => k.record.number).Nodup →
     let next := s.invoices.nextSerial
     let held := next :: ((s.invoices.invoices.flatMap fun k => k.chests.map fun c => c.serial) ++
       s.stencils.jobs.map fun j => j.serial)
     1 ≤ next → next ≤ 65535 → held.length < 65535 → exec (.append station n gross net) s = .next t →
     ∃ k, t.invoices.nextSerial = (next + k) % 65535 + 1 ∧ t.invoices.nextSerial ∉ held ∧
       ∀ j, j < k → (next + j) % 65535 + 1 ∈ held)

/-- STATION-QUEUE-ADD: NOTFOUND, then STATE unless the station is CHEST and the invoice OPEN, then CONFLICT, then FULL with
four entries; otherwise the number joins the end. STATION-QUEUE-REMOVE: NOTFOUND unless the number stands in the queue;
otherwise the others close up in their order (R83, R84). -/
def Obligations.StationQueuesAreFirstInFirstOut : Prop :=
  ∀ (tag : Byte) (s : State) (i : Fin 4) (n : Nat), s.powered = true → 1 ≤ n → n ≤ 99999 →
    (s.invoices.find n = none →
      exec (.stationQueueAdd tag i n) s = .next (s.reply tag 0x1C (.refused .notFound))) ∧
    (∀ v, s.invoices.find n = some v →
      exec (.stationQueueAdd tag i n) s =
        if ¬ (s.stations[i].settings.role = .chest ∧ v.record.state = .opened) then
          .next (s.reply tag 0x1C (.refused .state))
        else if n ∈ s.invoices.queues[i] then .next (s.reply tag 0x1C (.refused .conflict))
        else if 4 ≤ s.invoices.queues[i].length then .next (s.reply tag 0x1C (.refused .full))
        else .next ((s.setQueue i (s.invoices.queues[i] ++ [n])).reply tag 0x1C
          (.ok (.queue (s.invoices.queues[i] ++ [n]))))) ∧
    exec (.stationQueueRemove tag i n) s =
      if n ∈ s.invoices.queues[i] then
        .next ((s.setQueue i (s.invoices.queues[i].filter fun k => k != n)).reply tag 0x1D
          (.ok (.queue (s.invoices.queues[i].filter fun k => k != n))))
      else .next (s.reply tag 0x1D (.refused .notFound))

/-- INV-VOID-LAST is refused with NOTFOUND when no record holds the number; in OPEN or FULL it removes the newest chest,
unless its serial is not the one expected (CONFLICT) or its status is MARKING (STATE): the tally is reversed unless the
overrun flag is set, the invoice is OPEN, a PENDING chest's job is removed, and the counter, latch, class, allowance and lot
stand (R80, R85). -/
def Obligations.VoidRemovesTheNewestChest : Prop :=
  ∀ (tag : Byte) (s : State) (n expected : Nat), s.powered = true → 1 ≤ n → n ≤ 99999 → expected ≤ 65535 →
    (s.invoices.find n = none → exec (.invVoidLast tag n expected) s = .next (s.reply tag 0x19 (.refused .notFound))) ∧
    ∀ (v : Invoice) (c : Chest) (front : List Chest), s.invoices.find n = some v →
    (v.record.state ≠ .opened → v.record.state ≠ .full →
      exec (.invVoidLast tag n expected) s = .next (s.reply tag 0x19 (.refused .state))) ∧
    ((v.record.state = .opened ∨ v.record.state = .full) →
      (v.chests = [] → exec (.invVoidLast tag n expected) s = .next (s.reply tag 0x19 (.refused .state))) ∧
      (v.chests = front ++ [c] →
        (expected ≠ 0 → expected ≠ c.serial →
          exec (.invVoidLast tag n expected) s = .next (s.reply tag 0x19 (.refused .conflict))) ∧
        (expected = 0 ∨ expected = c.serial →
          (c.status = .marking →
            exec (.invVoidLast tag n expected) s = .next (s.reply tag 0x19 (.refused .state))) ∧
          (c.status ≠ .marking →
            let tally := if v.record.overrun = true then v.record.tally
              else v.record.tally - (c.net - v.record.declaredNet)
            let u := s.updateInvoice n fun _ => ⟨{ v.record with tally := tally, state := .opened }, front⟩
            exec (.invVoidLast tag n expected) s = .next (State.reply
              (if c.status = .pending then u.send (.jobRemoval c.serial) else u) tag 0x19
                (.ok (.voided n c tally)))))))

/-- INV-CLOSE begins closing a FULL invoice; an OPEN one with chests is closed short when the option is set, its packages
lowered to its accepted count, the weight of the rest returned to its run, and the invoice taken from every queue; anything
else is refused with STATE, and a number no record holds with NOTFOUND (R63, R86, R87). INV-CANCEL removes an OPEN invoice
with no chests from the table and every queue, returns its commitment to its run and lowers the run's bound count; anything
else is refused with STATE, and a number no record holds with NOTFOUND (R63, R89). -/
def Obligations.InvoicesCloseOrAreCancelled : Prop :=
  (∀ (tag : Byte) (s : State) (n short : Nat), s.powered = true → 1 ≤ n → n ≤ 99999 → short < 2 →
     (s.invoices.find n = none → exec (.invClose tag n short) s = .next (s.reply tag 0x1A (.refused .notFound))) ∧
     ∀ v : Invoice, s.invoices.find n = some v →
     (v.record.state = .full → exec (.invClose tag n short) s =
       .next (((s.setInvoiceState n .closing).send (.sheetRequest n)).reply tag 0x1A (.ok (.closed .closing none)))) ∧
     (v.record.state ≠ .full → (v.record.state ≠ .opened ∨ short = 0 ∨ v.chests = []) →
       exec (.invClose tag n short) s = .next (s.reply tag 0x1A (.refused .state))) ∧
     (v.record.state = .opened → short = 1 → v.chests ≠ [] →
       let weight := (v.record.packages - v.chests.length) * v.record.declaredNet
       ∃ t : State, exec (.invClose tag n short) s = .next (t.reply tag 0x1A (.ok (.closed .closing
           (some (v.chests.length, if v.record.bulkRun = none then 0 else weight))))) ∧
         t.transit = s.transit ++ [.sheetRequest n] ∧
         (∃ w, t.invoices.find n = some w ∧ w.chests = v.chests ∧
           w.record = { v.record with packages := v.chests.length, shortClose := true, state := .closing }) ∧
         (∀ k, k ≠ n → t.invoices.find k = s.invoices.find k) ∧ t.invoices.nextSerial = s.invoices.nextSerial ∧
         (∀ i : Fin 4, t.invoices.queues[i] = s.invoices.queues[i].filter fun k => k != n) ∧
         t.bulking = (match v.record.bulkRun with
           | some run => s.bulking.update run fun r => { r with uncommitted := r.uncommitted + weight }
           | none => s.bulking) ∧
         t = { s with transit := t.transit, invoices := t.invoices, bulking := t.bulking })) ∧
  (∀ (tag : Byte) (s : State) (n : Nat), s.powered = true → 1 ≤ n → n ≤ 99999 →
     (s.invoices.find n = none → exec (.invCancel tag n) s = .next (s.reply tag 0x1B (.refused .notFound))) ∧
     ∀ v, s.invoices.find n = some v →
       (v.record.state ≠ .opened ∨ v.chests ≠ [] →
         exec (.invCancel tag n) s = .next (s.reply tag 0x1B (.refused .state))) ∧
       (v.record.state = .opened → v.chests = [] →
         let weight := v.record.packages * v.record.declaredNet
         exec (.invCancel tag n) s = .next (State.reply
           { s with
             invoices := { s.invoices with
               invoices := s.invoices.invoices.filter fun k => k.record.number != n
               queues := s.invoices.queues.map fun q => q.filter fun k => k != n }
             bulking := match v.record.bulkRun with
               | some run => s.bulking.update run fun r =>
                 { r with uncommitted := r.uncommitted + weight, bound := r.bound - 1 }
               | none => s.bulking }
           tag 0x1B (.ok (.cancelled n (if v.record.bulkRun = none then 0 else weight))))))

/-- INV-AMEND is refused with NOTFOUND when no record holds the number; of an OPEN or FULL invoice it sets every given field
together, the mark and grade only before the first chest; a ceiling given is judged for tightening; an auto-close flag set
on a FULL invoice begins its closing; CLOSING, WAITING and SHEETED are refused with STATE (R90). -/
def Obligations.InvAmendSetsTheGivenFields : Prop :=
  ∀ (tag : Byte) (s : State) (n : Nat) (garden grade : Option Text) (ceiling allowance : Option Nat)
    (autoClose : Option Bool), s.powered = true → 1 ≤ n → n ≤ 99999 →
    (∀ t ∈ garden, validText 12 t = true) → (∀ t ∈ grade, validText 6 t = true) → (∀ c ∈ ceiling, c ≤ 9999) →
    (∀ a ∈ allowance, a ≤ 99999) →
    let keep {α : Type} (o : Option α) (d : α) : KeepField α := ⟨if o.isSome then 1 else 0, o.getD d⟩
    let f : InvAmendFields := ⟨keep garden [], keep grade [], keep ceiling 0, keep allowance 0,
      keep (autoClose.map flagCode) 0⟩
    (s.invoices.find n = none → exec (.invAmend tag n f) s = .next (s.reply tag 0x17 (.refused .notFound))) ∧
    ∀ v : Invoice, s.invoices.find n = some v →
    ((v.record.state ≠ .opened ∧ v.record.state ≠ .full) ∨ ((garden ≠ none ∨ grade ≠ none) ∧ v.chests ≠ []) →
      exec (.invAmend tag n f) s = .next (s.reply tag 0x17 (.refused .state))) ∧
    ((v.record.state = .opened ∨ v.record.state = .full) → ((garden = none ∧ grade = none) ∨ v.chests = []) →
      let set : InvoiceRecord := { v.record with
        garden := garden.getD v.record.garden, grade := grade.getD v.record.grade
        ceiling := ceiling.getD v.record.ceiling, allowance := allowance.getD v.record.allowance
        autoClose := autoClose.getD v.record.autoClose }
      let tightens := ceiling ≠ none ∧ v.record.tightened = false ∧ set.ceiling ≠ 0 ∧
        ((set.ceiling : Int) < set.tally ∨ (set.overrun = true ∧ set.tally = 9999))
      ∃ (t : State) (r : InvoiceRecord),
        exec (.invAmend tag n f) s = .next (t.reply tag 0x17 (.ok (.invoice r v.chests.length))) ∧
        (∃ w, t.invoices.find n = some w ∧ w.record = r ∧ w.chests = v.chests) ∧
        t.invoices = s.invoices.update n (fun k => { k with record := r }) ∧
        r = { set with cls := r.cls, tightened := r.tightened, state := r.state } ∧
        (tightens → r.tightened = true ∧ r.cls.val = min 3 (v.record.cls.val + 1) ∧
          .noticeOffer (.giveawayHigh n r.tally r.ceiling r.cls) ∈ t.transit) ∧
        (¬ tightens → r.tightened = v.record.tightened ∧ r.cls = v.record.cls) ∧
        (v.record.state = .full → autoClose = some true → r.state = .closing ∧ .sheetRequest n ∈ t.transit) ∧
        (v.record.state = .opened ∨ autoClose ≠ some true → r.state = v.record.state) ∧
        t.transit = s.transit ++
          (if r.tightened = true ∧ v.record.tightened = false then
            [.noticeOffer (.giveawayHigh n r.tally r.ceiling r.cls)] else []) ++
          (if r.state = .closing then [.sheetRequest n] else []) ∧
        t = { s with invoices := t.invoices, transit := t.transit })

/-- INV-READ reports part 0, the record with its accepted count, or part k, the chests 16·(k-1)+1 to 16·k, and for number 0
the summary in ascending invoice number; it refuses NOTFOUND and a part above the last, and changes nothing (R95, R96). -/
def Obligations.InvReadReports : Prop :=
  ∀ (tag : Byte) (s : State), s.powered = true →
    (∀ n k v, 1 ≤ n → n ≤ 99999 → s.invoices.find n = some v →
      exec (.invRead tag n k) s =
        if (v.chests.length + 15) / 16 < k then .next (s.reply tag 0x18 (.refused .range))
        else if k = 0 then .next (s.reply tag 0x18 (.ok (.invoice v.record v.chests.length)))
        else .next (s.reply tag 0x18 (.ok (.chests v.chests.length ((v.chests.drop (16 * (k - 1))).take 16))))) ∧
    (∀ n k, 1 ≤ n → n ≤ 99999 → s.invoices.find n = none →
      exec (.invRead tag n k) s = .next (s.reply tag 0x18 (.refused .notFound))) ∧
    (∀ k, k ≠ 0 → exec (.invRead tag 0 k) s = .next (s.reply tag 0x18 (.refused .range))) ∧
    ∃ lines, lines.Perm (s.invoices.invoices.map fun v =>
        (⟨v.record.number, v.record.state, v.chests.length, v.record.packages, v.record.bulkRun⟩ : InvoiceLine)) ∧
      lines.Pairwise (fun x y => x.number ≤ y.number) ∧
      exec (.invRead tag 0 0) s =
        .next (s.reply tag 0x18 (.ok (.invSummary lines s.invoices.nextSerial s.invoices.queues)))

/-- A stencil status arrival sets the status of the chest of its serial, a removal none, and nothing else; a sample mark in
OPEN, FULL or WAITING sets the chest's flag and adds its grams up to 99,999 g, in CLOSING or SHEETED only offers
SAMPLE-LATE, and for no chest of the table does nothing (R91, R93). -/
def Obligations.StatusesAndSampleMarksReachTheChest : Prop :=
  ∀ (s : State) (serial : Nat), s.powered = true →
    (∀ (a : StatusArrival) (st : StencilStatus),
      (a, st) ∈ [(StatusArrival.queued, StencilStatus.pending), (.refused, .missed), (.started, .marking),
        (.lineAcknowledged, .marked), (.skipped, .abandoned), (.dropped, .abandoned)] →
      exec (.stencilStatus serial a) s = .next { s.taken (.stencilStatus serial a) with
        invoices := { s.invoices with
          invoices := s.invoices.invoices.map fun v =>
            { v with chests := v.chests.map fun c => if c.serial == serial then { c with status := st } else c } } }) ∧
    exec (.stencilStatus serial .removed) s = .next (s.taken (.stencilStatus serial .removed)) ∧
    ∀ grams : Nat,
      let u := s.taken (.sampleMark serial grams)
      ((∀ v ∈ s.invoices.invoices, ∀ c ∈ v.chests, c.serial ≠ serial) →
        exec (.sampleMark serial grams) s = .next u) ∧
      ∀ v c, s.invoices.findSerial serial = some (v, c) →
        (v.record.state = .closing ∨ v.record.state = .sheeted →
          exec (.sampleMark serial grams) s =
            .next (u.notify (.sampleLate v.record.number c.number serial grams))) ∧
        (v.record.state = .opened ∨ v.record.state = .full ∨ v.record.state = .waiting →
          exec (.sampleMark serial grams) s = .next { u with
            invoices := { s.invoices with
              invoices := s.invoices.invoices.map fun w =>
                { record := if w.record.number == v.record.number then
                    { w.record with allowance := min 99999 (w.record.allowance + grams) } else w.record
                  chests := w.chests.map fun d => if d.serial == serial then { d with sample := true } else d } } })

/-! ### Event vectors and action sets -/

/-- VECTOR-SET and ACTION-SET-WRITE are refused with RANGE where a number, a kind or a parameter lies outside its range;
otherwise a vector entry takes its value, and a set its written part, its live flag the written one and its count the
reload, in every state, whatever the parameter bytes that its kind does not use (spec/11). ACTION-SET-READ and VECTOR-READ
report and change nothing (R101, R102, R103, R112, R113). -/
def Obligations.ActionTablesAreSetAndRead : Prop :=
  ∀ (tag : Byte) (s : State), s.powered = true →
    (∀ (source : Fin 20) (set : Option (Fin 32)),
      exec (.vectorSet tag source (set.map Fin.val)) s = .next (State.reply
        { s with actions := { s.actions with vectors := s.actions.vectors.set source set } } tag 0x1E
        (.ok (.vectors (s.actions.vectors.set source set))))) ∧
    (∀ (n : Nat) (set : Option Nat), (20 ≤ n ∨ ∃ k, set = some k ∧ 32 ≤ k) →
      exec (.vectorSet tag n set) s = .next (s.reply tag 0x1E (.refused .range))) ∧
    exec (.vectorRead tag) s = .next (s.reply tag 0x1F (.ok (.dispatcher s.actions.vectors s.actions.sets
      (s.actions.gates.map fun p => p.map fun q => q.length - q.run)))) ∧
    (∀ (i : Fin 32) (w : WrittenSet) (f : ActionSetFields), w.action.inRange → 1 ≤ w.reload → w.reload ≤ 256 →
      (i = 31 → w.chain = false) →
      f = { setFields w with
        first := if f.kind = 3 then f.first else (setFields w).first
        second := if f.kind = 2 then f.second else (setFields w).second } →
      exec (.actionSetWrite tag i f) s =
        .next ((s.setActionSet i ⟨w, w.enabled, w.reload⟩).reply tag 0x20 (.ok (.actionSet ⟨w, w.enabled, w.reload⟩)))) ∧
    (∀ (n : Nat) (f : ActionSetFields),
      (32 ≤ n ∨ 2 ≤ f.enabled ∨ 4 ≤ f.kind ∨ (f.kind = 0 ∧ (2 ≤ f.first ∨ 8 ≤ f.second)) ∨
        (f.kind = 1 ∧ (8 ≤ f.first ∨ f.second < 50 ∨ 2000 < f.second)) ∨ (f.kind = 2 ∧ 255 < f.first) ∨
        (f.kind = 3 ∧ (f.second = 0 ∨ 2000 < f.second)) ∨ 2 ≤ f.actOn ∨ 2 ≤ f.mode ∨ f.reload = 0 ∨ 256 < f.reload ∨
        2 ≤ f.notify ∨ 2 ≤ f.chain ∨ (n = 31 ∧ f.chain = 1)) →
      exec (.actionSetWrite tag n f) s = .next (s.reply tag 0x20 (.refused .range))) ∧
    (∀ i : Fin 32, exec (.actionSetRead tag i) s = .next (s.reply tag 0x21 (.ok (.actionSet s.actions.sets[i])))) ∧
    ∀ n, 31 < n → exec (.actionSetRead tag n) s = .next (s.reply tag 0x21 (.refused .range))

/-- An event whose vector is NONE or names a disabled set does nothing; otherwise the sets of its chain, each one the next
after the last, run in order on the same context, until a chain flag is clear, the next set is disabled, or the eighth has
run, and a chain flag of the eighth sends CHAIN-CUT. A pulse's end takes its line low. What one set does with an event: a
STENCIL or SAMPLE set is skipped without a chest serial and then counts nothing; else the action is handed on at every run
or, with act-on EXPIRY, when the count reaches 0, the count falls by one, and at 0 a NORMAL set is disabled and reports it
while a REPEAT set takes its reload and reports it when its flag is set (R99, R100, R104 to R111). A pulse's end commanded
before its length has its effect (log 8). -/
def Obligations.EventsRunTheirChains : Prop :=
  (∀ (s : State) (source : Fin 20) (x : EventContext), s.powered = true →
     (∀ line : Fin 8, exec (.gatePulseEnd line) s =
       .next { s with actions := { s.actions with gates := s.actions.gates.set line none } }) ∧
     let u := s.taken (.event source x)
     (s.actions.vectors[source] = none → exec (.event source x) s = .next u) ∧
     (∀ i, s.actions.vectors[source] = some i → s.actions.sets[i].live = false →
       exec (.event source x) s = .next u) ∧
     ∀ (front : List (Fin 32)) (last : Fin 32), front.length ≤ 7 →
       s.actions.vectors[source] = (front ++ [last]).head? →
       (∀ k j : Nat, ∀ a b : Fin 32, j = k + 1 → (front ++ [last])[k]? = some a → (front ++ [last])[j]? = some b →
         b.val = a.val + 1) →
       (∀ i ∈ front ++ [last], s.actions.sets[i].live = true) →
       (∀ i ∈ front, s.actions.sets[i].written.chain = true) →
       let run := (front ++ [last]).foldl (fun v i => runSet i source x v) u
       (s.actions.sets[last].written.chain = false → exec (.event source x) s = .next run) ∧
       (s.actions.sets[last].written.chain = true → front.length < 7 →
         (∀ k : Fin 32, k.val = last.val + 1 → s.actions.sets[k].live = false) →
         exec (.event source x) s = .next run) ∧
       (s.actions.sets[last].written.chain = true → front.length = 7 →
         exec (.event source x) s = .next (run.notify (.chainCut source last)))) ∧
  (∀ (i : Fin 32) (source : Fin 20) (x : EventContext) (s : State),
     let a := s.actions.sets[i]
     (x.serial = none →
       (∀ h t, a.written.action = .stencil h t →
         runSet i source x s = s.notify (.actionSkipped i source .stencil)) ∧
       (∀ g, a.written.action = .sample g → runSet i source x s = s.notify (.actionSkipped i source .sample))) ∧
     ((x.serial ≠ none ∨ (∃ line n, a.written.action = .gate line n) ∨ ∃ code, a.written.action = .notice code) →
       1 ≤ a.count →
       let acted : State := match a.written.action with
         | .stencil h t => s.send (.stencilJobRequest h t (x.serial.getD 0) (x.invoice.getD 0))
         | .gate line length => s.setGate line (some ⟨0, length⟩)
         | .notice code => s.notify (.user code i source x)
         | .sample grams => s.send (.sampleMark (x.serial.getD 0) grams)
       let u := if a.written.actOn = .every ∨ a.count = 1 then acted else s
       (1 < a.count → runSet i source x s = u.setActionSet i { a with count := a.count - 1 }) ∧
       (a.count = 1 → a.written.mode = .normal → runSet i source x s =
         (u.setActionSet i { a with live := false, count := 0 }).notify (.setExhausted i .normal source)) ∧
       (a.count = 1 → a.written.mode = .repeats → runSet i source x s =
         if a.written.notify = true then
           (u.setActionSet i { a with count := a.written.reload }).notify (.setExhausted i .repeats source)
         else u.setActionSet i { a with count := a.written.reload })))

/-! ### Stencilling -/

/-- The bytes of a TEMPLATE-LOAD are read as a template exactly when they are the bytes of a valid one, which then replaces
the template whole; any other bytes are refused with RANGE and leave it; TEMPLATE-READ reports it (R115, R116, R117, R204;
the decimals of a field that is no weight are kept as loaded, log 34). Every line is composed to exactly its length,
whatever the values, and is its items in their order, each literal's text or its field's figure: text is cut or padded, a
number too wide is shown as number signs, and a lot that is none as spaces (R118). GARDEN and GRADE show the mark without
the spaces that end it (R119); INVOICE, CHEST, OF and LOT show decimal digits without leading zeros (R120); a weight is
shown in kilograms, rounded with halves away from zero to a tenth or a hundredth, with a sign only before a figure below
zero (R121); and MFGDATE shows day, month and year in ten characters (R122). -/
def Obligations.TemplatesAreReadAndComposed : Prop :=
  ((∀ (bytes : List Byte) (c : Template), readTemplate bytes = some c ↔ templateValid c ∧ templateBytes c = bytes) ∧
     ∀ (tag : Byte) (s : State) (t : Fin 8), s.powered = true →
       (∀ c, templateValid c → (templateBytes c).length ≤ 246 →
         exec (.templateLoad tag t (templateBytes c)) s = .next (State.reply
           { s with stencils := { s.stencils with templates := s.stencils.templates.set t c } } tag 0x22
           (.ok (.templateLoaded t (c.map lineLength))))) ∧
       (∀ bytes, bytes.length ≤ 246 → (∀ c, templateValid c → templateBytes c ≠ bytes) →
         exec (.templateLoad tag t bytes) s = .next (s.reply tag 0x22 (.refused .range))) ∧
       (∀ n bytes, 7 < n → bytes.length ≤ 246 →
         exec (.templateLoad tag n bytes) s = .next (s.reply tag 0x22 (.refused .range))) ∧
       exec (.templateRead tag t) s = .next (s.reply tag 0x23 (.ok (.template s.stencils.templates[t])))) ∧
  ((∀ (r : InvoiceRecord) (c : Snapshot) (items : List Item), (composeLine r c items).length = lineLength items) ∧
     (∀ (r : InvoiceRecord) (c : Snapshot) (rest : List Item),
       composeLine r c [] = [] ∧
       (∀ t : Text, composeLine r c (.literal t :: rest) = t ++ composeLine r c rest) ∧
       ∀ (name : FieldName) (width : Nat) (right : Bool) (decimals : Nat),
         composeLine r c (.field name width right decimals :: rest) =
           fieldText r c name width right decimals ++ composeLine r c rest) ∧
     (∀ (width : Nat) (t : Text) (right : Bool),
       (width < t.length → showNumber width right t = .replicate width 0x23) ∧
       (t.length ≤ width →
         showNumber width right t = (if right then spaces (width - t.length) ++ t else t ++ spaces (width - t.length)) ∧
         showText width right t = showNumber width right t) ∧
       (width < t.length → showText width right t = t.take width)) ∧
     ∀ (r : InvoiceRecord) (c : Snapshot) (width : Nat) (right : Bool) (decimals : Nat),
       fieldText r c .chest width right decimals = showNumber width right (decimal c.chest) ∧
       fieldText r c .of width right decimals = showNumber width right (decimal r.packages) ∧
       fieldText r c .gross width right decimals = showNumber width right (weightText decimals c.gross) ∧
       fieldText r c .actual width right decimals = showNumber width right (weightText decimals c.net) ∧
       fieldText r c .net width right decimals = showNumber width right (weightText decimals r.declaredNet) ∧
       fieldText r c .tare width right decimals = showNumber width right (weightText decimals r.tare) ∧
       (∀ lot, r.lot = .bound lot → fieldText r c .lot width right decimals = showNumber width right (decimal lot)) ∧
       ((∀ lot, r.lot ≠ .bound lot) → fieldText r c .lot width right decimals = spaces width) ∧
       fieldText r c .invoice width right decimals = showNumber width right (decimal r.number) ∧
       (∀ (t : Text) (k : Nat), t.getLast? ≠ some 0x20 →
         (r.garden = t ++ .replicate k 0x20 → fieldText r c .garden width right decimals = showText width right t) ∧
         (r.grade = t ++ .replicate k 0x20 → fieldText r c .grade width right decimals = showText width right t)) ∧
       (let digit (n : Nat) : Byte := BitVec.ofNat 8 (48 + n % 10)
        r.date.day < 100 → r.date.month < 100 → r.date.year < 10000 →
         fieldText r c .mfgDate width right decimals = showNumber width right
           [digit (r.date.day / 10), digit r.date.day, 0x2F, digit (r.date.month / 10), digit r.date.month, 0x2F,
             digit (r.date.year / 1000), digit (r.date.year / 100), digit (r.date.year / 10), digit r.date.year])) ∧
  (∀ n : Nat, n < 10 ^ 16 →
     (decimal n).foldl (fun v b => 10 * v + (b.toNat - 48)) 0 = n ∧
     (∀ b ∈ decimal n, 48 ≤ b.toNat ∧ b.toNat ≤ 57) ∧ decimal n ≠ [] ∧
     (n ≠ 0 → (decimal n).head? ≠ some 0x30) ∧ decimal 0 = [0x30]) ∧
  (∀ w : Int,
     let digit (n : Nat) : Byte := BitVec.ofNat 8 (48 + n % 10)
     let sign (z : Int) : Text := if z < 0 then [0x2D] else []
     (∃ z : Int, weightText 2 w = sign z ++ decimal (z.natAbs / 100) ++ [0x2E, digit (z.natAbs / 10), digit z.natAbs] ∧
       2 * (w - 10 * z).natAbs ≤ 10 ∧ (2 * (w - 10 * z).natAbs = 10 → w.natAbs < (10 * z).natAbs)) ∧
     ∃ z : Int, weightText 1 w = sign z ++ decimal (z.natAbs / 10) ++ [0x2E, digit z.natAbs] ∧
       2 * (w - 100 * z).natAbs ≤ 100 ∧ (2 * (w - 100 * z).natAbs = 100 → w.natAbs < (100 * z).natAbs))

/-- A job request of a STENCIL action is refused as a duplicate when its serial has a job and as full when the queue holds
eight, each with its status and STENCIL-MISSED; STENCIL-REQUEST is refused RANGE, NOTFOUND, CONFLICT or FULL and sends
nothing; otherwise the chest becomes PENDING and the job, with the chest's number, gross and net as its snapshot, joins the
end of the queue, and an IDLE channel takes the front job; a removal takes a queued job away and nothing else. A job that an
IDLE channel takes: with an empty template its chest becomes ABANDONED and it is dropped EMPTY; with no snapshot, or its
chest gone from its invoice, it is dropped GONE; otherwise the lot binding is resolved when it was UNRESOLVED, the chest is
MARKING, every line is composed, and the channel streams line 0, or ends it at once when it has no character (R92, R94, R123
to R125, R127, R129, R130, R142). The model's choices: the exchange with the invoice table is whole within the step, the
statuses in transit taken before it (log 4), STENCIL-REQUEST reports the place on joining, also where an IDLE channel takes
or drops the job in the same step (log 39), and `out`, what was handed to the head, is the model's own field (log 26). -/
def Obligations.JobsJoinAndStart : Prop :=
  (∀ (tag : Byte) (s : State) (i : Fin 2) (template : Fin 8) (n : Nat), s.powered = true → 1 ≤ n → n ≤ 99999 →
     let joined (u : State) (j : Job) : State :=
       (u.takeStatuses.setStatus j.serial .pending).setHead i
         { s.stencils.heads[i] with queue := s.stencils.heads[i].queue ++ [j] }
     (∀ serial : Nat,
       let u := s.taken (.stencilJobRequest i template serial n)
       let missed (reason : MissReason) := (u.send (.stencilStatus serial .refused)).notify
         (.stencilMissed i template serial n reason)
       (s.stencils.hasJob serial = true →
         exec (.stencilJobRequest i template serial n) s = .next (missed .duplicate)) ∧
       (s.stencils.hasJob serial = false → 8 ≤ s.stencils.heads[i].queue.length →
         exec (.stencilJobRequest i template serial n) s = .next (missed .full)) ∧
       (s.stencils.hasJob serial = false → s.stencils.heads[i].queue.length < 8 →
         exec (.stencilJobRequest i template serial n) s = .next (takeNext i (joined u
           ⟨serial, n, template, (s.invoices.findSerial serial).map fun p => ⟨p.2.number, p.2.gross, p.2.net⟩,
             .action⟩))) ∧
       exec (.jobRemoval serial) s = .next { s.taken (.jobRemoval serial) with
         stencils := { s.stencils with
           heads := s.stencils.heads.map fun h => { h with queue := h.queue.filter fun j => j.serial != serial } } }) ∧
     (∀ k, k = 0 ∨ 120 < k →
       exec (.stencilRequest tag i template n k) s = .next (s.reply tag 0x24 (.refused .range))) ∧
     (∀ k, 1 ≤ k → k ≤ 120 → (∀ v, s.invoices.find n = some v → v.chests.length < k) →
       exec (.stencilRequest tag i template n k) s = .next (s.reply tag 0x24 (.refused .notFound))) ∧
     ∀ k v c, k < 120 → s.invoices.find n = some v → v.chests[k]? = some c →
       (s.stencils.hasJob c.serial = true →
         exec (.stencilRequest tag i template n (k + 1)) s = .next (s.reply tag 0x24 (.refused .conflict))) ∧
       (s.stencils.hasJob c.serial = false → 8 ≤ s.stencils.heads[i].queue.length →
         exec (.stencilRequest tag i template n (k + 1)) s = .next (s.reply tag 0x24 (.refused .full))) ∧
       (s.stencils.hasJob c.serial = false → s.stencils.heads[i].queue.length < 8 →
         exec (.stencilRequest tag i template n (k + 1)) s =
           .next ((takeNext i (joined s ⟨c.serial, n, template, some ⟨c.number, c.gross, c.net⟩, .request⟩)).reply tag 0x24
             (.ok (.stencilQueued i c.serial (s.stencils.heads[i].queue.length + 1)))))) ∧
  (∀ (s : State) (i : Fin 2),
     (s.stencils.heads[i].state ≠ .idle → takeNext i s = s) ∧
     (s.stencils.heads[i].state = .idle → s.stencils.heads[i].queue = [] → takeNext i s = s) ∧
     ∀ (j : Job) (rest : List Job), s.stencils.heads[i].state = .idle → s.stencils.heads[i].queue = j :: rest →
     let template := s.stencils.templates[j.template]
     takeNext i s = takeJobs i (j :: rest) s ∧
     (∀ u : State, takeJobs i [] u = u.setHead i { u.stencils.heads[i] with queue := [] }) ∧
     (template = [] → takeJobs i (j :: rest) s = takeJobs i rest
       ((s.send (.stencilStatus j.serial .skipped)).notify (.stencilDropped i j.serial j.invoice .empty))) ∧
     (template ≠ [] → j.snapshot = none →
       takeJobs i (j :: rest) s = takeJobs i rest (s.notify (.stencilDropped i j.serial j.invoice .gone))) ∧
     (template ≠ [] → j.snapshot ≠ none →
       (∀ v, s.invoices.find j.invoice = some v → ∀ c ∈ v.chests, c.serial ≠ j.serial) →
       takeJobs i (j :: rest) s =
         takeJobs i rest (s.takeStatuses.notify (.stencilDropped i j.serial j.invoice .gone))) ∧
     ∀ c v, template ≠ [] → j.snapshot = some c → s.invoices.find j.invoice = some v →
       (∃ d ∈ v.chests, d.serial = j.serial) →
       ∃ lot : LotBinding,
         (v.record.lot ≠ .unresolved → lot = v.record.lot) ∧
         (v.record.lot = .unresolved → lot = match s.store.lotOf j.invoice with
           | some (_, n) => .bound n
           | none => .none) ∧
         let lines := template.map (composeLine { v.record with lot := lot } c)
         takeJobs i (j :: rest) s =
           ((s.takeStatuses.updateRecord j.invoice fun r =>
             if r.lot = .unresolved then { r with lot := s.store.binding j.invoice } else r).setStatus
               j.serial .marking).setHead i { s.stencils.heads[i] with
             queue := rest, inHand := some ⟨j, lines, 0, 0⟩, resume := .none
             state := if lines.head? = some [] then .lineWait else .streaming
             ackTimer := if lines.head? = some [] then some 0 else none
             out := if lines.head? = some [] then [.endOfLine] else s.stencils.heads[i].out })

/-- What arrives from a head: in STREAMING each character handed raises the position, and the last is followed by the
end-of-line mark, the acknowledge timer and LINE-WAIT; an acknowledge in LINE-WAIT begins the next line, or ends the job
with MARKED, STENCIL-DONE and the next job taken; the timer's expiry in LINE-WAIT stops the channel with HEAD-STOPPED; a
fault holds it with its resume point, HEAD-HELD and its event; in every other state each is without effect (R130, R131,
R132, R133; what was handed over stands in the model's own field `out`, log 26). That a character taken outside STREAMING
and an expiry outside LINE-WAIT are without effect is log 7, and that an expiry commanded before its limit has its effect is
log 8. -/
def Obligations.HeadArrivalsMoveTheChannel : Prop :=
  ∀ (s : State) (i : Fin 2), s.powered = true →
    let h := s.stencils.heads[i]
    (h.state ≠ .streaming → exec (.characterSent i) s = .next s) ∧
    (h.state ≠ .lineWait → exec (.lineAcknowledge i) s = .next s ∧ exec (.ackTimerExpiry i) s = .next s) ∧
    (h.state = .held ∨ h.state = .off → exec (.headFault i) s = .next s) ∧
    (h.state = .idle → exec (.headFault i) s = .next
      (((s.setHead i { h with state := .held, resume := .none, ackTimer := none }).notify
        (.headHeld i .idle (h.inHand.map fun j => j.job.serial) (h.inHand.map fun j => j.job.invoice) .none)).raise
          ⟨16 + i.val, by omega⟩ ⟨none, h.inHand.map fun j => j.job.invoice, none⟩)) ∧
    ∀ (j : JobInHand) (text : Text), h.inHand = some j → j.lines[j.line]? = some text →
      let held (p : ResumePoint) : State :=
        ((s.setHead i { h with state := .held, resume := p, ackTimer := none }).notify
          (.headHeld i h.state (some j.job.serial) (some j.job.invoice) p)).raise ⟨16 + i.val, by omega⟩
            ⟨none, some j.job.invoice, none⟩
      (∀ c, h.state = .streaming → text[j.position]? = some c →
        exec (.characterSent i) s = .next (s.setHead i
          (if j.position + 1 = text.length then { h with
            state := .lineWait, inHand := some { j with position := j.position + 1 }, resume := .none
            ackTimer := some 0, out := [.char c, .endOfLine] }
          else { h with inHand := some { j with position := j.position + 1 }, out := [.char c] }))) ∧
      (h.state = .lineWait → ∀ next, j.lines[j.line + 1]? = some next →
        exec (.lineAcknowledge i) s = .next (s.setHead i
          (if next = [] then { h with
            state := .lineWait, inHand := some { j with line := j.line + 1, position := 0 }, resume := .none
            ackTimer := some 0, out := [.endOfLine] }
          else { h with
            state := .streaming, inHand := some { j with line := j.line + 1, position := 0 }, resume := .none
            ackTimer := none }))) ∧
      (h.state = .lineWait → j.lines[j.line + 1]? = none → ∀ c, j.job.snapshot = some c →
        exec (.lineAcknowledge i) s = .next (takeNext i
          (((s.send (.stencilStatus j.job.serial .lineAcknowledged)).notify
            (.stencilDone i j.job.serial j.job.invoice c.chest)).setHead i
              { h with state := .idle, inHand := none, resume := .none, ackTimer := none }))) ∧
      (h.state = .lineWait → exec (.ackTimerExpiry i) s = .next
        ((s.setHead i { h with state := .stopped, ackTimer := none }).notify
          (.headStopped i j.job.serial j.job.invoice j.line))) ∧
      (h.state = .streaming →
        exec (.headFault i) s = .next (held (.midLine j.line (text.length - j.position)))) ∧
      (h.state = .lineWait ∨ h.state = .stopped → exec (.headFault i) s = .next (held (.atLineEnd j.line)))

/-- The recovery requests: HEAD-RESUME continues a HELD channel from its resume point; HEAD-RELINE sends the current line
again from its start and HEAD-SKIP gives the job in hand up, both in HELD or STOPPED with a job; HEAD-RESET and HEAD-SET OFF
drop every job in order; HEAD-SET ON moves OFF to IDLE; elsewhere they are refused with STATE; HEAD-READ reports (R134 to
R139; a resume with no job answers IDLE, log 32). That HEAD-RESET drops the jobs queued in OFF too, where R138 says that
they start, is the model's choice (log 45). That 0 is ON and 1 OFF is read from R201 (log 18), and `out`, what the command
handed to the head, is the model's own field (log 26). -/
def Obligations.HeadRequestsRecover : Prop :=
  ∀ (tag : Byte) (s : State) (i : Fin 2), s.powered = true →
    let h := s.stencils.heads[i]
    let free : Head := { h with inHand := none, resume := .none, ackTimer := none }
    (h.state ≠ .held → exec (.headResume tag i) s = .next (s.reply tag 0x25 (.refused .state))) ∧
    ((h.state ≠ .held ∧ h.state ≠ .stopped) ∨ h.inHand = none →
      exec (.headReline tag i) s = .next (s.reply tag 0x26 (.refused .state)) ∧
      exec (.headSkip tag i) s = .next (s.reply tag 0x27 (.refused .state))) ∧
    (h.state = .held → h.inHand = none → exec (.headResume tag i) s =
      .next ((takeNext i (s.setHead i { free with state := .idle })).reply tag 0x25 (.ok (.headState .idle)))) ∧
    (∀ (j : JobInHand) (text : Text), h.inHand = some j → j.lines[j.line]? = some text →
      (∀ line left, h.state = .held → h.resume = .midLine line left → j.position < text.length →
        exec (.headResume tag i) s = .next ((s.setHead i { h with
          state := .streaming, resume := .none, ackTimer := none }).reply tag 0x25 (.ok (.headState .streaming)))) ∧
      (∀ line, h.state = .held → h.resume = .atLineEnd line →
        exec (.headResume tag i) s = .next ((s.setHead i { h with
          state := .lineWait, resume := .none, ackTimer := some 0, out := [.endOfLine] }).reply tag 0x25
            (.ok (.headState .lineWait)))) ∧
      (h.state = .held ∨ h.state = .stopped →
        exec (.headReline tag i) s = .next ((s.setHead i
          (if text = [] then { h with
            state := .lineWait, inHand := some { j with position := 0 }, resume := .none, ackTimer := some 0
            out := [.endOfLine] }
          else { h with
            state := .streaming, inHand := some { j with position := 0 }, resume := .none, ackTimer := none })).reply
              tag 0x26 (.ok .done)) ∧
        exec (.headSkip tag i) s = .next ((takeNext i
          ((s.send (.stencilStatus j.job.serial .skipped)).setHead i { free with state := .idle })).reply tag 0x27
            (.ok (.serial j.job.serial))))) ∧
    (let jobs := (h.inHand.map fun j => j.job).toList ++ h.queue
     let dropped (st : HeadState) : State :=
      { s with
        transit := s.transit ++ jobs.map fun j => .stencilStatus j.serial .dropped
        stencils := { s.stencils with heads := s.stencils.heads.set i { free with state := st, queue := [] } } }
     exec (.headReset tag i) s = .next ((dropped .idle).reply tag 0x28 (.ok (.serials (jobs.map fun j => j.serial)))) ∧
     exec (.headSet tag i 1) s = .next ((dropped .off).reply tag 0x29 (.ok (.serials (jobs.map fun j => j.serial))))) ∧
    (h.state ≠ .off → exec (.headSet tag i 0) s = .next (s.reply tag 0x29 (.ok (.headState h.state)))) ∧
    (h.state = .off → h.queue = [] → exec (.headSet tag i 0) s =
      .next ((s.setHead i { free with state := .idle }).reply tag 0x29 (.ok (.headState .idle)))) ∧
    (h.state = .off → h.queue ≠ [] → ∃ st : HeadState, exec (.headSet tag i 0) s =
      .next ((takeNext i (s.setHead i { free with state := .idle })).reply tag 0x29 (.ok (.headState st))) ∧
        st = (takeNext i (s.setHead i { free with state := .idle })).stencils.heads[i].state) ∧
    exec (.headRead tag i) s = .next (s.reply tag 0x2A (.ok (.head
      { state := h.state
        inHand := h.inHand.map fun j => ⟨j.job.serial, j.job.invoice, j.job.template, j.lines.length, j.line, j.position,
          ((j.lines[j.line]?).getD []).length - j.position, j.job.snapshot⟩
        resume := if h.state = .held then h.resume else .none
        ackLeft := if h.state = .lineWait then h.ackTimer.map fun t => 3000 - t else none
        queue := h.queue })))

/-! ### Catalogue windows, sheets and the record store -/

/-- WINDOW-SET takes all four fields at once or is refused with RANGE; WINDOW-READ reports the windows and, for a number
1..99,999, the lowest-numbered enabled window that covers it with the lot base + (number - base), or NONE (R142, R143,
R144). -/
def Obligations.WindowsGiveTheLot : Prop :=
  ∀ (tag : Byte) (s : State), s.powered = true →
    (∀ (i : Fin 4) (f : WindowFields) (enabled : Bool), f.enabled = flagCode enabled →
      exec (.windowSet tag i f) s =
        if (f.span = 10 ∨ f.span = 100 ∨ f.span = 1000) ∧ f.base ≤ 99999 ∧ f.span ∣ f.base ∧ 1 ≤ f.lotBase ∧
            f.lotBase ≤ 99999 ∧ f.lotBase + f.span - 1 ≤ 99999 then
          .next (State.reply { s with store := { s.store with
            windows := s.store.windows.set i ⟨f.base, f.span, f.lotBase, enabled⟩ } } tag 0x2B
            (.ok (.windows (s.store.windows.set i ⟨f.base, f.span, f.lotBase, enabled⟩) none)))
        else .next (s.reply tag 0x2B (.refused .range))) ∧
    (∀ n f, 3 < n ∨ 2 ≤ f.enabled → exec (.windowSet tag n f) s = .next (s.reply tag 0x2B (.refused .range))) ∧
    exec (.windowRead tag none) s = .next (s.reply tag 0x2C (.ok (.windows s.store.windows none))) ∧
    (∀ n, n = 0 ∨ 99999 < n → exec (.windowRead tag (some n)) s = .next (s.reply tag 0x2C (.refused .range))) ∧
    ∀ n, 1 ≤ n → n ≤ 99999 →
      let covers (w : Window) : Prop := w.enabled = true ∧ w.base ≤ n ∧ n < w.base + w.span
      ((∀ i : Fin 4, ¬ covers s.store.windows[i]) →
        exec (.windowRead tag (some n)) s = .next (s.reply tag 0x2C (.ok (.windows s.store.windows (some none))))) ∧
      ∀ i : Fin 4, covers s.store.windows[i] → (∀ j : Fin 4, j < i → ¬ covers s.store.windows[j]) →
        exec (.windowRead tag (some n)) s = .next (s.reply tag 0x2C (.ok (.windows s.store.windows
          (some (some (i, s.store.windows[i].lotBase + (n - s.store.windows[i].base)))))))

/-- A sheet request of a CLOSING invoice needs 3 + ceil(n / 8) slots. With an empty waiting line they are reserved at the
free point when they fit on its page, or at the start of the next page of the ring when that page is free; otherwise, and
whenever the waiting line holds an invoice, the invoice joins the waiting line, becomes WAITING and INVOICE-WAITING is
offered. The builder begins a build when the front of the build line has none begun: the lot is resolved when it was
UNRESOLVED, and the head is written with the values of the record and its chest list, the sums over the whole list and the
clock's reading; with no reserved sheet, or the front one already begun, nothing happens (R145, R146, R148, R149, R150). -/
def Obligations.SheetsAreReservedAndBegun : Prop :=
  (∀ (s : State) (n : Nat) (v : Invoice), s.powered = true → s.invoices.find n = some v → v.record.state = .closing →
     n ∉ s.store.waiting → (∀ h ∈ s.store.sheets, h.invoice = n → h.written = true) →
     let u := s.taken (.sheetRequest n)
     let z := 3 + (v.chests.length + 7) / 8
     let next := (s.store.freePage + 1) % 24
     let reserved (page slot : Nat) : State := { u with store := { s.store with
       sheets := s.store.sheets ++ [⟨n, v.chests.length, page, slot, z, false, none, []⟩]
       freePage := page, freeSlot := slot + z } }
     s.store.freePage < 24 →
     (s.store.waiting = [] → s.store.freeSlot + z ≤ 32 →
       exec (.sheetRequest n) s = .next (beginBuild (reserved s.store.freePage s.store.freeSlot))) ∧
     (s.store.waiting = [] → 32 < s.store.freeSlot + z → (∀ h ∈ s.store.sheets, h.page ≠ next) →
       exec (.sheetRequest n) s = .next (beginBuild (reserved next 0))) ∧
     (s.store.waiting ≠ [] ∨ (32 < s.store.freeSlot + z ∧ ∃ h ∈ s.store.sheets, h.page = next) →
       exec (.sheetRequest n) s = .next ((State.setInvoiceState
         { u with store := { s.store with waiting := s.store.waiting ++ [n] } } n .waiting).notify
           (.invoiceWaiting n z (s.store.waiting.length + 1))))) ∧
  (∀ (s : State) (front back : List Sheet),
     (∀ h ∈ front, h.written = true) →
     (s.store.sheets = front → beginBuild s = s) ∧
     ∀ h, h.written = false → s.store.sheets = front ++ h :: back →
       (h.head ≠ none → beginBuild s = s) ∧
       ∀ v, h.head = none → s.invoices.find h.invoice = some v → (∀ k ∈ back, k.invoice ≠ h.invoice) →
         ∃ (lot : LotBinding) (hd : SheetHead),
           (v.record.lot ≠ .unresolved → lot = v.record.lot) ∧
           (v.record.lot = .unresolved → lot = s.store.binding h.invoice) ∧
           hd =
             { number := v.record.number, garden := v.record.garden, grade := v.record.grade
               packType := v.record.packType, packages := v.record.packages, declaredNet := v.record.declaredNet
               tare := v.record.tare, totalDeclared := v.record.packages * v.record.declaredNet
               totalGross := (v.chests.map fun c => c.gross).sum, totalActual := (v.chests.map fun c => c.net).sum
               giveaway := (v.chests.map fun c => c.net).sum - ((v.record.packages * v.record.declaredNet : Nat) : Int)
               tightened := v.record.tightened, shortClose := v.record.shortClose, overrun := v.record.overrun
               offProportion := v.record.offProportion, allowance := v.record.allowance, date := v.record.date
               lot := match lot with | .bound k => some k | _ => none
               bulkRun := v.record.bulkRun, time := s.clock.reading } ∧
           ∃ t : State, beginBuild s = t ∧
             t = { s with
               invoices := t.invoices
               store := { s.store with sheets := front ++ { h with head := some hd } :: back } } ∧
             t.invoices.find h.invoice = some { v with record := { v.record with lot := lot } } ∧
             (∀ k, k ≠ h.invoice → t.invoices.find k = s.invoices.find k) ∧ t.invoices.queues = s.invoices.queues ∧
             t.invoices.nextSerial = s.invoices.nextSerial)

/-- The entries of the front sheet are written in chest order, each as its chest stands then; after the last the sheet is
written, the invoice SHEETED, event 13 raised, INVOICE-SHEETED offered, a slot that waits for the sheet READY with the part
it holds, and the next build begins (R146, R151, R152, R156, R186). That CHEST_ENTRY_WRITTEN with no sheet in the build line
has no effect is log 7. -/
def Obligations.EntriesEndTheSheet : Prop :=
  ∀ s : State, s.powered = true →
    ((∀ h ∈ s.store.sheets, h.written = true) → exec .chestEntryWritten s = .next s) ∧
    ∀ (front back : List Sheet) (h : Sheet) (hd : SheetHead) (v : Invoice) (c : Chest),
      s.store.sheets = front ++ h :: back → (∀ k ∈ front, k.written = true) → h.written = false → h.head = some hd →
      (∀ k ∈ back, k.invoice ≠ h.invoice) → s.invoices.find h.invoice = some v →
      v.chests[h.entries.length]? = some c →
      let entries := h.entries ++ [⟨c.station, c.net - v.record.declaredNet, c.status, c.sample⟩]
      let stored (w : Bool) : State := { s with store := { s.store with
        sheets := front ++ { h with entries := entries, written := w } :: back } }
      (h.entries.length + 1 ≠ h.chests → exec .chestEntryWritten s = .next (stored false)) ∧
      (h.entries.length + 1 = h.chests →
        let u := (((stored true).setInvoiceState h.invoice .sheeted).raise 13 ⟨none, some h.invoice, none⟩).notify
          (.invoiceSheeted h.invoice h.page h.first h.slots hd.lot)
        ((∀ i : Fin 4, s.link.slots[i].key ≠ some (.fetch h.invoice)) →
          exec .chestEntryWritten s = .next (beginBuild u)) ∧
        ∀ (i : Fin 4) (part : Nat) (wait : Option Nat), SlotKeysDistinct s →
          s.link.slots[i] = .waiting (.fetch h.invoice) (some part) wait →
          exec .chestEntryWritten s = .next (beginBuild
            ((u.setSlot i (.ready (.fetch h.invoice) (some part) .answer
              (some (.sheet h.invoice part ((h.chests + 39) / 40)
                (if part = 0 then .head hd else .entries ((entries.drop (40 * (part - 1))).take 40)))) 0)).notify
                  (.slotReady i (.fetch h.invoice) .answer))))

/-- SHEET-FETCH: a slot of the invoice answers first; a written sheet is answered at once with the part asked for, a part
above the last being refused with RANGE; an invoice in CLOSING or WAITING takes the lowest FREE slot, or is refused BUSY;
OPEN and FULL are refused with STATE, and a number that nothing carries with NOTFOUND (R155, R156, R184, R185). That an
invoice in CLOSING is answered so also while its sheet request is still on its way is log 21. -/
def Obligations.FetchesAreAnsweredOrKeepASlot : Prop :=
  ∀ (tag : Byte) (s : State) (n k : Nat), s.powered = true → 1 ≤ n → n ≤ 99999 →
    (∀ i part wait, s.link.slots[i] = .waiting (.fetch n) part wait → SlotKeysDistinct s →
      exec (.sheetFetch tag n k) s = .next (s.reply tag 0x2D (.pending i))) ∧
    (∀ i part o a disc, s.link.slots[i] = .ready (.fetch n) part o a disc → SlotKeysDistinct s →
      exec (.sheetFetch tag n k) s =
        .next ((s.setSlot i .free).reply tag 0x2D (.ok (.delivered (some i) (.fetch n) o a)))) ∧
    ((∀ i : Fin 4, s.link.slots[i].key ≠ some (.fetch n)) →
      (∀ (h : Sheet) (hd : SheetHead), h ∈ s.store.sheets → h.invoice = n → h.written = true → h.head = some hd →
        (∀ g ∈ s.store.sheets, g.invoice = n → g = h) →
        exec (.sheetFetch tag n k) s =
          if (h.chests + 39) / 40 < k then .next (s.reply tag 0x2D (.refused .range))
          else .next (s.reply tag 0x2D (.ok (.delivered none (.fetch n) .answer
            (some (.sheet n k ((h.chests + 39) / 40)
              (if k = 0 then .head hd else .entries ((h.entries.drop (40 * (k - 1))).take 40)))))))) ∧
      ((∀ h ∈ s.store.sheets, h.invoice = n → h.written = false) →
        (∀ v, s.invoices.find n = some v → v.record.state = .closing ∨ v.record.state = .waiting →
          ((v.chests.length + 39) / 40 < k →
            exec (.sheetFetch tag n k) s = .next (s.reply tag 0x2D (.refused .range))) ∧
          (k ≤ (v.chests.length + 39) / 40 →
            (∀ i : Fin 4, s.link.slots[i] = .free → (∀ j : Fin 4, j < i → s.link.slots[j] ≠ .free) →
              exec (.sheetFetch tag n k) s =
                .next ((s.setSlot i (.waiting (.fetch n) (some k) none)).reply tag 0x2D (.pending i))) ∧
            ((∀ i : Fin 4, s.link.slots[i] ≠ .free) →
              exec (.sheetFetch tag n k) s = .next (s.reply tag 0x2D (.refused .busy))))) ∧
        (∀ v, s.invoices.find n = some v → v.record.state = .opened ∨ v.record.state = .full →
          exec (.sheetFetch tag n k) s = .next (s.reply tag 0x2D (.refused .state)))) ∧
      ((∀ h ∈ s.store.sheets, h.invoice ≠ n) → s.invoices.find n = none →
        exec (.sheetFetch tag n k) s = .next (s.reply tag 0x2D (.refused .notFound))))

/-- SHEET-RELEASE: NOTFOUND with no stored sheet of the number; STATE unless the sheet is written, the oldest, and named by
no job; otherwise it leaves the store, its invoice leaves the table with a leave report to its run, and when that frees a
page the waiting line is tried from its front, each invoice reserved returning to CLOSING, until one finds no space.
STORE-READ reports and changes nothing (R153, R157, R158, R160). The reply carries the pages in use and the free point as
they stand when the waiting line has been tried, which is the model's reading of R158 (log 20). -/
def Obligations.ReleasesFreeTheOldestSheet : Prop :=
  ∀ (tag : Byte) (s : State), s.powered = true →
    (∀ n, 1 ≤ n → n ≤ 99999 → (∀ h ∈ s.store.sheets, h.invoice ≠ n) →
      exec (.sheetRelease tag n) s = .next (s.reply tag 0x2E (.refused .notFound))) ∧
    (∀ h ∈ s.store.sheets, (∀ g ∈ s.store.sheets, g.invoice = h.invoice → g = h) → 1 ≤ h.invoice → h.invoice ≤ 99999 →
      let n := h.invoice
      (h.written = false ∨ s.store.sheets.head? ≠ some h ∨ (∃ j ∈ s.stencils.jobs, j.invoice = n) →
        exec (.sheetRelease tag n) s = .next (s.reply tag 0x2E (.refused .state))) ∧
      (h.written = true → s.store.sheets.head? = some h → (∀ j ∈ s.stencils.jobs, j.invoice ≠ n) →
        let left := s.store.sheets.filter fun g => g.invoice != n
        let u : State := { s with
          store := { s.store with sheets := left }
          invoices := { s.invoices with invoices := s.invoices.invoices.filter fun v => v.record.number != n }
          bulking := match (s.invoices.find n).bind fun v => v.record.bulkRun with
            | some run => s.bulking.update run fun r => { r with bound := r.bound - 1 }
            | none => s.bulking }
        let t := if (∃ g ∈ left, g.page = h.page) then u else tryWaiting s.store.waiting u
        exec (.sheetRelease tag n) s = .next (t.reply tag 0x2E
          (.ok (.released n t.store.pagesInUse t.store.freePage t.store.freeSlot))))) ∧
    (∀ (n : Nat) (rest : List Nat) (v : Invoice), s.invoices.find n = some v →
      let z := 3 + (v.chests.length + 7) / 8
      let next := (s.store.freePage + 1) % 24
      let reserved (page slot : Nat) : State := { s with store := { s.store with
        sheets := s.store.sheets ++ [⟨n, v.chests.length, page, slot, z, false, none, []⟩]
        freePage := page, freeSlot := slot + z } }
      s.store.freePage < 24 →
      (s.store.freeSlot + z ≤ 32 → tryWaiting (n :: rest) s =
        tryWaiting rest (beginBuild ((reserved s.store.freePage s.store.freeSlot).setInvoiceState n .closing))) ∧
      (32 < s.store.freeSlot + z → (∀ h ∈ s.store.sheets, h.page ≠ next) → tryWaiting (n :: rest) s =
        tryWaiting rest (beginBuild ((reserved next 0).setInvoiceState n .closing))) ∧
      (32 < s.store.freeSlot + z → (∃ h ∈ s.store.sheets, h.page = next) → tryWaiting (n :: rest) s =
        { s with store := { s.store with waiting := n :: rest } })) ∧
    tryWaiting [] s = { s with store := { s.store with waiting := [] } } ∧
    ∀ k, exec (.storeRead tag k) s =
      if (s.store.sheets.length + 31) / 32 < k then .next (s.reply tag 0x2F (.refused .range))
      else if k = 0 then .next (s.reply tag 0x2F (.ok (.storeSummary s.store.freePage s.store.freeSlot
        ((List.range 24).filter fun p => s.store.sheets.any fun h => h.page == p).length s.store.sheets.length
        ((s.store.sheets.length + 31) / 32)
        ((s.store.sheets.find? fun h => !h.written).map fun h => (h.invoice, h.entries.length))
        (s.store.waiting.map fun n => (n, 3 + (((s.invoices.find n).map fun v => v.chests.length).getD 0 + 7) / 8)))))
      else .next (s.reply tag 0x2F (.ok (.storeList ((s.store.sheets.length + 31) / 32)
        (((s.store.sheets.drop (32 * (k - 1))).take 32).map fun h => ⟨h.invoice, h.page, h.first, h.slots, h.written⟩))))

/-! ### The date clock -/

/-- The clock: CLOCK-SET takes a calendar date of 2000..2099 and a time of day and is refused with RANGE otherwise; an
advance raises the second, and past 59 the minute, past 59 the hour, and past 23 the day by the calendar, 2099 followed by
2000; CLOCK-ROUND goes to the nearest whole minute, carried in its reply, and is refused with STATE while UNSET; a midnight
raises event 19 and offers DAY-ROLLOVER with the new date; CLOCK-READ reports (R164, R165, R166, R167, R168). An advance
commanded before its second is full has its effect (log 8). -/
def Obligations.TheClockFollowsTheCalendar : Prop :=
  let days (d : Date) : Nat :=
    if d.month = 2 then (if d.year % 4 = 0 then 29 else 28)
    else if d.month = 4 ∨ d.month = 6 ∨ d.month = 9 ∨ d.month = 11 then 30 else 31
  let real (r : ClockReading) : Prop := 2000 ≤ r.date.year ∧ r.date.year ≤ 2099 ∧ 1 ≤ r.date.month ∧ r.date.month ≤ 12 ∧
    1 ≤ r.date.day ∧ r.date.day ≤ days r.date ∧ r.hour ≤ 23 ∧ r.minute ≤ 59 ∧ r.second ≤ 59
  let tomorrow (d e : Date) : Prop :=
    (d.day < days d ∧ e = ⟨d.year, d.month, d.day + 1⟩) ∨
    (d.day = days d ∧ d.month < 12 ∧ e = ⟨d.year, d.month + 1, 1⟩) ∨
    (d.day = 31 ∧ d.month = 12 ∧ d.year < 2099 ∧ e = ⟨d.year + 1, 1, 1⟩) ∨
    (d.day = 31 ∧ d.month = 12 ∧ d.year = 2099 ∧ e = ⟨2000, 1, 1⟩)
  ∀ (tag : Byte) (s : State), s.powered = true →
    (∀ r, real r → exec (.clockSet tag r) s =
      .next (State.reply { s with clock := ⟨some r, 0⟩ } tag 0x30 (.ok (.clock (some r))))) ∧
    (∀ r, ¬ real r → exec (.clockSet tag r) s = .next (s.reply tag 0x30 (.refused .range))) ∧
    exec (.clockRead tag) s = .next (s.reply tag 0x32 (.ok (.clock s.clock.reading))) ∧
    (s.clock.reading = none → exec .secondAdvance s = .next s ∧
      exec (.clockRound tag) s = .next (s.reply tag 0x31 (.refused .state))) ∧
    ∀ r, s.clock.reading = some r → real r →
      let reading (x : ClockReading) : State := { s with clock := ⟨some x, 0⟩ }
      let midnight (e : Date) : State :=
        ((reading ⟨e, 0, 0, 0⟩).raise 19 ⟨none, none, none⟩).notify (.dayRollover e)
      (r.second < 59 → exec .secondAdvance s = .next (reading { r with second := r.second + 1 })) ∧
      (r.second < 30 → exec (.clockRound tag) s =
        .next ((reading { r with second := 0 }).reply tag 0x31 (.ok (.clockRounded { r with second := 0 })))) ∧
      (r.minute < 59 → ∀ x : ClockReading, x = { r with minute := r.minute + 1, second := 0 } →
        (r.second = 59 → exec .secondAdvance s = .next (reading x)) ∧
        (30 ≤ r.second → exec (.clockRound tag) s = .next ((reading x).reply tag 0x31 (.ok (.clockRounded x))))) ∧
      (r.minute = 59 → r.hour < 23 → ∀ x : ClockReading, x = { r with hour := r.hour + 1, minute := 0, second := 0 } →
        (r.second = 59 → exec .secondAdvance s = .next (reading x)) ∧
        (30 ≤ r.second → exec (.clockRound tag) s = .next ((reading x).reply tag 0x31 (.ok (.clockRounded x))))) ∧
      (r.minute = 59 → r.hour = 23 → ∀ e, tomorrow r.date e →
        (r.second = 59 → exec .secondAdvance s = .next (midnight e)) ∧
        (30 ≤ r.second → exec (.clockRound tag) s =
          .next ((midnight e).reply tag 0x31 (.ok (.clockRounded ⟨e, 0, 0, 0⟩)))))

/-! ### The link controller -/

/-- The transmitter and the dispatcher. A frame being sent stays; a free transmitter begins the oldest reply, and with no
reply the oldest notice (R179). With nothing in hand and no reply of a dispatched request unsent, the front frame leaves the
holding and its request is taken at that moment, as the same request commanded on the state without the frame is; a frame
whose kind is unknown or whose length does not fit is answered REFUSED with UNKNOWN or LENGTH, and the line goes on behind
it (R175, R176, R178). When the line has been served neither the transmitter nor the dispatcher could act (R175, R179). -/
def Obligations.TheLineIsServed : Prop :=
  (∀ l : Link,
     (∀ f, l.sending = some f → l.beginSend = l) ∧
     (∀ r rs, l.sending = none → l.replies = r :: rs →
       l.beginSend = { l with sending := some (.reply r), replies := rs }) ∧
     (∀ k m ms, l.sending = none → l.replies = [] → l.notices = (k, m) :: ms →
       l.beginSend = { l with sending := some (.notice k m), notices := ms }) ∧
     (l.replies = [] → l.notices = [] → l.beginSend = l)) ∧
  (∀ s : State,
     let begun : State := { s with link := s.link.beginSend }
     (s.link.holding = [] ∨ s.link.inHand ≠ none ∨ (∃ r ∈ begun.link.replies, r.busy = false) → s.serve = begun) ∧
     (∀ f rest, s.link.holding = f :: rest → s.link.inHand = none → (∀ r ∈ begun.link.replies, r.busy = true) →
       let u : State := { begun with link := { begun.link with holding := rest } }
       (∀ i, decodeRequest f = .ok i → s.powered = true → s.settings.save = none → exec i u = .next s.serve) ∧
       (decodeRequest f = .error .unknown → s.serve = u.reply f.tag f.kind (.refused .unknown)) ∧
       (decodeRequest f = .error .length → s.serve = u.reply f.tag f.kind (.refused .length))) ∧
     (∀ tag kind form, s.reply tag kind form =
       ({ s with link := { s.link with replies := s.link.replies ++ [⟨tag, kind, form, false⟩] } } : State).serve) ∧
     (s.serve.link.sending = none → s.serve.link.replies = [] ∧ s.serve.link.notices = []) ∧
     (s.serve.link.holding ≠ [] → s.serve.link.inHand ≠ none ∨ ∃ r ∈ s.serve.link.replies, r.busy = false))

/-- STATUS reports flags, speeds, mask, counts and slots as they stand and clears the link-error and notices-lost flags;
NOTICE-MASK sets all seven flags; LINK-SPEED sets the speed setting to one of the three speeds while the line speed stands;
other values are refused with RANGE (R171, R181, R182). A notice whose class is masked is dropped uncounted; any other takes
the counter's number, and joins the end of the queue when that holds fewer than 32, else is dropped with the notices-lost
flag set. A capture slot that has waited its time becomes READY with TIMEOUT, and a READY slot that is not collected is
freed (R180, R186, R187, R188). Each notice is masked by the flag of its class in the class table, the flags in the order
STATION, INVOICE, BULK, STENCIL, ACTION, CLOCK, SLOT (R180, R181). That a slot timer of a slot in another state has no
effect is log 7, and that one commanded before its limit has its effect is log 8. -/
def Obligations.TheLinkAnswersAndKeepsCount : Prop :=
  (∀ n : Notice, (maskPlace (noticeClass n)).val =
    match n with
    | .chestDecided _ _ _ _ _ _ _ | .tareDecided _ _ _ _ | .disturbed _ _ _ _ _ _ | .zeroLimit _ _ | .signalLost _
    | .stationRestarted _ _ | .stationOverload _ _ => 0
    | .invoiceFull _ _ _ | .invoiceOverrun _ | .giveawayHigh _ _ _ _ | .sampleLate _ _ _ _ | .invoiceWaiting _ _ _
    | .invoiceSheeted _ _ _ _ _ => 1
    | .bulkComponentDone _ _ _ _ _ _ | .bulkComplete _ _ _ _ _ | .bulkStalled _ _ _ _ _ => 2
    | .stencilMissed _ _ _ _ _ | .stencilDropped _ _ _ _ | .stencilDone _ _ _ _ | .headStopped _ _ _ _
    | .headHeld _ _ _ _ _ => 3
    | .user _ _ _ _ | .actionSkipped _ _ _ | .setExhausted _ _ _ | .chainCut _ _ => 4
    | .dayRollover _ => 5
    | .slotReady _ _ _ => 6) ∧
  (∀ (tag : Byte) (s : State), s.powered = true →
     exec (.status tag) s = .next (State.reply
       { s with link := { s.link with linkError := false, noticesLost := false } } tag 0x33 (.ok (.status
         { linkError := s.link.linkError, noticesLost := s.link.noticesLost, defaulted := s.settings.defaulted
           clockRunning := s.clock.reading.isSome, lineSpeed := s.link.lineSpeed, speedSetting := s.link.speedSetting
           mask := s.link.mask, holding := s.link.holding.length, notices := s.link.notices.length
           counter := s.link.counter, slots := s.link.slots }))) ∧
     (∀ mask : Vector Bool 7, exec (.noticeMask tag (mask.map flagCode)) s =
       .next (State.reply { s with link := { s.link with mask := mask } } tag 0x34 (.ok (.mask mask)))) ∧
     (∀ (f : Vector Nat 7) (i : Fin 7), 2 ≤ f[i] →
       exec (.noticeMask tag f) s = .next (s.reply tag 0x34 (.refused .range))) ∧
     ∀ v : Nat,
       exec (.linkSpeed tag v) s =
         if v = 19200 ∨ v = 57600 ∨ v = 115200 then
           .next (State.reply { s with link := { s.link with speedSetting := v } } tag 0x35
             (.ok (.speeds v s.link.lineSpeed)))
         else .next (s.reply tag 0x35 (.refused .range))) ∧
  (∀ s : State, s.powered = true →
     (∀ n : Notice,
       let enabled := s.link.mask[maskPlace (noticeClass n)]
       let u := s.taken (.noticeOffer n)
       (enabled = false → exec (.noticeOffer n) s = .next { u with link := s.link.beginSend }) ∧
       (enabled = true → s.link.notices.length < 32 → exec (.noticeOffer n) s = .next { u with
         link := ({ s.link with
           notices := s.link.notices ++ [(s.link.counter, n)]
           counter := (s.link.counter + 1) % 256 } : Link).beginSend }) ∧
       (enabled = true → 32 ≤ s.link.notices.length → exec (.noticeOffer n) s = .next { u with
         link := ({ s.link with counter := (s.link.counter + 1) % 256, noticesLost := true } : Link).beginSend })) ∧
     ∀ i : Fin 4,
       (∀ station part wait, s.link.slots[i] = .waiting (.capture station) part wait →
         exec (.captureWaitTimeout i) s = .next ((s.setSlot i (.ready (.capture station) part .timeout none 0)).notify
           (.slotReady i (.capture station) .timeout))) ∧
       ((∀ station part wait, s.link.slots[i] ≠ .waiting (.capture station) part wait) →
         exec (.captureWaitTimeout i) s = .next s) ∧
       (∀ key part o a disc, s.link.slots[i] = .ready key part o a disc →
         exec (.slotDiscard i) s = .next (s.setSlot i .free)) ∧
       ((∀ key part o a disc, s.link.slots[i] ≠ .ready key part o a disc) → exec (.slotDiscard i) s = .next s))

/-- The receiver takes characters of eight data bits, the least significant first, and a stop bit (R171): hunting, it begins
a frame at a start byte; assembling, a byte after more than 20 ms ends the frame as bad and is then judged as if hunting, a
byte without its stop bit ends it as bad, and any other byte leaves more to come, ends a bad frame, or ends a frame that
arrives. A bad frame and a gap set the link-error flag at that moment. An arrived frame joins the holding while that holds
fewer than three; else it is answered BUSY while fewer than three busy replies wait, and is discarded with the link-error
flag set when three do; and the line is served at once (R172, R173, R174, R175). FRAME_RECEIVED and BAD_FRAME stand for a
frame that ends on the line whole or bad (log 27); a gap while hunting has no effect (log 7), and one commanded before its
20 ms ends the frame all the same (log 8). -/
def Obligations.FramesAreReceivedAndHeld : Prop :=
  ∀ s : State, s.powered = true →
    let bits (b : Byte) : DataBits := Vector.ofFn fun k : Fin 8 => b[k.val]
    let bad (next : Receiver) : State := { s with link := { s.link with receiver := next, linkError := true } }
    let arrives (f : Frame) (c : Instr) : Prop :=
      let served (l : Link) : State := ({ s with link := { l with receiver := .hunting } } : State).serve
      (s.link.holding.length < 3 →
        exec c s = .next (served { s.link with holding := s.link.holding ++ [f] })) ∧
      (3 ≤ s.link.holding.length → (s.link.replies.filter fun r => r.busy).length < 3 →
        exec c s = .next (served { s.link with
          replies := s.link.replies ++ [⟨f.tag, f.kind, .refused .busy, true⟩] })) ∧
      (3 ≤ s.link.holding.length → 3 ≤ (s.link.replies.filter fun r => r.busy).length →
        exec c s = .next (served { s.link with linkError := true }))
    (∀ (b : Byte) (stop : Bool), s.link.receiver = .hunting → exec (.byteReceived (bits b) stop) s = .next { s with
      link := { s.link with receiver := if stop = true ∧ b = 0xA5 then .assembling [] 0 else .hunting } }) ∧
    (∀ (bytes : List Byte) (gap : Nat), s.link.receiver = .assembling bytes gap →
      (∀ b stop, 20 < gap → exec (.byteReceived (bits b) stop) s =
        .next (bad (if stop = true ∧ b = 0xA5 then .assembling [] 0 else .hunting))) ∧
      (∀ b, gap ≤ 20 → exec (.byteReceived (bits b) false) s = .next (bad .hunting)) ∧
      (∀ b, gap ≤ 20 → assembly (bytes ++ [b]) = .more → exec (.byteReceived (bits b) true) s =
        .next { s with link := { s.link with receiver := .assembling (bytes ++ [b]) 0 } }) ∧
      (∀ b, gap ≤ 20 → assembly (bytes ++ [b]) = .bad → exec (.byteReceived (bits b) true) s = .next (bad .hunting)) ∧
      (∀ b f, gap ≤ 20 → assembly (bytes ++ [b]) = .arrived f → arrives f (.byteReceived (bits b) true)) ∧
      exec .frameGapTimeout s = .next (bad .hunting)) ∧
    (s.link.receiver = .hunting → exec .frameGapTimeout s = .next s) ∧
    exec .badFrame s = .next (bad .hunting) ∧
    ∀ f : Frame, arrives f (.frameReceived f)

/-! ### The settings store and the starts -/

/-- SAVE-SETTINGS copies every setting, makes the other place than the current one, or place 0, INVALID, and stays in hand
while it is written; a good end makes the target VALID and current under the next generation, 65,535 followed by 0, or 1
with no place current, clears the settings-defaulted flag and answers with both; a bad one leaves it INVALID and answers
STOREFAIL, and in either case the request is no longer in hand (R177, R194, R195, R196, R197). That SAVE-SETTINGS commanded
during a save has no effect is log 30, and that SAVE_WRITE_END without a save has none is log 7: the model's choices for
what does not occur. -/
def Obligations.SavesGoToTheOtherPlace : Prop :=
  ∀ (tag : Byte) (s : State), s.powered = true →
    (s.settings.save = none →
      ∃ (target : Fin 2) (generation : Nat),
        (∀ p, s.settings.current = some p → target ≠ p) ∧ (s.settings.current = none → target = 0) ∧
        (s.settings.current = none → generation = 1) ∧
        (∀ p g m, s.settings.current = some p → s.settings.places[p] = .valid g m → g ≤ 65535 →
          generation = if g = 65535 then 0 else g + 1) ∧
        exec (.saveSettings tag) s = .next { s with
          settings := { s.settings with
            places := s.settings.places.set target .invalid
            save := some ⟨{
              stations := s.stations.map fun x => x.settings
              types := s.packs.types, classes := s.packs.classes, preactStart := s.bulking.preactStart
              tolerance := s.bulking.tolerance, vectors := s.actions.vectors
              sets := s.actions.sets.map fun a => a.written, templates := s.stencils.templates
              windows := s.store.windows, speed := s.link.speedSetting, mask := s.link.mask }, target, generation⟩ }
          link := { s.link with inHand := some ⟨tag, 0x36⟩ } }) ∧
    (s.settings.save ≠ none → exec (.saveSettings tag) s = .next s) ∧
    (∀ verified, s.settings.save = none → exec (.saveWriteEnd verified) s = .next s) ∧
    ∀ f h, s.settings.save = some f → s.link.inHand = some h →
      let link : Link := { s.link with inHand := if h.kind = 0x36 then none else some h }
      exec (.saveWriteEnd true) s = .next (State.reply
        { s with
          link := link
          settings := { s.settings with
            places := s.settings.places.set f.target (.valid f.generation f.copy), current := some f.target
            defaulted := false, save := none } } h.tag 0x36 (.ok (.saved f.generation f.target))) ∧
      exec (.saveWriteEnd false) s = .next (State.reply
        { s with link := link, settings := { s.settings with save := none } } h.tag 0x36 (.refused .storeFail))

/-- A start loads the one VALID place, or of two the one whose generation follows the other's, or place 0 where neither
does, and makes it current; with none it takes the defaults with the settings-defaulted flag set and no place current: a
power-on of a part never saved is the reset state (log 5). Every station then starts in the state of its role, with Zt,
histories, flags and records as they are at a start, and every other block likewise; a power loss during a save leaves its
target INVALID, and the next power-on starts from what the places hold (R29, R42, R68, R97, R114, R140, R162, R170, R190,
R198, R199, R200). The stall reference 0 and no last reading at a start are the model's choice (log 29), as are the lines at
rest after a power loss and a POWER_ON of a part that has power (log 6), and the loss of a notice offer still in transit
(log 46); and two fields are the model's own: what a head was last handed, nothing at a start (log 26), and a station's last
in-range weight, 0 (log 12). -/
def Obligations.PowerOnStartsEveryBlock : Prop :=
  ∀ s : State,
    (s.settings.places[0] = .invalid → s.settings.places[1] = .invalid →
      exec .powerOn s = .next { State.reset with pending := s.pending }) ∧
    (∃ (m : Image) (current : Option (Fin 2)),
      (s.settings.places[0] = .invalid → s.settings.places[1] = .invalid → m = Image.default ∧ current = none) ∧
      (∀ g k, s.settings.places[0] = .valid g k → s.settings.places[1] = .invalid → m = k ∧ current = some 0) ∧
      (∀ g k, s.settings.places[0] = .invalid → s.settings.places[1] = .valid g k → m = k ∧ current = some 1) ∧
      (∀ g k h l, s.settings.places[0] = .valid g k → s.settings.places[1] = .valid h l → g ≤ 65535 → h ≤ 65535 →
        ((h = g + 1 ∨ (h = 0 ∧ g = 65535)) → m = l ∧ current = some 1) ∧
        (¬ (h = g + 1 ∨ (h = 0 ∧ g = 65535)) → m = k ∧ current = some 0)) ∧
      ∃ t : State, exec .powerOn s = .next t ∧ t.pending = s.pending ∧ t.transit = [] ∧ t.powered = true ∧
        (∀ i : Fin 4, t.stations[i] =
          { settings := m.stations[i], zt := 0, filter := [], settle := [], q := 0, lastInRange := 0, outOfRange := false
            state := match m.stations[i].role with
              | .off => .off
              | .feed => .active
              | _ => .starting
            settled := false, overloadReturn := false, decision := ⟨.none, none, none, none, none, none⟩
            outstanding := none, disturbed := false
            signalTimer := if m.stations[i].role = .off then none else some 0 }) ∧
        t.packs = ⟨m.types, m.classes⟩ ∧
        t.bulking = ⟨[], m.preactStart, m.preactStart, m.tolerance, 1, false, none, 0, none⟩ ∧
        t.invoices.invoices = [] ∧ (∀ i : Fin 4, t.invoices.queues[i] = []) ∧ t.invoices.nextSerial = 1 ∧
        t.actions.vectors = m.vectors ∧
        (∀ i : Fin 32, t.actions.sets[i] = ⟨m.sets[i], m.sets[i].enabled, m.sets[i].reload⟩) ∧
        (∀ i : Fin 8, t.actions.gates[i] = none) ∧
        t.stencils.templates = m.templates ∧ (∀ i : Fin 2, t.stencils.heads[i] = ⟨.idle, [], none, .none, none, []⟩) ∧
        t.store = ⟨m.windows, [], 0, 0, []⟩ ∧ t.clock = ⟨none, 0⟩ ∧
        t.link = ⟨m.speed, m.speed, .hunting, [], none, [], none, [], 0, m.mask, .replicate 4 .free, false, false⟩ ∧
        t.settings.places = s.settings.places ∧ t.settings.save = none ∧ t.settings.restart = none ∧
        t.settings.current = current ∧
        (t.settings.defaulted = true ↔ s.settings.places[0] = .invalid ∧ s.settings.places[1] = .invalid)) ∧
    (s.powered = true → ∃ t : State, exec .powerLoss s = .next t ∧ t.powered = false ∧ t.pending = s.pending ∧
      t.settings.places = s.settings.places ∧ t.settings.save = none ∧ exec .powerOn t = exec .powerOn s ∧
      (∀ i : Fin 8, t.actions.gates[i] = none) ∧ t.bulking.gateOpen = false)

/-- RESTART is refused with RANGE for a form that is neither; else its OK reply joins the reply line and the request stays
in hand. When that reply has been sent the part starts: cold as at power-on; warm keeping the package types, the templates,
the clock, the written sheets, the feeder preact, the next run number, the line speed, the receiver and the two link flags,
the free point returning to where the earliest discarded sheet began; every arrival in transit and every frame in the
holding is gone. The end of any other frame, reply or notice, only lets the next begin (R43, R69, R141, R162, R170, R179,
R191, R192, R193). That form 0 is WARM and 1 COLD is read from R201 (log 18); a second due when a warm restart takes effect
advances the kept reading, its midnight raising nothing (R170; log 43); a notice offer in transit is lost too (log 46); that
the receiver goes on as it stands, where R172 has it hunt at every start, is the model's choice (log 47); FRAME_SENT with
nothing being sent has no effect (log 7). -/
def Obligations.RestartsWaitForTheirReply : Prop :=
  ∀ s : State, s.powered = true →
    (∀ (tag : Byte) (form : RestartForm), exec (.restart tag form.ctorIdx) s = .next { s with
      settings := { s.settings with restart := some form }
      link := ({ s.link with
        inHand := some ⟨tag, 0x37⟩
        replies := s.link.replies ++ [⟨tag, 0x37, .ok (.restart form), false⟩] } : Link).beginSend }) ∧
    (∀ (tag : Byte) (n : Nat), 1 < n → exec (.restart tag n) s = .next (s.reply tag 0x37 (.refused .range))) ∧
    (s.link.sending = none → exec .frameSent s = .next s) ∧
    (∀ f, s.link.sending = some f →
      (s.settings.restart = none ∨ (∀ r g, f = .reply r → r.form ≠ .ok (.restart g)) →
        exec .frameSent s = .next ({ s with link := { s.link with sending := none } } : State).serve)) ∧
    ∀ (r : Reply) (g : RestartForm), s.link.sending = some (.reply r) → r.form = .ok (.restart g) →
      (s.settings.restart = some .cold → exec .frameSent s = exec .powerOn s) ∧
      (s.settings.restart = some .warm →
        ∃ t c : State, exec .frameSent s = .next t ∧ exec .powerOn s = .next c ∧
          t.pending = s.pending ∧ t.transit = [] ∧ t.powered = true ∧
          t.stations = c.stations ∧ t.invoices = c.invoices ∧ t.actions = c.actions ∧ t.settings = c.settings ∧
          t.packs = s.packs ∧
          (s.clock.reading = none ∨ s.clock.phase < 1000 → t.clock = s.clock) ∧
          (∀ u, s.clock.reading ≠ none → 1000 ≤ s.clock.phase → exec .secondAdvance s = .next u → t.clock = u.clock) ∧
          t.bulking = { c.bulking with preact := s.bulking.preact, nextRun := s.bulking.nextRun } ∧
          t.stencils = { c.stencils with templates := s.stencils.templates } ∧
          t.link = { c.link with
            lineSpeed := s.link.lineSpeed, receiver := s.link.receiver, linkError := s.link.linkError
            noticesLost := s.link.noticesLost } ∧
          t.store.windows = c.store.windows ∧ t.store.waiting = [] ∧
          t.store.sheets = (s.store.sheets.filter fun h => h.written) ∧
          ((∀ h ∈ s.store.sheets, h.written = true) →
            t.store.freePage = s.store.freePage ∧ t.store.freeSlot = s.store.freeSlot) ∧
          ∀ front h back, s.store.sheets = front ++ h :: back → (∀ k ∈ front, k.written = true) → h.written = false →
            t.store.freePage = h.page ∧ t.store.freeSlot = h.first)

/-! ### What every step keeps -/

/-- The state after reset keeps every promise below. -/
def Obligations.EveryPromiseHoldsAtReset : Prop :=
  ClockValid State.reset ∧ LinkBounded State.reset ∧ LineServed State.reset.link ∧ SlotKeysDistinct State.reset ∧
    ClassTablesOrdered State.reset ∧ FeedUnique State.reset ∧ BulkSound State.reset.bulking ∧
    TableSound State.reset.invoices ∧ QueuesBounded State.reset ∧ StoreSound State.reset

/-- Every step keeps a RUNNING clock at a calendar date of 2000..2099 and a time of day (spec/08 8.1), at most one FEED
station, and the class table in range and ordered, in the part and in the settings store (R2, R40, R194). -/
def Obligations.ClockFeedAndClassesStayLegal : Prop :=
  (∀ s t : State, ClockValid s → step s = .next t → ClockValid t) ∧
  (∀ s t : State, step s = .next t →
     (FeedUnique s → FeedUnique t) ∧ (ClassTablesOrdered s → ClassTablesOrdered t))

/-- Every step keeps the holding, the busy replies, the notice queue and the counter within their bounds, no two slots on
one request kind and object, and the line served: no reply or notice waits while the transmitter is free, and no frame while
it may be dispatched (R174, R175, R179, R180, R183). -/
def Obligations.TheLinkStaysBounded : Prop :=
  ∀ s t : State, step s = .next t →
    (LinkBounded s → LinkBounded t) ∧ (SlotKeysDistinct s → SlotKeysDistinct t) ∧ (LineServed s.link → LineServed t.link)

/-- Every step keeps the bulk table sound: at most four runs under distinct numbers, their fractions summing to 1,000, at
most one active, and the gate open with the stall timer running exactly while a run feeds (R44, R45, R46, R48). -/
def Obligations.TheBulkTableStaysSound : Prop :=
  ∀ s t : State, BulkSound s.bulking → step s = .next t → BulkSound t.bulking

/-- Every step keeps the invoice table sound: at most sixteen invoices under distinct numbers, chests numbered from 1 in
order and never more than the packages, FULL exactly at that many, the tally the sum of the deviations until it overruns;
no chest serial twice in the table and the serial counter at none of them; and every queue within its bound, with no chest
serial in two stencil jobs of the two heads (R70, R71, R72, R80, R82, R123). -/
def Obligations.TheInvoiceTableStaysSound : Prop :=
  ∀ s t : State, step s = .next t →
    (QueuesBounded s → QueuesBounded t) ∧ (QueuesBounded s → TableSound s.invoices → TableSound t.invoices)

/-- Every step keeps the record store sound: each sheet whole on one page, no two sharing a slot and none at or after the
free point on its page, no reserved sheet older than a written one, no invoice twice among the stored sheets and the waiting
line (R146, R147, R152). -/
def Obligations.TheRecordStoreStaysSound : Prop :=
  ∀ s t : State, TableSound s.invoices → StoreSound s → step s = .next t → StoreSound t
end

