-- ==== Sys2Proof/Laws/Answers.lean ====
section
/-! SUPPORT. What the checks of a request do: one lemma for each check passed and each check failed, and one for each way a
request on a powered part ends. -/

namespace Sys2Proof.Machine

/-! ### Checks -/

theorem require_pos {c : Prop} [Decidable c] (h : c) (r : Reason) : require c r = .ok () := by simp [require, h]

theorem require_neg {c : Prop} [Decidable c] (h : ¬ c) (r : Reason) : require c r = .error r := by simp [require, h]

/-- A check followed by the rest of the answer: the rest when it is passed, the refusal when it is not. -/
@[simp] theorem require_bind {c : Prop} [Decidable c] {β : Type} (r : Reason) (f : Unit → Except Reason β) :
    (require c r >>= f) = if c then f () else .error r := by
  by_cases h : c <;> simp [require, h] <;> rfl

@[simp] theorem orRefuse_some {α : Type} (a : α) (r : Reason) : orRefuse (some a) r = .ok a := rfl

@[simp] theorem orRefuse_none {α : Type} (r : Reason) : orRefuse (none : Option α) r = .error r := rfl

@[simp] theorem ok_bind {α β : Type} (a : α) (f : α → Except Reason β) : (Except.ok a >>= f) = f a := rfl

@[simp] theorem error_bind {α β : Type} (r : Reason) (f : α → Except Reason β) :
    ((Except.error r : Except Reason α) >>= f) = .error r := rfl

@[simp] theorem pure_is_ok {α : Type} (a : α) : (pure a : Except Reason α) = .ok a := rfl

@[simp] theorem index_fin (n : Nat) (i : Fin n) : index n i.val = .ok i := by simp [index]

theorem index_out_of_range (n x : Nat) (h : n ≤ x) : index n x = .error .range := by
  simp [index, Nat.not_lt.mpr h]

@[simp] theorem stationNumber_fin (i : Fin 4) : stationNumber i.val = .ok i := index_fin 4 i

theorem stationNumber_out_of_range (x : Nat) (h : 4 ≤ x) : stationNumber x = .error .range :=
  index_out_of_range 4 x h

@[simp] theorem flag_of_bool (b : Bool) : flag (if b then 1 else 0) = .ok b := by cases b <;> rfl

theorem flag_out_of_range (n : Nat) (h : 2 ≤ n) : flag n = .error .range := by
  have h0 : n ≠ 0 := by omega
  have h1 : n ≠ 1 := by omega
  simp [flag, h0, h1]

/-! ### Powered commands and requests -/

theorem onPower_powered {s : State} (h : s.powered = true) (f : State → State) : onPower s f = .next (f s) := by
  simp [onPower, h]

theorem onPower_unpowered {s : State} (h : s.powered = false) (f : State → State) : onPower s f = .next s := by
  simp [onPower, h]

/-- A command answers a next state, with or without power. -/
theorem onPower_next (s : State) (f : State → State) : ∃ t, onPower s f = .next t := ⟨_, rfl⟩

theorem onRequest_ok {s t : State} {tag kind : Byte} {form : Form} {owner : State → Answer} (hp : s.powered = true)
    (h : owner s = .ok (t, form)) : onRequest tag kind s owner = .next (t.reply tag kind form) := by
  simp [onRequest, onPower, hp, answerRequest, h, State.reply]

theorem onRequest_refused {s : State} {tag kind : Byte} {r : Reason} {owner : State → Answer} (hp : s.powered = true)
    (h : owner s = .error r) : onRequest tag kind s owner = .next (s.reply tag kind (.refused r)) := by
  simp [onRequest, onPower, hp, answerRequest, h, State.reply]

/-- A request on a powered part is refused and changes nothing, or is taken as its owner answers. -/
theorem onRequest_cases {s : State} (tag kind : Byte) (owner : State → Answer) (hp : s.powered = true) :
    (∃ r, owner s = .error r ∧ onRequest tag kind s owner = .next (s.reply tag kind (.refused r))) ∨
      ∃ t form, owner s = .ok (t, form) ∧ onRequest tag kind s owner = .next (t.reply tag kind form) := by
  cases h : owner s with
  | error r => exact .inl ⟨r, rfl, onRequest_refused hp h⟩
  | ok a => exact .inr ⟨a.1, a.2, rfl, onRequest_ok hp h⟩

end Sys2Proof.Machine
end

