-- ==== Sys2Proof/Laws/State.lean ====
section
/-! SUPPORT. One lemma per field and update of the state: what each update writes and that it leaves every other field. -/

namespace Sys2Proof.Machine

@[simp] theorem State.send_pending (s : State) (m : Instr) : (s.send m).pending = s.pending := rfl
@[simp] theorem State.send_transit (s : State) (m : Instr) :
    (s.send m).transit = s.transit ++ [m] := rfl
@[simp] theorem State.send_powered (s : State) (m : Instr) : (s.send m).powered = s.powered := rfl
@[simp] theorem State.send_stations (s : State) (m : Instr) : (s.send m).stations = s.stations := rfl
@[simp] theorem State.send_packs (s : State) (m : Instr) : (s.send m).packs = s.packs := rfl
@[simp] theorem State.send_bulking (s : State) (m : Instr) : (s.send m).bulking = s.bulking := rfl
@[simp] theorem State.send_invoices (s : State) (m : Instr) : (s.send m).invoices = s.invoices := rfl
@[simp] theorem State.send_actions (s : State) (m : Instr) : (s.send m).actions = s.actions := rfl
@[simp] theorem State.send_stencils (s : State) (m : Instr) : (s.send m).stencils = s.stencils := rfl
@[simp] theorem State.send_store (s : State) (m : Instr) : (s.send m).store = s.store := rfl
@[simp] theorem State.send_clock (s : State) (m : Instr) : (s.send m).clock = s.clock := rfl
@[simp] theorem State.send_link (s : State) (m : Instr) : (s.send m).link = s.link := rfl
@[simp] theorem State.send_settings (s : State) (m : Instr) : (s.send m).settings = s.settings := rfl

@[simp] theorem State.taken_pending (s : State) (m : Instr) : (s.taken m).pending = s.pending := rfl
@[simp] theorem State.taken_transit (s : State) (m : Instr) :
    (s.taken m).transit = s.transit.erase m := rfl
@[simp] theorem State.taken_powered (s : State) (m : Instr) : (s.taken m).powered = s.powered := rfl
@[simp] theorem State.taken_stations (s : State) (m : Instr) : (s.taken m).stations = s.stations := rfl
@[simp] theorem State.taken_packs (s : State) (m : Instr) : (s.taken m).packs = s.packs := rfl
@[simp] theorem State.taken_bulking (s : State) (m : Instr) : (s.taken m).bulking = s.bulking := rfl
@[simp] theorem State.taken_invoices (s : State) (m : Instr) : (s.taken m).invoices = s.invoices := rfl
@[simp] theorem State.taken_actions (s : State) (m : Instr) : (s.taken m).actions = s.actions := rfl
@[simp] theorem State.taken_stencils (s : State) (m : Instr) : (s.taken m).stencils = s.stencils := rfl
@[simp] theorem State.taken_store (s : State) (m : Instr) : (s.taken m).store = s.store := rfl
@[simp] theorem State.taken_clock (s : State) (m : Instr) : (s.taken m).clock = s.clock := rfl
@[simp] theorem State.taken_link (s : State) (m : Instr) : (s.taken m).link = s.link := rfl
@[simp] theorem State.taken_settings (s : State) (m : Instr) : (s.taken m).settings = s.settings := rfl

@[simp] theorem State.notify_pending (s : State) (n : Notice) : (s.notify n).pending = s.pending := rfl
@[simp] theorem State.notify_transit (s : State) (n : Notice) :
    (s.notify n).transit = s.transit ++ [.noticeOffer n] := rfl
@[simp] theorem State.notify_powered (s : State) (n : Notice) : (s.notify n).powered = s.powered := rfl
@[simp] theorem State.notify_stations (s : State) (n : Notice) : (s.notify n).stations = s.stations := rfl
@[simp] theorem State.notify_packs (s : State) (n : Notice) : (s.notify n).packs = s.packs := rfl
@[simp] theorem State.notify_bulking (s : State) (n : Notice) : (s.notify n).bulking = s.bulking := rfl
@[simp] theorem State.notify_invoices (s : State) (n : Notice) : (s.notify n).invoices = s.invoices := rfl
@[simp] theorem State.notify_actions (s : State) (n : Notice) : (s.notify n).actions = s.actions := rfl
@[simp] theorem State.notify_stencils (s : State) (n : Notice) : (s.notify n).stencils = s.stencils := rfl
@[simp] theorem State.notify_store (s : State) (n : Notice) : (s.notify n).store = s.store := rfl
@[simp] theorem State.notify_clock (s : State) (n : Notice) : (s.notify n).clock = s.clock := rfl
@[simp] theorem State.notify_link (s : State) (n : Notice) : (s.notify n).link = s.link := rfl
@[simp] theorem State.notify_settings (s : State) (n : Notice) : (s.notify n).settings = s.settings := rfl

@[simp] theorem State.raise_pending (s : State) (k : Fin 20) (c : EventContext) : (s.raise k c).pending = s.pending := rfl
@[simp] theorem State.raise_transit (s : State) (k : Fin 20) (c : EventContext) :
    (s.raise k c).transit = s.transit ++ [.event k c] := rfl
@[simp] theorem State.raise_powered (s : State) (k : Fin 20) (c : EventContext) : (s.raise k c).powered = s.powered := rfl
@[simp] theorem State.raise_stations (s : State) (k : Fin 20) (c : EventContext) : (s.raise k c).stations = s.stations := rfl
@[simp] theorem State.raise_packs (s : State) (k : Fin 20) (c : EventContext) : (s.raise k c).packs = s.packs := rfl
@[simp] theorem State.raise_bulking (s : State) (k : Fin 20) (c : EventContext) : (s.raise k c).bulking = s.bulking := rfl
@[simp] theorem State.raise_invoices (s : State) (k : Fin 20) (c : EventContext) : (s.raise k c).invoices = s.invoices := rfl
@[simp] theorem State.raise_actions (s : State) (k : Fin 20) (c : EventContext) : (s.raise k c).actions = s.actions := rfl
@[simp] theorem State.raise_stencils (s : State) (k : Fin 20) (c : EventContext) : (s.raise k c).stencils = s.stencils := rfl
@[simp] theorem State.raise_store (s : State) (k : Fin 20) (c : EventContext) : (s.raise k c).store = s.store := rfl
@[simp] theorem State.raise_clock (s : State) (k : Fin 20) (c : EventContext) : (s.raise k c).clock = s.clock := rfl
@[simp] theorem State.raise_link (s : State) (k : Fin 20) (c : EventContext) : (s.raise k c).link = s.link := rfl
@[simp] theorem State.raise_settings (s : State) (k : Fin 20) (c : EventContext) : (s.raise k c).settings = s.settings := rfl

@[simp] theorem State.sendAll_pending (s : State) (ms : List Instr) : (s.sendAll ms).pending = s.pending := rfl
@[simp] theorem State.sendAll_transit (s : State) (ms : List Instr) :
    (s.sendAll ms).transit = s.transit ++ ms := rfl
@[simp] theorem State.sendAll_powered (s : State) (ms : List Instr) : (s.sendAll ms).powered = s.powered := rfl
@[simp] theorem State.sendAll_stations (s : State) (ms : List Instr) : (s.sendAll ms).stations = s.stations := rfl
@[simp] theorem State.sendAll_packs (s : State) (ms : List Instr) : (s.sendAll ms).packs = s.packs := rfl
@[simp] theorem State.sendAll_bulking (s : State) (ms : List Instr) : (s.sendAll ms).bulking = s.bulking := rfl
@[simp] theorem State.sendAll_invoices (s : State) (ms : List Instr) : (s.sendAll ms).invoices = s.invoices := rfl
@[simp] theorem State.sendAll_actions (s : State) (ms : List Instr) : (s.sendAll ms).actions = s.actions := rfl
@[simp] theorem State.sendAll_stencils (s : State) (ms : List Instr) : (s.sendAll ms).stencils = s.stencils := rfl
@[simp] theorem State.sendAll_store (s : State) (ms : List Instr) : (s.sendAll ms).store = s.store := rfl
@[simp] theorem State.sendAll_clock (s : State) (ms : List Instr) : (s.sendAll ms).clock = s.clock := rfl
@[simp] theorem State.sendAll_link (s : State) (ms : List Instr) : (s.sendAll ms).link = s.link := rfl
@[simp] theorem State.sendAll_settings (s : State) (ms : List Instr) : (s.sendAll ms).settings = s.settings := rfl

@[simp] theorem State.setStation_pending (s : State) (i : Fin 4) (x : Station) : (s.setStation i x).pending = s.pending := rfl
@[simp] theorem State.setStation_transit (s : State) (i : Fin 4) (x : Station) : (s.setStation i x).transit = s.transit := rfl
@[simp] theorem State.setStation_powered (s : State) (i : Fin 4) (x : Station) : (s.setStation i x).powered = s.powered := rfl
@[simp] theorem State.setStation_stations (s : State) (i : Fin 4) (x : Station) :
    (s.setStation i x).stations = s.stations.set i x := rfl
@[simp] theorem State.setStation_packs (s : State) (i : Fin 4) (x : Station) : (s.setStation i x).packs = s.packs := rfl
@[simp] theorem State.setStation_bulking (s : State) (i : Fin 4) (x : Station) : (s.setStation i x).bulking = s.bulking := rfl
@[simp] theorem State.setStation_invoices (s : State) (i : Fin 4) (x : Station) : (s.setStation i x).invoices = s.invoices := rfl
@[simp] theorem State.setStation_actions (s : State) (i : Fin 4) (x : Station) : (s.setStation i x).actions = s.actions := rfl
@[simp] theorem State.setStation_stencils (s : State) (i : Fin 4) (x : Station) : (s.setStation i x).stencils = s.stencils := rfl
@[simp] theorem State.setStation_store (s : State) (i : Fin 4) (x : Station) : (s.setStation i x).store = s.store := rfl
@[simp] theorem State.setStation_clock (s : State) (i : Fin 4) (x : Station) : (s.setStation i x).clock = s.clock := rfl
@[simp] theorem State.setStation_link (s : State) (i : Fin 4) (x : Station) : (s.setStation i x).link = s.link := rfl
@[simp] theorem State.setStation_settings (s : State) (i : Fin 4) (x : Station) : (s.setStation i x).settings = s.settings := rfl

@[simp] theorem State.modifyStation_pending (s : State) (i : Fin 4) (f : Station → Station) : (s.modifyStation i f).pending = s.pending := rfl
@[simp] theorem State.modifyStation_transit (s : State) (i : Fin 4) (f : Station → Station) : (s.modifyStation i f).transit = s.transit := rfl
@[simp] theorem State.modifyStation_powered (s : State) (i : Fin 4) (f : Station → Station) : (s.modifyStation i f).powered = s.powered := rfl
@[simp] theorem State.modifyStation_stations (s : State) (i : Fin 4) (f : Station → Station) :
    (s.modifyStation i f).stations = s.stations.set i (f s.stations[i]) := rfl
@[simp] theorem State.modifyStation_packs (s : State) (i : Fin 4) (f : Station → Station) : (s.modifyStation i f).packs = s.packs := rfl
@[simp] theorem State.modifyStation_bulking (s : State) (i : Fin 4) (f : Station → Station) : (s.modifyStation i f).bulking = s.bulking := rfl
@[simp] theorem State.modifyStation_invoices (s : State) (i : Fin 4) (f : Station → Station) : (s.modifyStation i f).invoices = s.invoices := rfl
@[simp] theorem State.modifyStation_actions (s : State) (i : Fin 4) (f : Station → Station) : (s.modifyStation i f).actions = s.actions := rfl
@[simp] theorem State.modifyStation_stencils (s : State) (i : Fin 4) (f : Station → Station) : (s.modifyStation i f).stencils = s.stencils := rfl
@[simp] theorem State.modifyStation_store (s : State) (i : Fin 4) (f : Station → Station) : (s.modifyStation i f).store = s.store := rfl
@[simp] theorem State.modifyStation_clock (s : State) (i : Fin 4) (f : Station → Station) : (s.modifyStation i f).clock = s.clock := rfl
@[simp] theorem State.modifyStation_link (s : State) (i : Fin 4) (f : Station → Station) : (s.modifyStation i f).link = s.link := rfl
@[simp] theorem State.modifyStation_settings (s : State) (i : Fin 4) (f : Station → Station) : (s.modifyStation i f).settings = s.settings := rfl

@[simp] theorem State.joinReply_pending (s : State) (r : Reply) : (s.joinReply r).pending = s.pending := rfl
@[simp] theorem State.joinReply_transit (s : State) (r : Reply) : (s.joinReply r).transit = s.transit := rfl
@[simp] theorem State.joinReply_powered (s : State) (r : Reply) : (s.joinReply r).powered = s.powered := rfl
@[simp] theorem State.joinReply_stations (s : State) (r : Reply) : (s.joinReply r).stations = s.stations := rfl
@[simp] theorem State.joinReply_packs (s : State) (r : Reply) : (s.joinReply r).packs = s.packs := rfl
@[simp] theorem State.joinReply_bulking (s : State) (r : Reply) : (s.joinReply r).bulking = s.bulking := rfl
@[simp] theorem State.joinReply_invoices (s : State) (r : Reply) : (s.joinReply r).invoices = s.invoices := rfl
@[simp] theorem State.joinReply_actions (s : State) (r : Reply) : (s.joinReply r).actions = s.actions := rfl
@[simp] theorem State.joinReply_stencils (s : State) (r : Reply) : (s.joinReply r).stencils = s.stencils := rfl
@[simp] theorem State.joinReply_store (s : State) (r : Reply) : (s.joinReply r).store = s.store := rfl
@[simp] theorem State.joinReply_clock (s : State) (r : Reply) : (s.joinReply r).clock = s.clock := rfl
@[simp] theorem State.joinReply_settings (s : State) (r : Reply) : (s.joinReply r).settings = s.settings := rfl
@[simp] theorem State.joinReply_link (s : State) (r : Reply) :
    (s.joinReply r).link = s.link.joinReply r := rfl

@[simp] theorem State.transmit_pending (s : State) : (s.transmit).pending = s.pending := rfl
@[simp] theorem State.transmit_transit (s : State) : (s.transmit).transit = s.transit := rfl
@[simp] theorem State.transmit_powered (s : State) : (s.transmit).powered = s.powered := rfl
@[simp] theorem State.transmit_stations (s : State) : (s.transmit).stations = s.stations := rfl
@[simp] theorem State.transmit_packs (s : State) : (s.transmit).packs = s.packs := rfl
@[simp] theorem State.transmit_bulking (s : State) : (s.transmit).bulking = s.bulking := rfl
@[simp] theorem State.transmit_invoices (s : State) : (s.transmit).invoices = s.invoices := rfl
@[simp] theorem State.transmit_actions (s : State) : (s.transmit).actions = s.actions := rfl
@[simp] theorem State.transmit_stencils (s : State) : (s.transmit).stencils = s.stencils := rfl
@[simp] theorem State.transmit_store (s : State) : (s.transmit).store = s.store := rfl
@[simp] theorem State.transmit_clock (s : State) : (s.transmit).clock = s.clock := rfl
@[simp] theorem State.transmit_settings (s : State) : (s.transmit).settings = s.settings := rfl
@[simp] theorem State.transmit_link (s : State) :
    (s.transmit).link = s.link.beginSend := rfl

@[simp] theorem State.setReceiver_pending (s : State) (r : Receiver) : (s.setReceiver r).pending = s.pending := rfl
@[simp] theorem State.setReceiver_transit (s : State) (r : Receiver) : (s.setReceiver r).transit = s.transit := rfl
@[simp] theorem State.setReceiver_powered (s : State) (r : Receiver) : (s.setReceiver r).powered = s.powered := rfl
@[simp] theorem State.setReceiver_stations (s : State) (r : Receiver) : (s.setReceiver r).stations = s.stations := rfl
@[simp] theorem State.setReceiver_packs (s : State) (r : Receiver) : (s.setReceiver r).packs = s.packs := rfl
@[simp] theorem State.setReceiver_bulking (s : State) (r : Receiver) : (s.setReceiver r).bulking = s.bulking := rfl
@[simp] theorem State.setReceiver_invoices (s : State) (r : Receiver) : (s.setReceiver r).invoices = s.invoices := rfl
@[simp] theorem State.setReceiver_actions (s : State) (r : Receiver) : (s.setReceiver r).actions = s.actions := rfl
@[simp] theorem State.setReceiver_stencils (s : State) (r : Receiver) : (s.setReceiver r).stencils = s.stencils := rfl
@[simp] theorem State.setReceiver_store (s : State) (r : Receiver) : (s.setReceiver r).store = s.store := rfl
@[simp] theorem State.setReceiver_clock (s : State) (r : Receiver) : (s.setReceiver r).clock = s.clock := rfl
@[simp] theorem State.setReceiver_settings (s : State) (r : Receiver) : (s.setReceiver r).settings = s.settings := rfl
@[simp] theorem State.setReceiver_link (s : State) (r : Receiver) :
    (s.setReceiver r).link = { s.link with receiver := r } := rfl

@[simp] theorem State.discardFrame_pending (s : State) (r : Receiver) : (s.discardFrame r).pending = s.pending := rfl
@[simp] theorem State.discardFrame_transit (s : State) (r : Receiver) : (s.discardFrame r).transit = s.transit := rfl
@[simp] theorem State.discardFrame_powered (s : State) (r : Receiver) : (s.discardFrame r).powered = s.powered := rfl
@[simp] theorem State.discardFrame_stations (s : State) (r : Receiver) : (s.discardFrame r).stations = s.stations := rfl
@[simp] theorem State.discardFrame_packs (s : State) (r : Receiver) : (s.discardFrame r).packs = s.packs := rfl
@[simp] theorem State.discardFrame_bulking (s : State) (r : Receiver) : (s.discardFrame r).bulking = s.bulking := rfl
@[simp] theorem State.discardFrame_invoices (s : State) (r : Receiver) : (s.discardFrame r).invoices = s.invoices := rfl
@[simp] theorem State.discardFrame_actions (s : State) (r : Receiver) : (s.discardFrame r).actions = s.actions := rfl
@[simp] theorem State.discardFrame_stencils (s : State) (r : Receiver) : (s.discardFrame r).stencils = s.stencils := rfl
@[simp] theorem State.discardFrame_store (s : State) (r : Receiver) : (s.discardFrame r).store = s.store := rfl
@[simp] theorem State.discardFrame_clock (s : State) (r : Receiver) : (s.discardFrame r).clock = s.clock := rfl
@[simp] theorem State.discardFrame_settings (s : State) (r : Receiver) : (s.discardFrame r).settings = s.settings := rfl
@[simp] theorem State.discardFrame_link (s : State) (r : Receiver) :
    (s.discardFrame r).link = { s.link with receiver := r, linkError := true } := rfl

@[simp] theorem State.setSlot_pending (s : State) (i : Fin 4) (c : Slot) : (s.setSlot i c).pending = s.pending := rfl
@[simp] theorem State.setSlot_transit (s : State) (i : Fin 4) (c : Slot) : (s.setSlot i c).transit = s.transit := rfl
@[simp] theorem State.setSlot_powered (s : State) (i : Fin 4) (c : Slot) : (s.setSlot i c).powered = s.powered := rfl
@[simp] theorem State.setSlot_stations (s : State) (i : Fin 4) (c : Slot) : (s.setSlot i c).stations = s.stations := rfl
@[simp] theorem State.setSlot_packs (s : State) (i : Fin 4) (c : Slot) : (s.setSlot i c).packs = s.packs := rfl
@[simp] theorem State.setSlot_bulking (s : State) (i : Fin 4) (c : Slot) : (s.setSlot i c).bulking = s.bulking := rfl
@[simp] theorem State.setSlot_invoices (s : State) (i : Fin 4) (c : Slot) : (s.setSlot i c).invoices = s.invoices := rfl
@[simp] theorem State.setSlot_actions (s : State) (i : Fin 4) (c : Slot) : (s.setSlot i c).actions = s.actions := rfl
@[simp] theorem State.setSlot_stencils (s : State) (i : Fin 4) (c : Slot) : (s.setSlot i c).stencils = s.stencils := rfl
@[simp] theorem State.setSlot_store (s : State) (i : Fin 4) (c : Slot) : (s.setSlot i c).store = s.store := rfl
@[simp] theorem State.setSlot_clock (s : State) (i : Fin 4) (c : Slot) : (s.setSlot i c).clock = s.clock := rfl
@[simp] theorem State.setSlot_link (s : State) (i : Fin 4) (c : Slot) :
    (s.setSlot i c).link = { s.link with slots := s.link.slots.set i c } := rfl
@[simp] theorem State.setSlot_settings (s : State) (i : Fin 4) (c : Slot) : (s.setSlot i c).settings = s.settings := rfl

@[simp] theorem State.setLink_pending (s : State) (l : Link) : (s.setLink l).pending = s.pending := rfl
@[simp] theorem State.setLink_transit (s : State) (l : Link) : (s.setLink l).transit = s.transit := rfl
@[simp] theorem State.setLink_powered (s : State) (l : Link) : (s.setLink l).powered = s.powered := rfl
@[simp] theorem State.setLink_stations (s : State) (l : Link) : (s.setLink l).stations = s.stations := rfl
@[simp] theorem State.setLink_packs (s : State) (l : Link) : (s.setLink l).packs = s.packs := rfl
@[simp] theorem State.setLink_bulking (s : State) (l : Link) : (s.setLink l).bulking = s.bulking := rfl
@[simp] theorem State.setLink_invoices (s : State) (l : Link) : (s.setLink l).invoices = s.invoices := rfl
@[simp] theorem State.setLink_actions (s : State) (l : Link) : (s.setLink l).actions = s.actions := rfl
@[simp] theorem State.setLink_stencils (s : State) (l : Link) : (s.setLink l).stencils = s.stencils := rfl
@[simp] theorem State.setLink_store (s : State) (l : Link) : (s.setLink l).store = s.store := rfl
@[simp] theorem State.setLink_clock (s : State) (l : Link) : (s.setLink l).clock = s.clock := rfl
@[simp] theorem State.setLink_link (s : State) (l : Link) :
    (s.setLink l).link = l := rfl
@[simp] theorem State.setLink_settings (s : State) (l : Link) : (s.setLink l).settings = s.settings := rfl

@[simp] theorem State.updateInvoice_pending (s : State) (n : Nat) (f : Invoice → Invoice) : (s.updateInvoice n f).pending = s.pending := rfl
@[simp] theorem State.updateInvoice_transit (s : State) (n : Nat) (f : Invoice → Invoice) : (s.updateInvoice n f).transit = s.transit := rfl
@[simp] theorem State.updateInvoice_powered (s : State) (n : Nat) (f : Invoice → Invoice) : (s.updateInvoice n f).powered = s.powered := rfl
@[simp] theorem State.updateInvoice_stations (s : State) (n : Nat) (f : Invoice → Invoice) : (s.updateInvoice n f).stations = s.stations := rfl
@[simp] theorem State.updateInvoice_packs (s : State) (n : Nat) (f : Invoice → Invoice) : (s.updateInvoice n f).packs = s.packs := rfl
@[simp] theorem State.updateInvoice_bulking (s : State) (n : Nat) (f : Invoice → Invoice) : (s.updateInvoice n f).bulking = s.bulking := rfl
@[simp] theorem State.updateInvoice_invoices (s : State) (n : Nat) (f : Invoice → Invoice) :
    (s.updateInvoice n f).invoices = s.invoices.update n f := rfl
@[simp] theorem State.updateInvoice_actions (s : State) (n : Nat) (f : Invoice → Invoice) : (s.updateInvoice n f).actions = s.actions := rfl
@[simp] theorem State.updateInvoice_stencils (s : State) (n : Nat) (f : Invoice → Invoice) : (s.updateInvoice n f).stencils = s.stencils := rfl
@[simp] theorem State.updateInvoice_store (s : State) (n : Nat) (f : Invoice → Invoice) : (s.updateInvoice n f).store = s.store := rfl
@[simp] theorem State.updateInvoice_clock (s : State) (n : Nat) (f : Invoice → Invoice) : (s.updateInvoice n f).clock = s.clock := rfl
@[simp] theorem State.updateInvoice_link (s : State) (n : Nat) (f : Invoice → Invoice) : (s.updateInvoice n f).link = s.link := rfl
@[simp] theorem State.updateInvoice_settings (s : State) (n : Nat) (f : Invoice → Invoice) : (s.updateInvoice n f).settings = s.settings := rfl

@[simp] theorem State.setInvoiceState_pending (s : State) (n : Nat) (x : InvoiceState) : (s.setInvoiceState n x).pending = s.pending := rfl
@[simp] theorem State.setInvoiceState_transit (s : State) (n : Nat) (x : InvoiceState) : (s.setInvoiceState n x).transit = s.transit := rfl
@[simp] theorem State.setInvoiceState_powered (s : State) (n : Nat) (x : InvoiceState) : (s.setInvoiceState n x).powered = s.powered := rfl
@[simp] theorem State.setInvoiceState_stations (s : State) (n : Nat) (x : InvoiceState) : (s.setInvoiceState n x).stations = s.stations := rfl
@[simp] theorem State.setInvoiceState_packs (s : State) (n : Nat) (x : InvoiceState) : (s.setInvoiceState n x).packs = s.packs := rfl
@[simp] theorem State.setInvoiceState_bulking (s : State) (n : Nat) (x : InvoiceState) : (s.setInvoiceState n x).bulking = s.bulking := rfl
@[simp] theorem State.setInvoiceState_actions (s : State) (n : Nat) (x : InvoiceState) : (s.setInvoiceState n x).actions = s.actions := rfl
@[simp] theorem State.setInvoiceState_stencils (s : State) (n : Nat) (x : InvoiceState) : (s.setInvoiceState n x).stencils = s.stencils := rfl
@[simp] theorem State.setInvoiceState_store (s : State) (n : Nat) (x : InvoiceState) : (s.setInvoiceState n x).store = s.store := rfl
@[simp] theorem State.setInvoiceState_clock (s : State) (n : Nat) (x : InvoiceState) : (s.setInvoiceState n x).clock = s.clock := rfl
@[simp] theorem State.setInvoiceState_link (s : State) (n : Nat) (x : InvoiceState) : (s.setInvoiceState n x).link = s.link := rfl
@[simp] theorem State.setInvoiceState_settings (s : State) (n : Nat) (x : InvoiceState) : (s.setInvoiceState n x).settings = s.settings := rfl

@[simp] theorem State.updateRecord_pending (s : State) (n : Nat) (f : InvoiceRecord → InvoiceRecord) : (s.updateRecord n f).pending = s.pending := rfl
@[simp] theorem State.updateRecord_transit (s : State) (n : Nat) (f : InvoiceRecord → InvoiceRecord) : (s.updateRecord n f).transit = s.transit := rfl
@[simp] theorem State.updateRecord_powered (s : State) (n : Nat) (f : InvoiceRecord → InvoiceRecord) : (s.updateRecord n f).powered = s.powered := rfl
@[simp] theorem State.updateRecord_stations (s : State) (n : Nat) (f : InvoiceRecord → InvoiceRecord) : (s.updateRecord n f).stations = s.stations := rfl
@[simp] theorem State.updateRecord_packs (s : State) (n : Nat) (f : InvoiceRecord → InvoiceRecord) : (s.updateRecord n f).packs = s.packs := rfl
@[simp] theorem State.updateRecord_bulking (s : State) (n : Nat) (f : InvoiceRecord → InvoiceRecord) : (s.updateRecord n f).bulking = s.bulking := rfl
@[simp] theorem State.updateRecord_actions (s : State) (n : Nat) (f : InvoiceRecord → InvoiceRecord) : (s.updateRecord n f).actions = s.actions := rfl
@[simp] theorem State.updateRecord_stencils (s : State) (n : Nat) (f : InvoiceRecord → InvoiceRecord) : (s.updateRecord n f).stencils = s.stencils := rfl
@[simp] theorem State.updateRecord_store (s : State) (n : Nat) (f : InvoiceRecord → InvoiceRecord) : (s.updateRecord n f).store = s.store := rfl
@[simp] theorem State.updateRecord_clock (s : State) (n : Nat) (f : InvoiceRecord → InvoiceRecord) : (s.updateRecord n f).clock = s.clock := rfl
@[simp] theorem State.updateRecord_link (s : State) (n : Nat) (f : InvoiceRecord → InvoiceRecord) : (s.updateRecord n f).link = s.link := rfl
@[simp] theorem State.updateRecord_settings (s : State) (n : Nat) (f : InvoiceRecord → InvoiceRecord) : (s.updateRecord n f).settings = s.settings := rfl

@[simp] theorem State.setStatus_pending (s : State) (n : Nat) (x : StencilStatus) : (s.setStatus n x).pending = s.pending := rfl
@[simp] theorem State.setStatus_transit (s : State) (n : Nat) (x : StencilStatus) : (s.setStatus n x).transit = s.transit := rfl
@[simp] theorem State.setStatus_powered (s : State) (n : Nat) (x : StencilStatus) : (s.setStatus n x).powered = s.powered := rfl
@[simp] theorem State.setStatus_stations (s : State) (n : Nat) (x : StencilStatus) : (s.setStatus n x).stations = s.stations := rfl
@[simp] theorem State.setStatus_packs (s : State) (n : Nat) (x : StencilStatus) : (s.setStatus n x).packs = s.packs := rfl
@[simp] theorem State.setStatus_bulking (s : State) (n : Nat) (x : StencilStatus) : (s.setStatus n x).bulking = s.bulking := rfl
@[simp] theorem State.setStatus_actions (s : State) (n : Nat) (x : StencilStatus) : (s.setStatus n x).actions = s.actions := rfl
@[simp] theorem State.setStatus_stencils (s : State) (n : Nat) (x : StencilStatus) : (s.setStatus n x).stencils = s.stencils := rfl
@[simp] theorem State.setStatus_store (s : State) (n : Nat) (x : StencilStatus) : (s.setStatus n x).store = s.store := rfl
@[simp] theorem State.setStatus_clock (s : State) (n : Nat) (x : StencilStatus) : (s.setStatus n x).clock = s.clock := rfl
@[simp] theorem State.setStatus_link (s : State) (n : Nat) (x : StencilStatus) : (s.setStatus n x).link = s.link := rfl
@[simp] theorem State.setStatus_settings (s : State) (n : Nat) (x : StencilStatus) : (s.setStatus n x).settings = s.settings := rfl

@[simp] theorem State.leaveQueues_pending (s : State) (n : Nat) : (s.leaveQueues n).pending = s.pending := rfl
@[simp] theorem State.leaveQueues_transit (s : State) (n : Nat) : (s.leaveQueues n).transit = s.transit := rfl
@[simp] theorem State.leaveQueues_powered (s : State) (n : Nat) : (s.leaveQueues n).powered = s.powered := rfl
@[simp] theorem State.leaveQueues_stations (s : State) (n : Nat) : (s.leaveQueues n).stations = s.stations := rfl
@[simp] theorem State.leaveQueues_packs (s : State) (n : Nat) : (s.leaveQueues n).packs = s.packs := rfl
@[simp] theorem State.leaveQueues_bulking (s : State) (n : Nat) : (s.leaveQueues n).bulking = s.bulking := rfl
@[simp] theorem State.leaveQueues_actions (s : State) (n : Nat) : (s.leaveQueues n).actions = s.actions := rfl
@[simp] theorem State.leaveQueues_stencils (s : State) (n : Nat) : (s.leaveQueues n).stencils = s.stencils := rfl
@[simp] theorem State.leaveQueues_store (s : State) (n : Nat) : (s.leaveQueues n).store = s.store := rfl
@[simp] theorem State.leaveQueues_clock (s : State) (n : Nat) : (s.leaveQueues n).clock = s.clock := rfl
@[simp] theorem State.leaveQueues_link (s : State) (n : Nat) : (s.leaveQueues n).link = s.link := rfl
@[simp] theorem State.leaveQueues_settings (s : State) (n : Nat) : (s.leaveQueues n).settings = s.settings := rfl

@[simp] theorem State.removeInvoice_pending (s : State) (n : Nat) : (s.removeInvoice n).pending = s.pending := rfl
@[simp] theorem State.removeInvoice_transit (s : State) (n : Nat) : (s.removeInvoice n).transit = s.transit := rfl
@[simp] theorem State.removeInvoice_powered (s : State) (n : Nat) : (s.removeInvoice n).powered = s.powered := rfl
@[simp] theorem State.removeInvoice_stations (s : State) (n : Nat) : (s.removeInvoice n).stations = s.stations := rfl
@[simp] theorem State.removeInvoice_packs (s : State) (n : Nat) : (s.removeInvoice n).packs = s.packs := rfl
@[simp] theorem State.removeInvoice_bulking (s : State) (n : Nat) : (s.removeInvoice n).bulking = s.bulking := rfl
@[simp] theorem State.removeInvoice_actions (s : State) (n : Nat) : (s.removeInvoice n).actions = s.actions := rfl
@[simp] theorem State.removeInvoice_stencils (s : State) (n : Nat) : (s.removeInvoice n).stencils = s.stencils := rfl
@[simp] theorem State.removeInvoice_store (s : State) (n : Nat) : (s.removeInvoice n).store = s.store := rfl
@[simp] theorem State.removeInvoice_clock (s : State) (n : Nat) : (s.removeInvoice n).clock = s.clock := rfl
@[simp] theorem State.removeInvoice_link (s : State) (n : Nat) : (s.removeInvoice n).link = s.link := rfl
@[simp] theorem State.removeInvoice_settings (s : State) (n : Nat) : (s.removeInvoice n).settings = s.settings := rfl

@[simp] theorem State.setQueue_pending (s : State) (i : Fin 4) (q : List Nat) : (s.setQueue i q).pending = s.pending := rfl
@[simp] theorem State.setQueue_transit (s : State) (i : Fin 4) (q : List Nat) : (s.setQueue i q).transit = s.transit := rfl
@[simp] theorem State.setQueue_powered (s : State) (i : Fin 4) (q : List Nat) : (s.setQueue i q).powered = s.powered := rfl
@[simp] theorem State.setQueue_stations (s : State) (i : Fin 4) (q : List Nat) : (s.setQueue i q).stations = s.stations := rfl
@[simp] theorem State.setQueue_packs (s : State) (i : Fin 4) (q : List Nat) : (s.setQueue i q).packs = s.packs := rfl
@[simp] theorem State.setQueue_bulking (s : State) (i : Fin 4) (q : List Nat) : (s.setQueue i q).bulking = s.bulking := rfl
@[simp] theorem State.setQueue_invoices (s : State) (i : Fin 4) (q : List Nat) :
    (s.setQueue i q).invoices = { s.invoices with queues := s.invoices.queues.set i q } := rfl
@[simp] theorem State.setQueue_actions (s : State) (i : Fin 4) (q : List Nat) : (s.setQueue i q).actions = s.actions := rfl
@[simp] theorem State.setQueue_stencils (s : State) (i : Fin 4) (q : List Nat) : (s.setQueue i q).stencils = s.stencils := rfl
@[simp] theorem State.setQueue_store (s : State) (i : Fin 4) (q : List Nat) : (s.setQueue i q).store = s.store := rfl
@[simp] theorem State.setQueue_clock (s : State) (i : Fin 4) (q : List Nat) : (s.setQueue i q).clock = s.clock := rfl
@[simp] theorem State.setQueue_link (s : State) (i : Fin 4) (q : List Nat) : (s.setQueue i q).link = s.link := rfl
@[simp] theorem State.setQueue_settings (s : State) (i : Fin 4) (q : List Nat) : (s.setQueue i q).settings = s.settings := rfl

@[simp] theorem State.updateRun_pending (s : State) (n : Nat) (f : BulkRecord → BulkRecord) : (s.updateRun n f).pending = s.pending := rfl
@[simp] theorem State.updateRun_transit (s : State) (n : Nat) (f : BulkRecord → BulkRecord) : (s.updateRun n f).transit = s.transit := rfl
@[simp] theorem State.updateRun_powered (s : State) (n : Nat) (f : BulkRecord → BulkRecord) : (s.updateRun n f).powered = s.powered := rfl
@[simp] theorem State.updateRun_stations (s : State) (n : Nat) (f : BulkRecord → BulkRecord) : (s.updateRun n f).stations = s.stations := rfl
@[simp] theorem State.updateRun_packs (s : State) (n : Nat) (f : BulkRecord → BulkRecord) : (s.updateRun n f).packs = s.packs := rfl
@[simp] theorem State.updateRun_bulking (s : State) (n : Nat) (f : BulkRecord → BulkRecord) :
    (s.updateRun n f).bulking = s.bulking.update n f := rfl
@[simp] theorem State.updateRun_invoices (s : State) (n : Nat) (f : BulkRecord → BulkRecord) : (s.updateRun n f).invoices = s.invoices := rfl
@[simp] theorem State.updateRun_actions (s : State) (n : Nat) (f : BulkRecord → BulkRecord) : (s.updateRun n f).actions = s.actions := rfl
@[simp] theorem State.updateRun_stencils (s : State) (n : Nat) (f : BulkRecord → BulkRecord) : (s.updateRun n f).stencils = s.stencils := rfl
@[simp] theorem State.updateRun_store (s : State) (n : Nat) (f : BulkRecord → BulkRecord) : (s.updateRun n f).store = s.store := rfl
@[simp] theorem State.updateRun_clock (s : State) (n : Nat) (f : BulkRecord → BulkRecord) : (s.updateRun n f).clock = s.clock := rfl
@[simp] theorem State.updateRun_link (s : State) (n : Nat) (f : BulkRecord → BulkRecord) : (s.updateRun n f).link = s.link := rfl
@[simp] theorem State.updateRun_settings (s : State) (n : Nat) (f : BulkRecord → BulkRecord) : (s.updateRun n f).settings = s.settings := rfl

@[simp] theorem State.setPackType_pending (s : State) (i : Fin 8) (p : PackType) : (s.setPackType i p).pending = s.pending := rfl
@[simp] theorem State.setPackType_transit (s : State) (i : Fin 8) (p : PackType) : (s.setPackType i p).transit = s.transit := rfl
@[simp] theorem State.setPackType_powered (s : State) (i : Fin 8) (p : PackType) : (s.setPackType i p).powered = s.powered := rfl
@[simp] theorem State.setPackType_stations (s : State) (i : Fin 8) (p : PackType) : (s.setPackType i p).stations = s.stations := rfl
@[simp] theorem State.setPackType_packs (s : State) (i : Fin 8) (p : PackType) :
    (s.setPackType i p).packs = { s.packs with types := s.packs.types.set i p } := rfl
@[simp] theorem State.setPackType_bulking (s : State) (i : Fin 8) (p : PackType) : (s.setPackType i p).bulking = s.bulking := rfl
@[simp] theorem State.setPackType_invoices (s : State) (i : Fin 8) (p : PackType) : (s.setPackType i p).invoices = s.invoices := rfl
@[simp] theorem State.setPackType_actions (s : State) (i : Fin 8) (p : PackType) : (s.setPackType i p).actions = s.actions := rfl
@[simp] theorem State.setPackType_stencils (s : State) (i : Fin 8) (p : PackType) : (s.setPackType i p).stencils = s.stencils := rfl
@[simp] theorem State.setPackType_store (s : State) (i : Fin 8) (p : PackType) : (s.setPackType i p).store = s.store := rfl
@[simp] theorem State.setPackType_clock (s : State) (i : Fin 8) (p : PackType) : (s.setPackType i p).clock = s.clock := rfl
@[simp] theorem State.setPackType_link (s : State) (i : Fin 8) (p : PackType) : (s.setPackType i p).link = s.link := rfl
@[simp] theorem State.setPackType_settings (s : State) (i : Fin 8) (p : PackType) : (s.setPackType i p).settings = s.settings := rfl

@[simp] theorem State.setActionSet_pending (s : State) (i : Fin 32) (a : ActionSet) : (s.setActionSet i a).pending = s.pending := rfl
@[simp] theorem State.setActionSet_transit (s : State) (i : Fin 32) (a : ActionSet) : (s.setActionSet i a).transit = s.transit := rfl
@[simp] theorem State.setActionSet_powered (s : State) (i : Fin 32) (a : ActionSet) : (s.setActionSet i a).powered = s.powered := rfl
@[simp] theorem State.setActionSet_stations (s : State) (i : Fin 32) (a : ActionSet) : (s.setActionSet i a).stations = s.stations := rfl
@[simp] theorem State.setActionSet_packs (s : State) (i : Fin 32) (a : ActionSet) : (s.setActionSet i a).packs = s.packs := rfl
@[simp] theorem State.setActionSet_bulking (s : State) (i : Fin 32) (a : ActionSet) : (s.setActionSet i a).bulking = s.bulking := rfl
@[simp] theorem State.setActionSet_invoices (s : State) (i : Fin 32) (a : ActionSet) : (s.setActionSet i a).invoices = s.invoices := rfl
@[simp] theorem State.setActionSet_actions (s : State) (i : Fin 32) (a : ActionSet) :
    (s.setActionSet i a).actions = { s.actions with sets := s.actions.sets.set i a } := rfl
@[simp] theorem State.setActionSet_stencils (s : State) (i : Fin 32) (a : ActionSet) : (s.setActionSet i a).stencils = s.stencils := rfl
@[simp] theorem State.setActionSet_store (s : State) (i : Fin 32) (a : ActionSet) : (s.setActionSet i a).store = s.store := rfl
@[simp] theorem State.setActionSet_clock (s : State) (i : Fin 32) (a : ActionSet) : (s.setActionSet i a).clock = s.clock := rfl
@[simp] theorem State.setActionSet_link (s : State) (i : Fin 32) (a : ActionSet) : (s.setActionSet i a).link = s.link := rfl
@[simp] theorem State.setActionSet_settings (s : State) (i : Fin 32) (a : ActionSet) : (s.setActionSet i a).settings = s.settings := rfl

@[simp] theorem State.setGate_pending (s : State) (i : Fin 8) (p : Option Pulse) : (s.setGate i p).pending = s.pending := rfl
@[simp] theorem State.setGate_transit (s : State) (i : Fin 8) (p : Option Pulse) : (s.setGate i p).transit = s.transit := rfl
@[simp] theorem State.setGate_powered (s : State) (i : Fin 8) (p : Option Pulse) : (s.setGate i p).powered = s.powered := rfl
@[simp] theorem State.setGate_stations (s : State) (i : Fin 8) (p : Option Pulse) : (s.setGate i p).stations = s.stations := rfl
@[simp] theorem State.setGate_packs (s : State) (i : Fin 8) (p : Option Pulse) : (s.setGate i p).packs = s.packs := rfl
@[simp] theorem State.setGate_bulking (s : State) (i : Fin 8) (p : Option Pulse) : (s.setGate i p).bulking = s.bulking := rfl
@[simp] theorem State.setGate_invoices (s : State) (i : Fin 8) (p : Option Pulse) : (s.setGate i p).invoices = s.invoices := rfl
@[simp] theorem State.setGate_actions (s : State) (i : Fin 8) (p : Option Pulse) :
    (s.setGate i p).actions = { s.actions with gates := s.actions.gates.set i p } := rfl
@[simp] theorem State.setGate_stencils (s : State) (i : Fin 8) (p : Option Pulse) : (s.setGate i p).stencils = s.stencils := rfl
@[simp] theorem State.setGate_store (s : State) (i : Fin 8) (p : Option Pulse) : (s.setGate i p).store = s.store := rfl
@[simp] theorem State.setGate_clock (s : State) (i : Fin 8) (p : Option Pulse) : (s.setGate i p).clock = s.clock := rfl
@[simp] theorem State.setGate_link (s : State) (i : Fin 8) (p : Option Pulse) : (s.setGate i p).link = s.link := rfl
@[simp] theorem State.setGate_settings (s : State) (i : Fin 8) (p : Option Pulse) : (s.setGate i p).settings = s.settings := rfl

@[simp] theorem State.setClock_pending (s : State) (r : ClockReading) : (s.setClock r).pending = s.pending := rfl
@[simp] theorem State.setClock_transit (s : State) (r : ClockReading) : (s.setClock r).transit = s.transit := rfl
@[simp] theorem State.setClock_powered (s : State) (r : ClockReading) : (s.setClock r).powered = s.powered := rfl
@[simp] theorem State.setClock_stations (s : State) (r : ClockReading) : (s.setClock r).stations = s.stations := rfl
@[simp] theorem State.setClock_packs (s : State) (r : ClockReading) : (s.setClock r).packs = s.packs := rfl
@[simp] theorem State.setClock_bulking (s : State) (r : ClockReading) : (s.setClock r).bulking = s.bulking := rfl
@[simp] theorem State.setClock_invoices (s : State) (r : ClockReading) : (s.setClock r).invoices = s.invoices := rfl
@[simp] theorem State.setClock_actions (s : State) (r : ClockReading) : (s.setClock r).actions = s.actions := rfl
@[simp] theorem State.setClock_stencils (s : State) (r : ClockReading) : (s.setClock r).stencils = s.stencils := rfl
@[simp] theorem State.setClock_store (s : State) (r : ClockReading) : (s.setClock r).store = s.store := rfl
@[simp] theorem State.setClock_clock (s : State) (r : ClockReading) :
    (s.setClock r).clock = ⟨some r, 0⟩ := rfl
@[simp] theorem State.setClock_link (s : State) (r : ClockReading) : (s.setClock r).link = s.link := rfl
@[simp] theorem State.setClock_settings (s : State) (r : ClockReading) : (s.setClock r).settings = s.settings := rfl

@[simp] theorem State.setHead_pending (s : State) (i : Fin 2) (h : Head) : (s.setHead i h).pending = s.pending := rfl
@[simp] theorem State.setHead_transit (s : State) (i : Fin 2) (h : Head) : (s.setHead i h).transit = s.transit := rfl
@[simp] theorem State.setHead_powered (s : State) (i : Fin 2) (h : Head) : (s.setHead i h).powered = s.powered := rfl
@[simp] theorem State.setHead_stations (s : State) (i : Fin 2) (h : Head) : (s.setHead i h).stations = s.stations := rfl
@[simp] theorem State.setHead_packs (s : State) (i : Fin 2) (h : Head) : (s.setHead i h).packs = s.packs := rfl
@[simp] theorem State.setHead_bulking (s : State) (i : Fin 2) (h : Head) : (s.setHead i h).bulking = s.bulking := rfl
@[simp] theorem State.setHead_invoices (s : State) (i : Fin 2) (h : Head) : (s.setHead i h).invoices = s.invoices := rfl
@[simp] theorem State.setHead_actions (s : State) (i : Fin 2) (h : Head) : (s.setHead i h).actions = s.actions := rfl
@[simp] theorem State.setHead_stencils (s : State) (i : Fin 2) (h : Head) :
    (s.setHead i h).stencils = { s.stencils with heads := s.stencils.heads.set i h } := rfl
@[simp] theorem State.setHead_store (s : State) (i : Fin 2) (h : Head) : (s.setHead i h).store = s.store := rfl
@[simp] theorem State.setHead_clock (s : State) (i : Fin 2) (h : Head) : (s.setHead i h).clock = s.clock := rfl
@[simp] theorem State.setHead_link (s : State) (i : Fin 2) (h : Head) : (s.setHead i h).link = s.link := rfl
@[simp] theorem State.setHead_settings (s : State) (i : Fin 2) (h : Head) : (s.setHead i h).settings = s.settings := rfl

@[simp] theorem State.updateSheet_pending (s : State) (n : Nat) (f : Sheet → Sheet) : (s.updateSheet n f).pending = s.pending := rfl
@[simp] theorem State.updateSheet_transit (s : State) (n : Nat) (f : Sheet → Sheet) : (s.updateSheet n f).transit = s.transit := rfl
@[simp] theorem State.updateSheet_powered (s : State) (n : Nat) (f : Sheet → Sheet) : (s.updateSheet n f).powered = s.powered := rfl
@[simp] theorem State.updateSheet_stations (s : State) (n : Nat) (f : Sheet → Sheet) : (s.updateSheet n f).stations = s.stations := rfl
@[simp] theorem State.updateSheet_packs (s : State) (n : Nat) (f : Sheet → Sheet) : (s.updateSheet n f).packs = s.packs := rfl
@[simp] theorem State.updateSheet_bulking (s : State) (n : Nat) (f : Sheet → Sheet) : (s.updateSheet n f).bulking = s.bulking := rfl
@[simp] theorem State.updateSheet_invoices (s : State) (n : Nat) (f : Sheet → Sheet) : (s.updateSheet n f).invoices = s.invoices := rfl
@[simp] theorem State.updateSheet_actions (s : State) (n : Nat) (f : Sheet → Sheet) : (s.updateSheet n f).actions = s.actions := rfl
@[simp] theorem State.updateSheet_stencils (s : State) (n : Nat) (f : Sheet → Sheet) : (s.updateSheet n f).stencils = s.stencils := rfl
@[simp] theorem State.updateSheet_store (s : State) (n : Nat) (f : Sheet → Sheet) :
    (s.updateSheet n f).store = s.store.updateReserved n f := rfl
@[simp] theorem State.updateSheet_clock (s : State) (n : Nat) (f : Sheet → Sheet) : (s.updateSheet n f).clock = s.clock := rfl
@[simp] theorem State.updateSheet_link (s : State) (n : Nat) (f : Sheet → Sheet) : (s.updateSheet n f).link = s.link := rfl
@[simp] theorem State.updateSheet_settings (s : State) (n : Nat) (f : Sheet → Sheet) : (s.updateSheet n f).settings = s.settings := rfl

end Sys2Proof.Machine
end

