-- ==== Sys2Proof/Laws/Frames.lean ====
section
/-! SUPPORT. What each shared operation may write: one lemma for each that says the state it leaves is the one it found but
for the fields named, and lemmas that say what the status arrivals and the chains leave of those. -/

namespace Sys2Proof.Machine

/-! ### Places of a vector named by a `Fin` -/

/-- The place written reads back what was written. -/
theorem vector_set_self {α : Type} {n : Nat} (v : Vector α n) (i : Fin n) (x : α) : (v.set i x)[i] = x := by simp

/-- Every other place reads as before. -/
theorem vector_set_other {α : Type} {n : Nat} (v : Vector α n) (i j : Fin n) (x : α) (h : j ≠ i) :
    (v.set i x)[j] = v[j] := by
  have : (i : Nat) ≠ j := fun e => h (Fin.ext e.symm)
  simp [this]

/-- Writing what a place already holds changes nothing. -/
theorem vector_set_same {α : Type} {n : Nat} (v : Vector α n) (i : Fin n) : v.set i v[i] = v := by simp

/-! ### Slots and the reply line -/

theorem State.slotBecomesReady_frame (s : State) (i : Fin 4) (o : SlotOutcome) (a : Option SlotAnswer) :
    s.slotBecomesReady i o a =
      { s with transit := (s.slotBecomesReady i o a).transit
               link := { s.link with slots := (s.slotBecomesReady i o a).link.slots } } := by
  unfold State.slotBecomesReady; split <;> rfl

theorem State.slotArrival_frame (s : State) (k : SlotKey) (o : SlotOutcome) (a : Option SlotAnswer) :
    s.slotArrival k o a =
      { s with transit := (s.slotArrival k o a).transit
               link := { s.link with slots := (s.slotArrival k o a).link.slots } } := by
  unfold State.slotArrival; split
  · exact State.slotBecomesReady_frame s _ o a
  · rfl

theorem Link.beginSend_frame (l : Link) : l.beginSend =
    { l with sending := l.beginSend.sending, replies := l.beginSend.replies, notices := l.beginSend.notices } := by
  unfold Link.beginSend; split <;> rfl

@[simp] theorem Link.beginSend_lineSpeed (l : Link) : l.beginSend.lineSpeed = l.lineSpeed := by rw [Link.beginSend_frame]
@[simp] theorem Link.beginSend_speedSetting (l : Link) : l.beginSend.speedSetting = l.speedSetting := by rw [Link.beginSend_frame]
@[simp] theorem Link.beginSend_receiver (l : Link) : l.beginSend.receiver = l.receiver := by rw [Link.beginSend_frame]
@[simp] theorem Link.beginSend_counter (l : Link) : l.beginSend.counter = l.counter := by rw [Link.beginSend_frame]
@[simp] theorem Link.beginSend_mask (l : Link) : l.beginSend.mask = l.mask := by rw [Link.beginSend_frame]
@[simp] theorem Link.beginSend_slots (l : Link) : l.beginSend.slots = l.slots := by rw [Link.beginSend_frame]
@[simp] theorem Link.beginSend_linkError (l : Link) : l.beginSend.linkError = l.linkError := by rw [Link.beginSend_frame]
@[simp] theorem Link.beginSend_holding (l : Link) : l.beginSend.holding = l.holding := by rw [Link.beginSend_frame]
@[simp] theorem Link.beginSend_inHand (l : Link) : l.beginSend.inHand = l.inHand := by rw [Link.beginSend_frame]
@[simp] theorem Link.beginSend_noticesLost (l : Link) : l.beginSend.noticesLost = l.noticesLost := by rw [Link.beginSend_frame]

theorem Link.release_frame (l : Link) (kind : Byte) :
    l.release kind = { l with inHand := (l.release kind).inHand } := by
  unfold Link.release; split
  · split <;> rfl
  · rfl

@[simp] theorem Link.release_lineSpeed (l : Link) (k : Byte) : (l.release k).lineSpeed = l.lineSpeed := by
  rw [Link.release_frame]
@[simp] theorem Link.release_speedSetting (l : Link) (k : Byte) : (l.release k).speedSetting = l.speedSetting := by
  rw [Link.release_frame]
@[simp] theorem Link.release_receiver (l : Link) (k : Byte) : (l.release k).receiver = l.receiver := by
  rw [Link.release_frame]
@[simp] theorem Link.release_counter (l : Link) (k : Byte) : (l.release k).counter = l.counter := by
  rw [Link.release_frame]
@[simp] theorem Link.release_mask (l : Link) (k : Byte) : (l.release k).mask = l.mask := by
  rw [Link.release_frame]
@[simp] theorem Link.release_slots (l : Link) (k : Byte) : (l.release k).slots = l.slots := by
  rw [Link.release_frame]
@[simp] theorem Link.release_linkError (l : Link) (k : Byte) : (l.release k).linkError = l.linkError := by
  rw [Link.release_frame]
@[simp] theorem Link.release_noticesLost (l : Link) (k : Byte) : (l.release k).noticesLost = l.noticesLost := by
  rw [Link.release_frame]
@[simp] theorem Link.release_replies (l : Link) (k : Byte) : (l.release k).replies = l.replies := by
  rw [Link.release_frame]
@[simp] theorem Link.release_sending (l : Link) (k : Byte) : (l.release k).sending = l.sending := by
  rw [Link.release_frame]
@[simp] theorem Link.release_notices (l : Link) (k : Byte) : (l.release k).notices = l.notices := by
  rw [Link.release_frame]
@[simp] theorem Link.release_holding (l : Link) (k : Byte) : (l.release k).holding = l.holding := by
  rw [Link.release_frame]

@[simp] theorem Link.joinReply_lineSpeed (l : Link) (r : Reply) : (l.joinReply r).lineSpeed = l.lineSpeed := rfl
@[simp] theorem Link.joinReply_speedSetting (l : Link) (r : Reply) : (l.joinReply r).speedSetting = l.speedSetting := rfl
@[simp] theorem Link.joinReply_receiver (l : Link) (r : Reply) : (l.joinReply r).receiver = l.receiver := rfl
@[simp] theorem Link.joinReply_counter (l : Link) (r : Reply) : (l.joinReply r).counter = l.counter := rfl
@[simp] theorem Link.joinReply_mask (l : Link) (r : Reply) : (l.joinReply r).mask = l.mask := rfl
@[simp] theorem Link.joinReply_slots (l : Link) (r : Reply) : (l.joinReply r).slots = l.slots := rfl
@[simp] theorem Link.joinReply_linkError (l : Link) (r : Reply) : (l.joinReply r).linkError = l.linkError := rfl
@[simp] theorem Link.joinReply_noticesLost (l : Link) (r : Reply) : (l.joinReply r).noticesLost = l.noticesLost := rfl
@[simp] theorem Link.joinReply_sending (l : Link) (r : Reply) : (l.joinReply r).sending = l.sending := rfl
@[simp] theorem Link.joinReply_notices (l : Link) (r : Reply) : (l.joinReply r).notices = l.notices := rfl
@[simp] theorem Link.joinReply_holding (l : Link) (r : Reply) : (l.joinReply r).holding = l.holding := rfl
@[simp] theorem Link.joinReply_inHand (l : Link) (r : Reply) : (l.joinReply r).inHand = l.inHand := rfl
@[simp] theorem Link.joinReply_replies (l : Link) (r : Reply) : (l.joinReply r).replies = l.replies ++ [r] := rfl

/-! ### Stations -/

theorem limitZero_frame (i : Fin 4) (s : State) : limitZero i s =
    { s with
      stations := s.stations.set i { s.stations[i] with
        zt := if s.stations[i].settings.zeroLimit < s.stations[i].zt.natAbs then
            clampAbs s.stations[i].settings.zeroLimit s.stations[i].zt
          else s.stations[i].zt }
      transit := s.transit ++ if s.stations[i].settings.zeroLimit < s.stations[i].zt.natAbs then
          [.noticeOffer (.zeroLimit i s.stations[i].zt)] else [] } := by
  unfold limitZero
  simp only []
  split
  · simp_all [State.notify, State.send, State.setStation]
  · rename_i h
    simp only [List.append_nil]
    have : s.stations.set i s.stations[i] = s.stations := by simp
    exact (congrArg (fun x => ({ s with stations := x } : State)) this).symm

theorem trackZero_frame (i : Fin 4) (s : State) : trackZero i s =
    { s with stations := (trackZero i s).stations, transit := (trackZero i s).transit } := by
  unfold trackZero
  simp only []
  split
  · rfl
  · split <;> rfl

theorem decideChest_frame (i : Fin 4) (q : Int) (s : State) : decideChest i q s =
    { s with stations := (decideChest i q s).stations, transit := (decideChest i q s).transit } := by
  unfold decideChest
  split
  · rfl
  · simp only []; split <;> rfl

theorem takeDecision_frame (i : Fin 4) (q : Int) (s : State) : takeDecision i q s =
    { s with stations := (takeDecision i q s).stations, transit := (takeDecision i q s).transit } := by
  unfold takeDecision
  split
  · exact decideChest_frame i q s
  · rfl
  · rfl

theorem decideIfSettled_frame (i : Fin 4) (s : State) : decideIfSettled i s =
    { s with stations := (decideIfSettled i s).stations, transit := (decideIfSettled i s).transit } := by
  unfold decideIfSettled
  simp only []
  split
  · exact takeDecision_frame i _ s
  · rfl

theorem watchDisturbance_frame (i : Fin 4) (s : State) : watchDisturbance i s =
    { s with stations := (watchDisturbance i s).stations, transit := (watchDisturbance i s).transit } := by
  unfold watchDisturbance
  simp only []
  split <;> rfl

theorem inDecided_frame (i : Fin 4) (entered : Bool) (s : State) : inDecided i entered s =
    { s with stations := (inDecided i entered s).stations, transit := (inDecided i entered s).transit } := by
  unfold inDecided
  simp only []
  split
  · split
    · split
      · exact decideChest_frame i _ s
      · rfl
    · split
      · exact decideChest_frame i _ s
      · rfl
    · exact watchDisturbance_frame i s
    · rfl
  · rfl

theorem loadCycle_frame (i : Fin 4) (entered : Bool) (s : State) : loadCycle i entered s =
    { s with stations := (loadCycle i entered s).stations, transit := (loadCycle i entered s).transit } := by
  unfold loadCycle
  simp only []
  split
  · split
    · rfl
    · split
      · rw [trackZero_frame]; rfl
      · rfl
  · split
    · split
      · exact trackZero_frame i s
      · rfl
    · rw [decideIfSettled_frame]; rfl
  · split
    · rfl
    · exact decideIfSettled_frame i s
  · split
    · rfl
    · exact inDecided_frame i entered s
  · rfl

/-! ### Stencil statuses -/

/-- A function that rewrites the status of a chest and nothing else. -/
def OnlyStatus (g : Chest → Chest) : Prop := ∀ c, g c = { c with status := (g c).status }

theorem OnlyStatus.comp {f g : Chest → Chest} (hf : OnlyStatus f) (hg : OnlyStatus g) : OnlyStatus (fun c => f (g c)) := by
  intro c
  show f (g c) = { c with status := (f (g c)).status }
  refine (hf (g c)).trans ?_
  rw [hg c]

theorem State.setStatus_onlyStatus (s : State) (serial : Nat) (st : StencilStatus) :
    ∃ g, OnlyStatus g ∧ s.setStatus serial st = { s with invoices := { s.invoices with
      invoices := s.invoices.invoices.map fun v => { v with chests := v.chests.map g } } } := by
  refine ⟨fun c => if c.serial == serial then { c with status := st } else c, ?_, rfl⟩
  intro c
  by_cases h : c.serial == serial <;> simp [h]

theorem map_id_chests (l : List Invoice) : l.map (fun v => { v with chests := v.chests.map fun c => c }) = l := by
  simp

theorem State.takeIfStatus_onlyStatus (s : State) (m : Instr) :
    ∃ g, OnlyStatus g ∧ s.takeIfStatus m = { s with invoices := { s.invoices with
      invoices := s.invoices.invoices.map fun v => { v with chests := v.chests.map g } } } := by
  unfold State.takeIfStatus
  split
  · unfold State.takeStatus
    split
    · exact State.setStatus_onlyStatus s _ _
    · exact ⟨fun c => c, fun _ => rfl, by simp⟩
  · exact ⟨fun c => c, fun _ => rfl, by simp⟩

theorem State.foldl_takeIfStatus_onlyStatus (ms : List Instr) (s : State) :
    ∃ g, OnlyStatus g ∧ ms.foldl State.takeIfStatus s = { s with invoices := { s.invoices with
      invoices := s.invoices.invoices.map fun v => { v with chests := v.chests.map g } } } := by
  induction ms generalizing s with
  | nil => exact ⟨fun c => c, fun _ => rfl, by simp⟩
  | cons m ms ih =>
    obtain ⟨f, hf, e⟩ := State.takeIfStatus_onlyStatus s m
    obtain ⟨g, hg, e'⟩ := ih (s.takeIfStatus m)
    refine ⟨fun c => g (f c), hg.comp hf, ?_⟩
    rw [List.foldl_cons, e', e]
    simp [Function.comp_def]

/-- Taking the status arrivals removes them from transit and rewrites statuses of chests, and does nothing else (R91,
R123, R126). -/
theorem State.takeStatuses_onlyStatus (s : State) :
    ∃ g, OnlyStatus g ∧ s.takeStatuses = { s with
      transit := s.transit.filter fun m => !isStatus m
      invoices := { s.invoices with
        invoices := s.invoices.invoices.map fun v => { v with chests := v.chests.map g } } } := by
  obtain ⟨g, hg, e⟩ := State.foldl_takeIfStatus_onlyStatus (s.transit.filter isStatus)
    { s with transit := s.transit.filter fun m => !isStatus m }
  exact ⟨g, hg, e⟩

/-- Rewriting statuses keeps every record. -/
theorem InvoiceTable.find_onlyStatus (t : InvoiceTable) (g : Chest → Chest) (n : Nat) :
    ({ t with invoices := t.invoices.map fun v => { v with chests := v.chests.map g } } : InvoiceTable).find n =
      (t.find n).map fun v => { v with chests := v.chests.map g } := by
  simp [InvoiceTable.find, List.find?_map, Function.comp_def]

/-- Rewriting statuses keeps every chest of a serial but its status. -/
theorem InvoiceTable.findSerial_onlyStatus (t : InvoiceTable) (g : Chest → Chest) (hg : OnlyStatus g) (serial : Nat) :
    ({ t with invoices := t.invoices.map fun v => { v with chests := v.chests.map g } } : InvoiceTable).findSerial serial =
      (t.findSerial serial).map fun p => ({ p.1 with chests := p.1.chests.map g }, g p.2) := by
  have hs : ∀ c, (g c).serial = c.serial := fun c => by rw [hg c]
  simp only [InvoiceTable.findSerial]
  induction t.invoices with
  | nil => rfl
  | cons v l ih =>
    simp only [List.map_cons, List.findSome?_cons, List.find?_map, Function.comp_def, hs]
    cases h : v.chests.find? (fun c => c.serial == serial) with
    | none => simpa [h] using ih
    | some c => simp

/-! ### The dispatcher's chains -/

theorem performAction_frame (i : Fin 32) (source : Fin 20) (x : EventContext) (a : Action) (s : State) :
    performAction i source x a s =
      { s with transit := (performAction i source x a s).transit
               actions := { s.actions with gates := (performAction i source x a s).actions.gates } } := by
  cases a <;> rfl

theorem expireSet_frame (i : Fin 32) (source : Fin 20) (a : ActionSet) (s : State) : expireSet i source a s =
    { s with transit := (expireSet i source a s).transit
             actions := { s.actions with sets := (expireSet i source a s).actions.sets } } := by
  unfold expireSet
  split
  · rfl
  · simp only []; split <;> rfl

@[simp] theorem performAction_pending (i : Fin 32) (k : Fin 20) (x : EventContext) (a : Action) (s : State) :
    (performAction i k x a s).pending = s.pending := by rw [performAction_frame]
@[simp] theorem performAction_powered (i : Fin 32) (k : Fin 20) (x : EventContext) (a : Action) (s : State) :
    (performAction i k x a s).powered = s.powered := by rw [performAction_frame]
@[simp] theorem performAction_stations (i : Fin 32) (k : Fin 20) (x : EventContext) (a : Action) (s : State) :
    (performAction i k x a s).stations = s.stations := by rw [performAction_frame]
@[simp] theorem performAction_packs (i : Fin 32) (k : Fin 20) (x : EventContext) (a : Action) (s : State) :
    (performAction i k x a s).packs = s.packs := by rw [performAction_frame]
@[simp] theorem performAction_bulking (i : Fin 32) (k : Fin 20) (x : EventContext) (a : Action) (s : State) :
    (performAction i k x a s).bulking = s.bulking := by rw [performAction_frame]
@[simp] theorem performAction_invoices (i : Fin 32) (k : Fin 20) (x : EventContext) (a : Action) (s : State) :
    (performAction i k x a s).invoices = s.invoices := by rw [performAction_frame]
@[simp] theorem performAction_stencils (i : Fin 32) (k : Fin 20) (x : EventContext) (a : Action) (s : State) :
    (performAction i k x a s).stencils = s.stencils := by rw [performAction_frame]
@[simp] theorem performAction_store (i : Fin 32) (k : Fin 20) (x : EventContext) (a : Action) (s : State) :
    (performAction i k x a s).store = s.store := by rw [performAction_frame]
@[simp] theorem performAction_clock (i : Fin 32) (k : Fin 20) (x : EventContext) (a : Action) (s : State) :
    (performAction i k x a s).clock = s.clock := by rw [performAction_frame]
@[simp] theorem performAction_link (i : Fin 32) (k : Fin 20) (x : EventContext) (a : Action) (s : State) :
    (performAction i k x a s).link = s.link := by rw [performAction_frame]
@[simp] theorem performAction_settings (i : Fin 32) (k : Fin 20) (x : EventContext) (a : Action) (s : State) :
    (performAction i k x a s).settings = s.settings := by rw [performAction_frame]
@[simp] theorem performAction_actions_vectors (i : Fin 32) (k : Fin 20) (x : EventContext) (a : Action) (s : State) :
    (performAction i k x a s).actions.vectors = s.actions.vectors := by rw [performAction_frame]
@[simp] theorem performAction_actions_sets (i : Fin 32) (k : Fin 20) (x : EventContext) (a : Action) (s : State) :
    (performAction i k x a s).actions.sets = s.actions.sets := by rw [performAction_frame]

@[simp] theorem expireSet_pending (i : Fin 32) (k : Fin 20) (a : ActionSet) (s : State) :
    (expireSet i k a s).pending = s.pending := by rw [expireSet_frame]
@[simp] theorem expireSet_powered (i : Fin 32) (k : Fin 20) (a : ActionSet) (s : State) :
    (expireSet i k a s).powered = s.powered := by rw [expireSet_frame]
@[simp] theorem expireSet_stations (i : Fin 32) (k : Fin 20) (a : ActionSet) (s : State) :
    (expireSet i k a s).stations = s.stations := by rw [expireSet_frame]
@[simp] theorem expireSet_packs (i : Fin 32) (k : Fin 20) (a : ActionSet) (s : State) :
    (expireSet i k a s).packs = s.packs := by rw [expireSet_frame]
@[simp] theorem expireSet_bulking (i : Fin 32) (k : Fin 20) (a : ActionSet) (s : State) :
    (expireSet i k a s).bulking = s.bulking := by rw [expireSet_frame]
@[simp] theorem expireSet_invoices (i : Fin 32) (k : Fin 20) (a : ActionSet) (s : State) :
    (expireSet i k a s).invoices = s.invoices := by rw [expireSet_frame]
@[simp] theorem expireSet_stencils (i : Fin 32) (k : Fin 20) (a : ActionSet) (s : State) :
    (expireSet i k a s).stencils = s.stencils := by rw [expireSet_frame]
@[simp] theorem expireSet_store (i : Fin 32) (k : Fin 20) (a : ActionSet) (s : State) :
    (expireSet i k a s).store = s.store := by rw [expireSet_frame]
@[simp] theorem expireSet_clock (i : Fin 32) (k : Fin 20) (a : ActionSet) (s : State) :
    (expireSet i k a s).clock = s.clock := by rw [expireSet_frame]
@[simp] theorem expireSet_link (i : Fin 32) (k : Fin 20) (a : ActionSet) (s : State) :
    (expireSet i k a s).link = s.link := by rw [expireSet_frame]
@[simp] theorem expireSet_settings (i : Fin 32) (k : Fin 20) (a : ActionSet) (s : State) :
    (expireSet i k a s).settings = s.settings := by rw [expireSet_frame]
@[simp] theorem expireSet_actions_vectors (i : Fin 32) (k : Fin 20) (a : ActionSet) (s : State) :
    (expireSet i k a s).actions.vectors = s.actions.vectors := by rw [expireSet_frame]
@[simp] theorem expireSet_actions_gates (i : Fin 32) (k : Fin 20) (a : ActionSet) (s : State) :
    (expireSet i k a s).actions.gates = s.actions.gates := by rw [expireSet_frame]

@[simp] theorem runSet_pending (i : Fin 32) (k : Fin 20) (x : EventContext) (s : State) :
    (runSet i k x s).pending = s.pending := by
  unfold runSet; simp only []; split
  · rfl
  · split <;> split <;> simp [State.setActionSet]
@[simp] theorem runSet_powered (i : Fin 32) (k : Fin 20) (x : EventContext) (s : State) :
    (runSet i k x s).powered = s.powered := by
  unfold runSet; simp only []; split
  · rfl
  · split <;> split <;> simp [State.setActionSet]
@[simp] theorem runSet_stations (i : Fin 32) (k : Fin 20) (x : EventContext) (s : State) :
    (runSet i k x s).stations = s.stations := by
  unfold runSet; simp only []; split
  · rfl
  · split <;> split <;> simp [State.setActionSet]
@[simp] theorem runSet_packs (i : Fin 32) (k : Fin 20) (x : EventContext) (s : State) :
    (runSet i k x s).packs = s.packs := by
  unfold runSet; simp only []; split
  · rfl
  · split <;> split <;> simp [State.setActionSet]
@[simp] theorem runSet_bulking (i : Fin 32) (k : Fin 20) (x : EventContext) (s : State) :
    (runSet i k x s).bulking = s.bulking := by
  unfold runSet; simp only []; split
  · rfl
  · split <;> split <;> simp [State.setActionSet]
@[simp] theorem runSet_invoices (i : Fin 32) (k : Fin 20) (x : EventContext) (s : State) :
    (runSet i k x s).invoices = s.invoices := by
  unfold runSet; simp only []; split
  · rfl
  · split <;> split <;> simp [State.setActionSet]
@[simp] theorem runSet_stencils (i : Fin 32) (k : Fin 20) (x : EventContext) (s : State) :
    (runSet i k x s).stencils = s.stencils := by
  unfold runSet; simp only []; split
  · rfl
  · split <;> split <;> simp [State.setActionSet]
@[simp] theorem runSet_store (i : Fin 32) (k : Fin 20) (x : EventContext) (s : State) :
    (runSet i k x s).store = s.store := by
  unfold runSet; simp only []; split
  · rfl
  · split <;> split <;> simp [State.setActionSet]
@[simp] theorem runSet_clock (i : Fin 32) (k : Fin 20) (x : EventContext) (s : State) :
    (runSet i k x s).clock = s.clock := by
  unfold runSet; simp only []; split
  · rfl
  · split <;> split <;> simp [State.setActionSet]
@[simp] theorem runSet_link (i : Fin 32) (k : Fin 20) (x : EventContext) (s : State) :
    (runSet i k x s).link = s.link := by
  unfold runSet; simp only []; split
  · rfl
  · split <;> split <;> simp [State.setActionSet]
@[simp] theorem runSet_settings (i : Fin 32) (k : Fin 20) (x : EventContext) (s : State) :
    (runSet i k x s).settings = s.settings := by
  unfold runSet; simp only []; split
  · rfl
  · split <;> split <;> simp [State.setActionSet]
@[simp] theorem runSet_actions_vectors (i : Fin 32) (k : Fin 20) (x : EventContext) (s : State) :
    (runSet i k x s).actions.vectors = s.actions.vectors := by
  unfold runSet; simp only []; split
  · rfl
  · split <;> split <;> simp [State.setActionSet]

/-- A run writes the set it runs, the gate lines and what it sends (R104 to R111). -/
theorem runSet_frame (i : Fin 32) (k : Fin 20) (x : EventContext) (s : State) : runSet i k x s =
    { s with transit := (runSet i k x s).transit
             actions := { s.actions with sets := (runSet i k x s).actions.sets
                                         gates := (runSet i k x s).actions.gates } } := by
  apply State.ext <;> simp
  apply Dispatcher.ext <;> simp

theorem expireSet_other (i j : Fin 32) (source : Fin 20) (a : ActionSet) (s : State) (h : j ≠ i) :
    (expireSet i source a s).actions.sets[j] = s.actions.sets[j] := by
  unfold expireSet
  split
  · exact vector_set_other _ _ _ _ h
  · simp only []; split <;> exact vector_set_other _ _ _ _ h

/-- A run leaves every other set as it was (R104 to R106). -/
theorem runSet_other (i j : Fin 32) (source : Fin 20) (x : EventContext) (s : State) (h : j ≠ i) :
    (runSet i source x s).actions.sets[j] = s.actions.sets[j] := by
  unfold runSet
  simp only []
  split
  · rfl
  · split <;> split
    · rw [expireSet_other _ _ _ _ _ h, performAction_actions_sets]
    · rw [expireSet_other _ _ _ _ _ h]
    · simp only [State.setActionSet, performAction_actions_sets, vector_set_other _ _ _ _ h]
    · simp only [State.setActionSet, vector_set_other _ _ _ _ h]

@[simp] theorem runChain_pending (k : Fin 20) (x : EventContext) (fuel : Nat) (i : Fin 32) (s : State) :
    (runChain k x fuel i s).pending = s.pending := by
  induction fuel generalizing i s with
  | zero => rfl
  | succ fuel ih => unfold runChain; simp only []; repeat' split
                    all_goals simp [ih]
@[simp] theorem runChain_powered (k : Fin 20) (x : EventContext) (fuel : Nat) (i : Fin 32) (s : State) :
    (runChain k x fuel i s).powered = s.powered := by
  induction fuel generalizing i s with
  | zero => rfl
  | succ fuel ih => unfold runChain; simp only []; repeat' split
                    all_goals simp [ih]
@[simp] theorem runChain_stations (k : Fin 20) (x : EventContext) (fuel : Nat) (i : Fin 32) (s : State) :
    (runChain k x fuel i s).stations = s.stations := by
  induction fuel generalizing i s with
  | zero => rfl
  | succ fuel ih => unfold runChain; simp only []; repeat' split
                    all_goals simp [ih]
@[simp] theorem runChain_packs (k : Fin 20) (x : EventContext) (fuel : Nat) (i : Fin 32) (s : State) :
    (runChain k x fuel i s).packs = s.packs := by
  induction fuel generalizing i s with
  | zero => rfl
  | succ fuel ih => unfold runChain; simp only []; repeat' split
                    all_goals simp [ih]
@[simp] theorem runChain_bulking (k : Fin 20) (x : EventContext) (fuel : Nat) (i : Fin 32) (s : State) :
    (runChain k x fuel i s).bulking = s.bulking := by
  induction fuel generalizing i s with
  | zero => rfl
  | succ fuel ih => unfold runChain; simp only []; repeat' split
                    all_goals simp [ih]
@[simp] theorem runChain_invoices (k : Fin 20) (x : EventContext) (fuel : Nat) (i : Fin 32) (s : State) :
    (runChain k x fuel i s).invoices = s.invoices := by
  induction fuel generalizing i s with
  | zero => rfl
  | succ fuel ih => unfold runChain; simp only []; repeat' split
                    all_goals simp [ih]
@[simp] theorem runChain_stencils (k : Fin 20) (x : EventContext) (fuel : Nat) (i : Fin 32) (s : State) :
    (runChain k x fuel i s).stencils = s.stencils := by
  induction fuel generalizing i s with
  | zero => rfl
  | succ fuel ih => unfold runChain; simp only []; repeat' split
                    all_goals simp [ih]
@[simp] theorem runChain_store (k : Fin 20) (x : EventContext) (fuel : Nat) (i : Fin 32) (s : State) :
    (runChain k x fuel i s).store = s.store := by
  induction fuel generalizing i s with
  | zero => rfl
  | succ fuel ih => unfold runChain; simp only []; repeat' split
                    all_goals simp [ih]
@[simp] theorem runChain_clock (k : Fin 20) (x : EventContext) (fuel : Nat) (i : Fin 32) (s : State) :
    (runChain k x fuel i s).clock = s.clock := by
  induction fuel generalizing i s with
  | zero => rfl
  | succ fuel ih => unfold runChain; simp only []; repeat' split
                    all_goals simp [ih]
@[simp] theorem runChain_link (k : Fin 20) (x : EventContext) (fuel : Nat) (i : Fin 32) (s : State) :
    (runChain k x fuel i s).link = s.link := by
  induction fuel generalizing i s with
  | zero => rfl
  | succ fuel ih => unfold runChain; simp only []; repeat' split
                    all_goals simp [ih]
@[simp] theorem runChain_settings (k : Fin 20) (x : EventContext) (fuel : Nat) (i : Fin 32) (s : State) :
    (runChain k x fuel i s).settings = s.settings := by
  induction fuel generalizing i s with
  | zero => rfl
  | succ fuel ih => unfold runChain; simp only []; repeat' split
                    all_goals simp [ih]
@[simp] theorem runChain_actions_vectors (k : Fin 20) (x : EventContext) (fuel : Nat) (i : Fin 32) (s : State) :
    (runChain k x fuel i s).actions.vectors = s.actions.vectors := by
  induction fuel generalizing i s with
  | zero => rfl
  | succ fuel ih => unfold runChain; simp only []; repeat' split
                    all_goals simp [ih]

/-- A chain writes its sets, the gate lines and what it sends (R100, R107). -/
theorem runChain_frame (source : Fin 20) (x : EventContext) (fuel : Nat) (i : Fin 32) (s : State) :
    runChain source x fuel i s =
      { s with transit := (runChain source x fuel i s).transit
               actions := { s.actions with sets := (runChain source x fuel i s).actions.sets
                                           gates := (runChain source x fuel i s).actions.gates } } := by
  apply State.ext <;> simp
  apply Dispatcher.ext <;> simp

/-! ### Lots, builds and the waiting line -/

theorem lotEnquiry_frame (n : Nat) (s : State) : lotEnquiry n s =
    { s with invoices := { s.invoices with invoices := (lotEnquiry n s).invoices.invoices } } := rfl

/-- The beginning of a build writes the lot of its invoice and the head of its sheet (R150). -/
theorem beginBuild_frame (s : State) : beginBuild s =
    { s with invoices := { s.invoices with invoices := (beginBuild s).invoices.invoices }
             store := { s.store with sheets := (beginBuild s).store.sheets } } := by
  unfold beginBuild
  split
  · rfl
  · split
    · rfl
    · simp only []; split <;> rfl

/-- The waiting line's trial writes the states and lots of invoices and the record store (R153). -/
theorem tryWaiting_frame (l : List Nat) (s : State) : tryWaiting l s =
    { s with invoices := { s.invoices with invoices := (tryWaiting l s).invoices.invoices }
             store := (tryWaiting l s).store } := by
  induction l generalizing s with
  | nil => rfl
  | cons n l ih =>
    unfold tryWaiting
    split
    · exact ih s
    · split
      · rw [ih, beginBuild_frame]; rfl
      · rfl

/-- Taking jobs writes the head, the statuses and lots of invoices and what is sent (R129). -/
theorem takeJobs_frame (i : Fin 2) (l : List Job) (s : State) : takeJobs i l s =
    { s with transit := (takeJobs i l s).transit
             invoices := { s.invoices with invoices := (takeJobs i l s).invoices.invoices }
             stencils := { s.stencils with heads := (takeJobs i l s).stencils.heads } } := by
  induction l generalizing s with
  | nil => rfl
  | cons j l ih =>
    obtain ⟨g, -, e⟩ := State.takeStatuses_onlyStatus s
    unfold takeJobs
    simp only []
    split
    · rw [ih]; rfl
    · split
      · rw [ih]; rfl
      · split
        · rw [ih, e]; rfl
        · split
          · rw [e]; rfl
          · rw [e]; rfl

theorem takeNext_frame (i : Fin 2) (s : State) : takeNext i s =
    { s with transit := (takeNext i s).transit
             invoices := { s.invoices with invoices := (takeNext i s).invoices.invoices }
             stencils := { s.stencils with heads := (takeNext i s).stencils.heads } } := by
  unfold takeNext
  split
  · exact takeJobs_frame i _ s
  · rfl

end Sys2Proof.Machine
end

