-- ==== Sys2Proof/Laws/Keeps.lean ====
section
/-! SUPPORT. What each operation over the part leaves as it was: one lemma for each, over every field it does not write. -/

namespace Sys2Proof.Machine

@[simp] theorem State.slotBecomesReady_keeps (s : State) (i : Fin 4) (o : SlotOutcome) (a : Option SlotAnswer) :
    (s.slotBecomesReady i o a).pending = s.pending ∧ (s.slotBecomesReady i o a).powered = s.powered ∧
    (s.slotBecomesReady i o a).stations = s.stations ∧ (s.slotBecomesReady i o a).packs = s.packs ∧
    (s.slotBecomesReady i o a).bulking = s.bulking ∧ (s.slotBecomesReady i o a).invoices = s.invoices ∧
    (s.slotBecomesReady i o a).actions = s.actions ∧ (s.slotBecomesReady i o a).stencils = s.stencils ∧
    (s.slotBecomesReady i o a).store = s.store ∧ (s.slotBecomesReady i o a).clock = s.clock ∧
    (s.slotBecomesReady i o a).link.lineSpeed = s.link.lineSpeed ∧
    (s.slotBecomesReady i o a).link.speedSetting = s.link.speedSetting ∧
    (s.slotBecomesReady i o a).link.receiver = s.link.receiver ∧
    (s.slotBecomesReady i o a).link.holding = s.link.holding ∧
    (s.slotBecomesReady i o a).link.inHand = s.link.inHand ∧
    (s.slotBecomesReady i o a).link.replies = s.link.replies ∧
    (s.slotBecomesReady i o a).link.sending = s.link.sending ∧
    (s.slotBecomesReady i o a).link.notices = s.link.notices ∧
    (s.slotBecomesReady i o a).link.counter = s.link.counter ∧ (s.slotBecomesReady i o a).link.mask = s.link.mask ∧
    (s.slotBecomesReady i o a).link.linkError = s.link.linkError ∧
    (s.slotBecomesReady i o a).link.noticesLost = s.link.noticesLost ∧
    (s.slotBecomesReady i o a).settings = s.settings := by
  rw [State.slotBecomesReady_frame]; simp

@[simp] theorem State.slotArrival_keeps (s : State) (k : SlotKey) (o : SlotOutcome) (a : Option SlotAnswer) :
    (s.slotArrival k o a).pending = s.pending ∧ (s.slotArrival k o a).powered = s.powered ∧
    (s.slotArrival k o a).stations = s.stations ∧ (s.slotArrival k o a).packs = s.packs ∧
    (s.slotArrival k o a).bulking = s.bulking ∧ (s.slotArrival k o a).invoices = s.invoices ∧
    (s.slotArrival k o a).actions = s.actions ∧ (s.slotArrival k o a).stencils = s.stencils ∧
    (s.slotArrival k o a).store = s.store ∧ (s.slotArrival k o a).clock = s.clock ∧
    (s.slotArrival k o a).link.lineSpeed = s.link.lineSpeed ∧
    (s.slotArrival k o a).link.speedSetting = s.link.speedSetting ∧
    (s.slotArrival k o a).link.receiver = s.link.receiver ∧ (s.slotArrival k o a).link.holding = s.link.holding ∧
    (s.slotArrival k o a).link.inHand = s.link.inHand ∧ (s.slotArrival k o a).link.replies = s.link.replies ∧
    (s.slotArrival k o a).link.sending = s.link.sending ∧ (s.slotArrival k o a).link.notices = s.link.notices ∧
    (s.slotArrival k o a).link.counter = s.link.counter ∧ (s.slotArrival k o a).link.mask = s.link.mask ∧
    (s.slotArrival k o a).link.linkError = s.link.linkError ∧
    (s.slotArrival k o a).link.noticesLost = s.link.noticesLost ∧ (s.slotArrival k o a).settings = s.settings := by
  rw [State.slotArrival_frame]; simp

@[simp] theorem State.takeStatus_keeps (s : State) (serial : Nat) (a : StatusArrival) :
    (s.takeStatus serial a).pending = s.pending ∧ (s.takeStatus serial a).transit = s.transit ∧
    (s.takeStatus serial a).powered = s.powered ∧ (s.takeStatus serial a).stations = s.stations ∧
    (s.takeStatus serial a).packs = s.packs ∧ (s.takeStatus serial a).bulking = s.bulking ∧
    (s.takeStatus serial a).invoices.queues = s.invoices.queues ∧
    (s.takeStatus serial a).invoices.nextSerial = s.invoices.nextSerial ∧
    (s.takeStatus serial a).actions = s.actions ∧ (s.takeStatus serial a).stencils = s.stencils ∧
    (s.takeStatus serial a).store = s.store ∧ (s.takeStatus serial a).clock = s.clock ∧
    (s.takeStatus serial a).link = s.link ∧ (s.takeStatus serial a).settings = s.settings := by
  unfold State.takeStatus; (try simp only []); (repeat' split) <;> (first | (refine ⟨rfl, rfl, rfl, rfl, rfl, rfl, rfl, rfl, rfl, rfl, rfl, rfl, rfl, rfl⟩; done) | (simp; done) | simp_all)

@[simp] theorem State.takeIfStatus_keeps (s : State) (m : Instr) :
    (s.takeIfStatus m).pending = s.pending ∧ (s.takeIfStatus m).transit = s.transit ∧
    (s.takeIfStatus m).powered = s.powered ∧ (s.takeIfStatus m).stations = s.stations ∧
    (s.takeIfStatus m).packs = s.packs ∧ (s.takeIfStatus m).bulking = s.bulking ∧
    (s.takeIfStatus m).invoices.queues = s.invoices.queues ∧
    (s.takeIfStatus m).invoices.nextSerial = s.invoices.nextSerial ∧ (s.takeIfStatus m).actions = s.actions ∧
    (s.takeIfStatus m).stencils = s.stencils ∧ (s.takeIfStatus m).store = s.store ∧
    (s.takeIfStatus m).clock = s.clock ∧ (s.takeIfStatus m).link = s.link ∧ (s.takeIfStatus m).settings = s.settings := by
  obtain ⟨g, -, e⟩ := State.takeIfStatus_onlyStatus s m
  rw [e]; simp

@[simp] theorem State.takeStatuses_keeps (s : State) :
    (s.takeStatuses).pending = s.pending ∧ (s.takeStatuses).powered = s.powered ∧
    (s.takeStatuses).stations = s.stations ∧ (s.takeStatuses).packs = s.packs ∧ (s.takeStatuses).bulking = s.bulking ∧
    (s.takeStatuses).invoices.queues = s.invoices.queues ∧
    (s.takeStatuses).invoices.nextSerial = s.invoices.nextSerial ∧ (s.takeStatuses).actions = s.actions ∧
    (s.takeStatuses).stencils = s.stencils ∧ (s.takeStatuses).store = s.store ∧ (s.takeStatuses).clock = s.clock ∧
    (s.takeStatuses).link = s.link ∧ (s.takeStatuses).settings = s.settings := by
  obtain ⟨g, -, e⟩ := State.takeStatuses_onlyStatus s
  rw [e]; simp

@[simp] theorem completeRun_keeps (r : BulkRecord) (s : State) :
    (completeRun r s).pending = s.pending ∧ (completeRun r s).powered = s.powered ∧
    (completeRun r s).stations = s.stations ∧ (completeRun r s).packs = s.packs ∧
    (completeRun r s).bulking.preact = s.bulking.preact ∧
    (completeRun r s).bulking.preactStart = s.bulking.preactStart ∧
    (completeRun r s).bulking.tolerance = s.bulking.tolerance ∧
    (completeRun r s).bulking.nextRun = s.bulking.nextRun ∧ (completeRun r s).bulking.gateOpen = s.bulking.gateOpen ∧
    (completeRun r s).bulking.stallTimer = s.bulking.stallTimer ∧
    (completeRun r s).bulking.lastReading = s.bulking.lastReading ∧ (completeRun r s).invoices = s.invoices ∧
    (completeRun r s).actions = s.actions ∧ (completeRun r s).stencils = s.stencils ∧
    (completeRun r s).store = s.store ∧ (completeRun r s).clock = s.clock ∧ (completeRun r s).link = s.link ∧
    (completeRun r s).settings = s.settings := by
  unfold completeRun; (try simp only []); (repeat' split) <;> (first | (refine ⟨rfl, rfl, rfl, rfl, rfl, rfl, rfl, rfl, rfl, rfl, rfl, rfl, rfl, rfl, rfl, rfl, rfl, rfl⟩; done) | (simp; done) | simp_all)

@[simp] theorem startReading_keeps (r : BulkRecord) (i : Nat) (c : Component) (q : Int) (s : State) :
    (startReading r i c q s).pending = s.pending ∧ (startReading r i c q s).transit = s.transit ∧
    (startReading r i c q s).powered = s.powered ∧ (startReading r i c q s).stations = s.stations ∧
    (startReading r i c q s).packs = s.packs ∧ (startReading r i c q s).bulking.preact = s.bulking.preact ∧
    (startReading r i c q s).bulking.preactStart = s.bulking.preactStart ∧
    (startReading r i c q s).bulking.tolerance = s.bulking.tolerance ∧
    (startReading r i c q s).bulking.nextRun = s.bulking.nextRun ∧
    (startReading r i c q s).bulking.lastReading = s.bulking.lastReading ∧
    (startReading r i c q s).invoices = s.invoices ∧ (startReading r i c q s).actions = s.actions ∧
    (startReading r i c q s).stencils = s.stencils ∧ (startReading r i c q s).store = s.store ∧
    (startReading r i c q s).clock = s.clock ∧ (startReading r i c q s).link = s.link ∧
    (startReading r i c q s).settings = s.settings := by
  unfold startReading; (try simp only []); (repeat' split) <;> (first | (refine ⟨rfl, rfl, rfl, rfl, rfl, rfl, rfl, rfl, rfl, rfl, rfl, rfl, rfl, rfl, rfl, rfl, rfl⟩; done) | (simp; done) | simp_all)

@[simp] theorem feedingReading_keeps (r : BulkRecord) (i : Nat) (c : Component) (q : Int) (d : Nat) (s : State) :
    (feedingReading r i c q d s).pending = s.pending ∧ (feedingReading r i c q d s).transit = s.transit ∧
    (feedingReading r i c q d s).powered = s.powered ∧ (feedingReading r i c q d s).stations = s.stations ∧
    (feedingReading r i c q d s).packs = s.packs ∧ (feedingReading r i c q d s).bulking.preact = s.bulking.preact ∧
    (feedingReading r i c q d s).bulking.preactStart = s.bulking.preactStart ∧
    (feedingReading r i c q d s).bulking.tolerance = s.bulking.tolerance ∧
    (feedingReading r i c q d s).bulking.nextRun = s.bulking.nextRun ∧
    (feedingReading r i c q d s).bulking.lastReading = s.bulking.lastReading ∧
    (feedingReading r i c q d s).invoices = s.invoices ∧ (feedingReading r i c q d s).actions = s.actions ∧
    (feedingReading r i c q d s).stencils = s.stencils ∧ (feedingReading r i c q d s).store = s.store ∧
    (feedingReading r i c q d s).clock = s.clock ∧ (feedingReading r i c q d s).link = s.link ∧
    (feedingReading r i c q d s).settings = s.settings := by
  unfold feedingReading; (try simp only []); (repeat' split) <;> (first | (refine ⟨rfl, rfl, rfl, rfl, rfl, rfl, rfl, rfl, rfl, rfl, rfl, rfl, rfl, rfl, rfl, rfl, rfl⟩; done) | (simp; done) | simp_all)

@[simp] theorem settlingReading_keeps (r : BulkRecord) (i : Nat) (c : Component) (station : Fin 4) (q : Int) (s : State) :
    (settlingReading r i c station q s).pending = s.pending ∧
    (settlingReading r i c station q s).powered = s.powered ∧
    (settlingReading r i c station q s).stations = s.stations ∧ (settlingReading r i c station q s).packs = s.packs ∧
    (settlingReading r i c station q s).bulking.preactStart = s.bulking.preactStart ∧
    (settlingReading r i c station q s).bulking.tolerance = s.bulking.tolerance ∧
    (settlingReading r i c station q s).bulking.nextRun = s.bulking.nextRun ∧
    (settlingReading r i c station q s).bulking.gateOpen = s.bulking.gateOpen ∧
    (settlingReading r i c station q s).bulking.stallTimer = s.bulking.stallTimer ∧
    (settlingReading r i c station q s).bulking.lastReading = s.bulking.lastReading ∧
    (settlingReading r i c station q s).invoices = s.invoices ∧
    (settlingReading r i c station q s).actions = s.actions ∧
    (settlingReading r i c station q s).stencils = s.stencils ∧ (settlingReading r i c station q s).store = s.store ∧
    (settlingReading r i c station q s).clock = s.clock ∧ (settlingReading r i c station q s).link = s.link ∧
    (settlingReading r i c station q s).settings = s.settings := by
  unfold settlingReading; (try simp only []); (repeat' split) <;> (first | (refine ⟨rfl, rfl, rfl, rfl, rfl, rfl, rfl, rfl, rfl, rfl, rfl, rfl, rfl, rfl, rfl, rfl, rfl⟩; done) | (simp; done) | simp_all)

@[simp] theorem takeReading_keeps (station : Fin 4) (q : Int) (settled : Bool) (d : Nat) (s : State) :
    (takeReading station q settled d s).pending = s.pending ∧
    (takeReading station q settled d s).powered = s.powered ∧
    (takeReading station q settled d s).stations = s.stations ∧ (takeReading station q settled d s).packs = s.packs ∧
    (takeReading station q settled d s).bulking.preactStart = s.bulking.preactStart ∧
    (takeReading station q settled d s).bulking.tolerance = s.bulking.tolerance ∧
    (takeReading station q settled d s).bulking.nextRun = s.bulking.nextRun ∧
    (takeReading station q settled d s).invoices = s.invoices ∧
    (takeReading station q settled d s).actions = s.actions ∧
    (takeReading station q settled d s).stencils = s.stencils ∧ (takeReading station q settled d s).store = s.store ∧
    (takeReading station q settled d s).clock = s.clock ∧ (takeReading station q settled d s).link = s.link ∧
    (takeReading station q settled d s).settings = s.settings := by
  unfold takeReading; (try simp only []); (repeat' split) <;> (first | (refine ⟨rfl, rfl, rfl, rfl, rfl, rfl, rfl, rfl, rfl, rfl, rfl, rfl, rfl, rfl⟩; done) | (simp; done) | simp_all)

@[simp] theorem carryGain_keeps (r : BulkRecord) (i : Nat) (st : RunState) (s : State) :
    (carryGain r i st s).pending = s.pending ∧ (carryGain r i st s).transit = s.transit ∧
    (carryGain r i st s).powered = s.powered ∧ (carryGain r i st s).stations = s.stations ∧
    (carryGain r i st s).packs = s.packs ∧ (carryGain r i st s).bulking.preact = s.bulking.preact ∧
    (carryGain r i st s).bulking.preactStart = s.bulking.preactStart ∧
    (carryGain r i st s).bulking.tolerance = s.bulking.tolerance ∧
    (carryGain r i st s).bulking.nextRun = s.bulking.nextRun ∧
    (carryGain r i st s).bulking.lastReading = s.bulking.lastReading ∧ (carryGain r i st s).invoices = s.invoices ∧
    (carryGain r i st s).actions = s.actions ∧ (carryGain r i st s).stencils = s.stencils ∧
    (carryGain r i st s).store = s.store ∧ (carryGain r i st s).clock = s.clock ∧ (carryGain r i st s).link = s.link ∧
    (carryGain r i st s).settings = s.settings := by
  unfold carryGain; (try simp only []); (repeat' split) <;> (first | (refine ⟨rfl, rfl, rfl, rfl, rfl, rfl, rfl, rfl, rfl, rfl, rfl, rfl, rfl, rfl, rfl, rfl, rfl⟩; done) | (simp; done) | simp_all)

@[simp] theorem stallRun_keeps (reason : StallReason) (r : BulkRecord) (s : State) :
    (stallRun reason r s).pending = s.pending ∧ (stallRun reason r s).powered = s.powered ∧
    (stallRun reason r s).stations = s.stations ∧ (stallRun reason r s).packs = s.packs ∧
    (stallRun reason r s).bulking.preact = s.bulking.preact ∧
    (stallRun reason r s).bulking.preactStart = s.bulking.preactStart ∧
    (stallRun reason r s).bulking.tolerance = s.bulking.tolerance ∧
    (stallRun reason r s).bulking.nextRun = s.bulking.nextRun ∧
    (stallRun reason r s).bulking.lastReading = s.bulking.lastReading ∧ (stallRun reason r s).invoices = s.invoices ∧
    (stallRun reason r s).actions = s.actions ∧ (stallRun reason r s).stencils = s.stencils ∧
    (stallRun reason r s).store = s.store ∧ (stallRun reason r s).clock = s.clock ∧
    (stallRun reason r s).link = s.link ∧ (stallRun reason r s).settings = s.settings := by
  unfold stallRun; (try simp only []); (repeat' split) <;> (first | (refine ⟨rfl, rfl, rfl, rfl, rfl, rfl, rfl, rfl, rfl, rfl, rfl, rfl, rfl, rfl, rfl, rfl⟩; done) | (simp; done) | simp_all)

@[simp] theorem takeLeaveReport_keeps (s : State) :
    (takeLeaveReport s).pending = s.pending ∧ (takeLeaveReport s).powered = s.powered ∧
    (takeLeaveReport s).stations = s.stations ∧ (takeLeaveReport s).packs = s.packs ∧
    (takeLeaveReport s).bulking.preact = s.bulking.preact ∧
    (takeLeaveReport s).bulking.preactStart = s.bulking.preactStart ∧
    (takeLeaveReport s).bulking.tolerance = s.bulking.tolerance ∧
    (takeLeaveReport s).bulking.nextRun = s.bulking.nextRun ∧
    (takeLeaveReport s).bulking.lastReading = s.bulking.lastReading ∧ (takeLeaveReport s).invoices = s.invoices ∧
    (takeLeaveReport s).actions = s.actions ∧ (takeLeaveReport s).stencils = s.stencils ∧
    (takeLeaveReport s).store = s.store ∧ (takeLeaveReport s).clock = s.clock ∧ (takeLeaveReport s).link = s.link ∧
    (takeLeaveReport s).settings = s.settings := by
  unfold takeLeaveReport; (try simp only []); (repeat' split) <;> (first | (refine ⟨rfl, rfl, rfl, rfl, rfl, rfl, rfl, rfl, rfl, rfl, rfl, rfl, rfl, rfl, rfl, rfl⟩; done) | (simp; done) | simp_all)

@[simp] theorem takeStallExpiry_keeps (s : State) :
    (takeStallExpiry s).pending = s.pending ∧ (takeStallExpiry s).powered = s.powered ∧
    (takeStallExpiry s).stations = s.stations ∧ (takeStallExpiry s).packs = s.packs ∧
    (takeStallExpiry s).bulking.preact = s.bulking.preact ∧
    (takeStallExpiry s).bulking.preactStart = s.bulking.preactStart ∧
    (takeStallExpiry s).bulking.tolerance = s.bulking.tolerance ∧
    (takeStallExpiry s).bulking.nextRun = s.bulking.nextRun ∧
    (takeStallExpiry s).bulking.lastReading = s.bulking.lastReading ∧ (takeStallExpiry s).invoices = s.invoices ∧
    (takeStallExpiry s).actions = s.actions ∧ (takeStallExpiry s).stencils = s.stencils ∧
    (takeStallExpiry s).store = s.store ∧ (takeStallExpiry s).clock = s.clock ∧ (takeStallExpiry s).link = s.link ∧
    (takeStallExpiry s).settings = s.settings := by
  unfold takeStallExpiry; (try simp only []); (repeat' split) <;> (first | (refine ⟨rfl, rfl, rfl, rfl, rfl, rfl, rfl, rfl, rfl, rfl, rfl, rfl, rfl, rfl, rfl, rfl⟩; done) | (simp; done) | simp_all)

@[simp] theorem returnWeight_keeps (run : Option Nat) (weight : Nat) (s : State) :
    (returnWeight run weight s).pending = s.pending ∧ (returnWeight run weight s).transit = s.transit ∧
    (returnWeight run weight s).powered = s.powered ∧ (returnWeight run weight s).stations = s.stations ∧
    (returnWeight run weight s).packs = s.packs ∧ (returnWeight run weight s).bulking.preact = s.bulking.preact ∧
    (returnWeight run weight s).bulking.preactStart = s.bulking.preactStart ∧
    (returnWeight run weight s).bulking.tolerance = s.bulking.tolerance ∧
    (returnWeight run weight s).bulking.nextRun = s.bulking.nextRun ∧
    (returnWeight run weight s).bulking.gateOpen = s.bulking.gateOpen ∧
    (returnWeight run weight s).bulking.stallTimer = s.bulking.stallTimer ∧
    (returnWeight run weight s).bulking.lastReading = s.bulking.lastReading ∧
    (returnWeight run weight s).invoices = s.invoices ∧ (returnWeight run weight s).actions = s.actions ∧
    (returnWeight run weight s).stencils = s.stencils ∧ (returnWeight run weight s).store = s.store ∧
    (returnWeight run weight s).clock = s.clock ∧ (returnWeight run weight s).link = s.link ∧
    (returnWeight run weight s).settings = s.settings := by
  unfold returnWeight; (try simp only []); (repeat' split) <;> (first | (refine ⟨rfl, rfl, rfl, rfl, rfl, rfl, rfl, rfl, rfl, rfl, rfl, rfl, rfl, rfl, rfl, rfl, rfl, rfl, rfl⟩; done) | (simp; done) | simp_all)

@[simp] theorem invoiceLeaves_keeps (run : Option Nat) (s : State) :
    (invoiceLeaves run s).pending = s.pending ∧ (invoiceLeaves run s).transit = s.transit ∧
    (invoiceLeaves run s).powered = s.powered ∧ (invoiceLeaves run s).stations = s.stations ∧
    (invoiceLeaves run s).packs = s.packs ∧ (invoiceLeaves run s).bulking.preact = s.bulking.preact ∧
    (invoiceLeaves run s).bulking.preactStart = s.bulking.preactStart ∧
    (invoiceLeaves run s).bulking.tolerance = s.bulking.tolerance ∧
    (invoiceLeaves run s).bulking.nextRun = s.bulking.nextRun ∧
    (invoiceLeaves run s).bulking.gateOpen = s.bulking.gateOpen ∧
    (invoiceLeaves run s).bulking.stallTimer = s.bulking.stallTimer ∧
    (invoiceLeaves run s).bulking.lastReading = s.bulking.lastReading ∧ (invoiceLeaves run s).invoices = s.invoices ∧
    (invoiceLeaves run s).actions = s.actions ∧ (invoiceLeaves run s).stencils = s.stencils ∧
    (invoiceLeaves run s).store = s.store ∧ (invoiceLeaves run s).clock = s.clock ∧
    (invoiceLeaves run s).link = s.link ∧ (invoiceLeaves run s).settings = s.settings := by
  unfold invoiceLeaves; (try simp only []); (repeat' split) <;> (first | (refine ⟨rfl, rfl, rfl, rfl, rfl, rfl, rfl, rfl, rfl, rfl, rfl, rfl, rfl, rfl, rfl, rfl, rfl, rfl, rfl⟩; done) | (simp; done) | simp_all)

@[simp] theorem takeTareSample_keeps (station : Fin 4) (t : Fin 8) (gross : Int) (s : State) :
    (takeTareSample station t gross s).pending = s.pending ∧ (takeTareSample station t gross s).powered = s.powered ∧
    (takeTareSample station t gross s).stations = s.stations ∧
    (takeTareSample station t gross s).packs.classes = s.packs.classes ∧
    (takeTareSample station t gross s).bulking = s.bulking ∧
    (takeTareSample station t gross s).invoices = s.invoices ∧
    (takeTareSample station t gross s).actions = s.actions ∧
    (takeTareSample station t gross s).stencils = s.stencils ∧ (takeTareSample station t gross s).store = s.store ∧
    (takeTareSample station t gross s).clock = s.clock ∧ (takeTareSample station t gross s).link = s.link ∧
    (takeTareSample station t gross s).settings = s.settings := by
  unfold takeTareSample; (try simp only []); (repeat' split) <;> (first | (refine ⟨rfl, rfl, rfl, rfl, rfl, rfl, rfl, rfl, rfl, rfl, rfl, rfl⟩; done) | (simp; done) | simp_all)

@[simp] theorem moveClock_keeps (next : ClockReading × Bool) (s : State) :
    (moveClock next s).pending = s.pending ∧ (moveClock next s).powered = s.powered ∧
    (moveClock next s).stations = s.stations ∧ (moveClock next s).packs = s.packs ∧ (moveClock next s).bulking = s.bulking ∧
    (moveClock next s).invoices = s.invoices ∧ (moveClock next s).actions = s.actions ∧
    (moveClock next s).stencils = s.stencils ∧ (moveClock next s).store = s.store ∧ (moveClock next s).link = s.link ∧
    (moveClock next s).settings = s.settings := by
  unfold moveClock; (try simp only []); (repeat' split) <;> (first | (refine ⟨rfl, rfl, rfl, rfl, rfl, rfl, rfl, rfl, rfl, rfl, rfl⟩; done) | (simp; done) | simp_all)

@[simp] theorem takeSecond_keeps (s : State) :
    (takeSecond s).pending = s.pending ∧ (takeSecond s).powered = s.powered ∧ (takeSecond s).stations = s.stations ∧
    (takeSecond s).packs = s.packs ∧ (takeSecond s).bulking = s.bulking ∧ (takeSecond s).invoices = s.invoices ∧
    (takeSecond s).actions = s.actions ∧ (takeSecond s).stencils = s.stencils ∧ (takeSecond s).store = s.store ∧
    (takeSecond s).link = s.link ∧ (takeSecond s).settings = s.settings := by
  unfold takeSecond; (try simp only []); (repeat' split) <;> (first | (refine ⟨rfl, rfl, rfl, rfl, rfl, rfl, rfl, rfl, rfl, rfl, rfl⟩; done) | (simp; done) | simp_all)

@[simp] theorem performAction_keeps (i : Fin 32) (source : Fin 20) (context : EventContext) (a : Action) (s : State) :
    (performAction i source context a s).pending = s.pending ∧
    (performAction i source context a s).powered = s.powered ∧
    (performAction i source context a s).stations = s.stations ∧
    (performAction i source context a s).packs = s.packs ∧ (performAction i source context a s).bulking = s.bulking ∧
    (performAction i source context a s).invoices = s.invoices ∧
    (performAction i source context a s).actions.vectors = s.actions.vectors ∧
    (performAction i source context a s).actions.sets = s.actions.sets ∧
    (performAction i source context a s).stencils = s.stencils ∧
    (performAction i source context a s).store = s.store ∧ (performAction i source context a s).clock = s.clock ∧
    (performAction i source context a s).link = s.link ∧ (performAction i source context a s).settings = s.settings := by
  rw [performAction_frame]; simp

@[simp] theorem expireSet_keeps (i : Fin 32) (source : Fin 20) (a : ActionSet) (s : State) :
    (expireSet i source a s).pending = s.pending ∧ (expireSet i source a s).powered = s.powered ∧
    (expireSet i source a s).stations = s.stations ∧ (expireSet i source a s).packs = s.packs ∧
    (expireSet i source a s).bulking = s.bulking ∧ (expireSet i source a s).invoices = s.invoices ∧
    (expireSet i source a s).actions.vectors = s.actions.vectors ∧
    (expireSet i source a s).actions.gates = s.actions.gates ∧ (expireSet i source a s).stencils = s.stencils ∧
    (expireSet i source a s).store = s.store ∧ (expireSet i source a s).clock = s.clock ∧
    (expireSet i source a s).link = s.link ∧ (expireSet i source a s).settings = s.settings := by
  rw [expireSet_frame]; simp

@[simp] theorem runSet_keeps (i : Fin 32) (source : Fin 20) (context : EventContext) (s : State) :
    (runSet i source context s).pending = s.pending ∧ (runSet i source context s).powered = s.powered ∧
    (runSet i source context s).stations = s.stations ∧ (runSet i source context s).packs = s.packs ∧
    (runSet i source context s).bulking = s.bulking ∧ (runSet i source context s).invoices = s.invoices ∧
    (runSet i source context s).actions.vectors = s.actions.vectors ∧
    (runSet i source context s).stencils = s.stencils ∧ (runSet i source context s).store = s.store ∧
    (runSet i source context s).clock = s.clock ∧ (runSet i source context s).link = s.link ∧
    (runSet i source context s).settings = s.settings := by
  rw [runSet_frame]; simp

@[simp] theorem runChain_keeps (source : Fin 20) (context : EventContext) (fuel : Nat) (i : Fin 32) (s : State) :
    (runChain source context fuel i s).pending = s.pending ∧ (runChain source context fuel i s).powered = s.powered ∧
    (runChain source context fuel i s).stations = s.stations ∧ (runChain source context fuel i s).packs = s.packs ∧
    (runChain source context fuel i s).bulking = s.bulking ∧
    (runChain source context fuel i s).invoices = s.invoices ∧
    (runChain source context fuel i s).actions.vectors = s.actions.vectors ∧
    (runChain source context fuel i s).stencils = s.stencils ∧ (runChain source context fuel i s).store = s.store ∧
    (runChain source context fuel i s).clock = s.clock ∧ (runChain source context fuel i s).link = s.link ∧
    (runChain source context fuel i s).settings = s.settings := by
  rw [runChain_frame]; simp

@[simp] theorem takeEvent_keeps (source : Fin 20) (context : EventContext) (s : State) :
    (takeEvent source context s).pending = s.pending ∧ (takeEvent source context s).powered = s.powered ∧
    (takeEvent source context s).stations = s.stations ∧ (takeEvent source context s).packs = s.packs ∧
    (takeEvent source context s).bulking = s.bulking ∧ (takeEvent source context s).invoices = s.invoices ∧
    (takeEvent source context s).actions.vectors = s.actions.vectors ∧
    (takeEvent source context s).stencils = s.stencils ∧ (takeEvent source context s).store = s.store ∧
    (takeEvent source context s).clock = s.clock ∧ (takeEvent source context s).link = s.link ∧
    (takeEvent source context s).settings = s.settings := by
  unfold takeEvent; (try simp only []); (repeat' split) <;> (first | (refine ⟨rfl, rfl, rfl, rfl, rfl, rfl, rfl, rfl, rfl, rfl, rfl, rfl⟩; done) | (simp; done) | simp_all)

@[simp] theorem beginClosing_keeps (n : Nat) (s : State) :
    (beginClosing n s).pending = s.pending ∧ (beginClosing n s).powered = s.powered ∧
    (beginClosing n s).stations = s.stations ∧ (beginClosing n s).packs = s.packs ∧
    (beginClosing n s).bulking = s.bulking ∧ (beginClosing n s).invoices.queues = s.invoices.queues ∧
    (beginClosing n s).invoices.nextSerial = s.invoices.nextSerial ∧ (beginClosing n s).actions = s.actions ∧
    (beginClosing n s).stencils = s.stencils ∧ (beginClosing n s).store = s.store ∧
    (beginClosing n s).clock = s.clock ∧ (beginClosing n s).link = s.link ∧ (beginClosing n s).settings = s.settings := by
  unfold beginClosing; (try simp only []); (repeat' split) <;> (first | (refine ⟨rfl, rfl, rfl, rfl, rfl, rfl, rfl, rfl, rfl, rfl, rfl, rfl, rfl⟩; done) | (simp; done) | simp_all)

@[simp] theorem advanceSerial_keeps (s : State) :
    (advanceSerial s).pending = s.pending ∧ (advanceSerial s).transit = s.transit ∧
    (advanceSerial s).powered = s.powered ∧ (advanceSerial s).stations = s.stations ∧
    (advanceSerial s).packs = s.packs ∧ (advanceSerial s).bulking = s.bulking ∧
    (advanceSerial s).invoices.invoices = s.invoices.invoices ∧
    (advanceSerial s).invoices.queues = s.invoices.queues ∧ (advanceSerial s).actions = s.actions ∧
    (advanceSerial s).stencils = s.stencils ∧ (advanceSerial s).store = s.store ∧ (advanceSerial s).clock = s.clock ∧
    (advanceSerial s).link = s.link ∧ (advanceSerial s).settings = s.settings := by
  refine ⟨rfl, rfl, rfl, rfl, rfl, rfl, rfl, rfl, rfl, rfl, rfl, rfl, rfl, rfl⟩

@[simp] theorem notifyTightening_keeps (before after : InvoiceRecord) (s : State) :
    (notifyTightening before after s).pending = s.pending ∧ (notifyTightening before after s).powered = s.powered ∧
    (notifyTightening before after s).stations = s.stations ∧ (notifyTightening before after s).packs = s.packs ∧
    (notifyTightening before after s).bulking = s.bulking ∧ (notifyTightening before after s).invoices = s.invoices ∧
    (notifyTightening before after s).actions = s.actions ∧ (notifyTightening before after s).stencils = s.stencils ∧
    (notifyTightening before after s).store = s.store ∧ (notifyTightening before after s).clock = s.clock ∧
    (notifyTightening before after s).link = s.link ∧ (notifyTightening before after s).settings = s.settings := by
  unfold notifyTightening; (try simp only []); (repeat' split) <;> (first | (refine ⟨rfl, rfl, rfl, rfl, rfl, rfl, rfl, rfl, rfl, rfl, rfl, rfl⟩; done) | (simp; done) | simp_all)

@[simp] theorem lotEnquiry_keeps (n : Nat) (s : State) :
    (lotEnquiry n s).pending = s.pending ∧ (lotEnquiry n s).transit = s.transit ∧
    (lotEnquiry n s).powered = s.powered ∧ (lotEnquiry n s).stations = s.stations ∧ (lotEnquiry n s).packs = s.packs ∧
    (lotEnquiry n s).bulking = s.bulking ∧ (lotEnquiry n s).invoices.queues = s.invoices.queues ∧
    (lotEnquiry n s).invoices.nextSerial = s.invoices.nextSerial ∧ (lotEnquiry n s).actions = s.actions ∧
    (lotEnquiry n s).stencils = s.stencils ∧ (lotEnquiry n s).store = s.store ∧ (lotEnquiry n s).clock = s.clock ∧
    (lotEnquiry n s).link = s.link ∧ (lotEnquiry n s).settings = s.settings := by
  unfold lotEnquiry; (try simp only []); (repeat' split) <;> (first | (refine ⟨rfl, rfl, rfl, rfl, rfl, rfl, rfl, rfl, rfl, rfl, rfl, rfl, rfl, rfl⟩; done) | (simp; done) | simp_all)

@[simp] theorem becomeFull_keeps (station : Fin 4) (serial : Nat) (r : InvoiceRecord) (s : State) :
    (becomeFull station serial r s).pending = s.pending ∧ (becomeFull station serial r s).powered = s.powered ∧
    (becomeFull station serial r s).stations = s.stations ∧ (becomeFull station serial r s).packs = s.packs ∧
    (becomeFull station serial r s).bulking = s.bulking ∧
    (becomeFull station serial r s).invoices.nextSerial = s.invoices.nextSerial ∧
    (becomeFull station serial r s).actions = s.actions ∧ (becomeFull station serial r s).stencils = s.stencils ∧
    (becomeFull station serial r s).store = s.store ∧ (becomeFull station serial r s).clock = s.clock ∧
    (becomeFull station serial r s).link = s.link ∧ (becomeFull station serial r s).settings = s.settings := by
  unfold becomeFull; (try simp only []); (repeat' split) <;> (first | (refine ⟨rfl, rfl, rfl, rfl, rfl, rfl, rfl, rfl, rfl, rfl, rfl, rfl⟩; done) | (simp; done) | simp_all)

@[simp] theorem acceptAppend_keeps (station : Fin 4) (v : Invoice) (gross net : Int) (s : State) :
    (acceptAppend station v gross net s).pending = s.pending ∧
    (acceptAppend station v gross net s).powered = s.powered ∧
    (acceptAppend station v gross net s).stations = s.stations ∧
    (acceptAppend station v gross net s).packs = s.packs ∧ (acceptAppend station v gross net s).bulking = s.bulking ∧
    (acceptAppend station v gross net s).actions = s.actions ∧
    (acceptAppend station v gross net s).stencils = s.stencils ∧
    (acceptAppend station v gross net s).store = s.store ∧ (acceptAppend station v gross net s).clock = s.clock ∧
    (acceptAppend station v gross net s).link = s.link ∧ (acceptAppend station v gross net s).settings = s.settings := by
  unfold acceptAppend; (try simp only []); (repeat' split) <;> (first | (refine ⟨rfl, rfl, rfl, rfl, rfl, rfl, rfl, rfl, rfl, rfl, rfl⟩; done) | (simp; done) | simp_all)

@[simp] theorem takeAppend_keeps (station : Fin 4) (invoice : Nat) (gross net : Int) (s : State) :
    (takeAppend station invoice gross net s).pending = s.pending ∧
    (takeAppend station invoice gross net s).powered = s.powered ∧
    (takeAppend station invoice gross net s).stations = s.stations ∧
    (takeAppend station invoice gross net s).packs = s.packs ∧
    (takeAppend station invoice gross net s).bulking = s.bulking ∧
    (takeAppend station invoice gross net s).actions = s.actions ∧
    (takeAppend station invoice gross net s).stencils = s.stencils ∧
    (takeAppend station invoice gross net s).store = s.store ∧
    (takeAppend station invoice gross net s).clock = s.clock ∧
    (takeAppend station invoice gross net s).link = s.link ∧
    (takeAppend station invoice gross net s).settings = s.settings := by
  unfold takeAppend; (try simp only []); (repeat' split) <;> (first | (refine ⟨rfl, rfl, rfl, rfl, rfl, rfl, rfl, rfl, rfl, rfl, rfl⟩; done) | (simp; done) | simp_all)

@[simp] theorem closeShort_keeps (v : Invoice) (s : State) :
    (closeShort v s).pending = s.pending ∧ (closeShort v s).powered = s.powered ∧
    (closeShort v s).stations = s.stations ∧ (closeShort v s).packs = s.packs ∧
    (closeShort v s).bulking.preact = s.bulking.preact ∧
    (closeShort v s).bulking.preactStart = s.bulking.preactStart ∧
    (closeShort v s).bulking.tolerance = s.bulking.tolerance ∧ (closeShort v s).bulking.nextRun = s.bulking.nextRun ∧
    (closeShort v s).bulking.gateOpen = s.bulking.gateOpen ∧
    (closeShort v s).bulking.stallTimer = s.bulking.stallTimer ∧
    (closeShort v s).bulking.lastReading = s.bulking.lastReading ∧ (closeShort v s).actions = s.actions ∧
    (closeShort v s).stencils = s.stencils ∧ (closeShort v s).store = s.store ∧ (closeShort v s).clock = s.clock ∧
    (closeShort v s).link = s.link ∧ (closeShort v s).settings = s.settings := by
  unfold closeShort; (try simp only []); (repeat' split) <;> (first | (refine ⟨rfl, rfl, rfl, rfl, rfl, rfl, rfl, rfl, rfl, rfl, rfl, rfl, rfl, rfl, rfl, rfl, rfl⟩; done) | (simp; done) | simp_all)

@[simp] theorem markSample_keeps (n serial grams : Nat) (s : State) :
    (markSample n serial grams s).pending = s.pending ∧ (markSample n serial grams s).transit = s.transit ∧
    (markSample n serial grams s).powered = s.powered ∧ (markSample n serial grams s).stations = s.stations ∧
    (markSample n serial grams s).packs = s.packs ∧ (markSample n serial grams s).bulking = s.bulking ∧
    (markSample n serial grams s).invoices.queues = s.invoices.queues ∧
    (markSample n serial grams s).invoices.nextSerial = s.invoices.nextSerial ∧
    (markSample n serial grams s).actions = s.actions ∧ (markSample n serial grams s).stencils = s.stencils ∧
    (markSample n serial grams s).store = s.store ∧ (markSample n serial grams s).clock = s.clock ∧
    (markSample n serial grams s).link = s.link ∧ (markSample n serial grams s).settings = s.settings := by
  unfold markSample; (try simp only []); (repeat' split) <;> (first | (refine ⟨rfl, rfl, rfl, rfl, rfl, rfl, rfl, rfl, rfl, rfl, rfl, rfl, rfl, rfl⟩; done) | (simp; done) | simp_all)

@[simp] theorem takeSampleMark_keeps (serial grams : Nat) (s : State) :
    (takeSampleMark serial grams s).pending = s.pending ∧ (takeSampleMark serial grams s).powered = s.powered ∧
    (takeSampleMark serial grams s).stations = s.stations ∧ (takeSampleMark serial grams s).packs = s.packs ∧
    (takeSampleMark serial grams s).bulking = s.bulking ∧
    (takeSampleMark serial grams s).invoices.queues = s.invoices.queues ∧
    (takeSampleMark serial grams s).invoices.nextSerial = s.invoices.nextSerial ∧
    (takeSampleMark serial grams s).actions = s.actions ∧ (takeSampleMark serial grams s).stencils = s.stencils ∧
    (takeSampleMark serial grams s).store = s.store ∧ (takeSampleMark serial grams s).clock = s.clock ∧
    (takeSampleMark serial grams s).link = s.link ∧ (takeSampleMark serial grams s).settings = s.settings := by
  unfold takeSampleMark; (try simp only []); (repeat' split) <;> (first | (refine ⟨rfl, rfl, rfl, rfl, rfl, rfl, rfl, rfl, rfl, rfl, rfl, rfl, rfl⟩; done) | (simp; done) | simp_all)

@[simp] theorem dropJob_keeps (i : Fin 2) (j : Job) (reason : DropReason) (s : State) :
    (dropJob i j reason s).pending = s.pending ∧ (dropJob i j reason s).powered = s.powered ∧
    (dropJob i j reason s).stations = s.stations ∧ (dropJob i j reason s).packs = s.packs ∧
    (dropJob i j reason s).bulking = s.bulking ∧ (dropJob i j reason s).invoices = s.invoices ∧
    (dropJob i j reason s).actions = s.actions ∧ (dropJob i j reason s).stencils = s.stencils ∧
    (dropJob i j reason s).store = s.store ∧ (dropJob i j reason s).clock = s.clock ∧
    (dropJob i j reason s).link = s.link ∧ (dropJob i j reason s).settings = s.settings := by
  unfold dropJob; (try simp only []); (repeat' split) <;> (first | (refine ⟨rfl, rfl, rfl, rfl, rfl, rfl, rfl, rfl, rfl, rfl, rfl, rfl⟩; done) | (simp; done) | simp_all)

@[simp] theorem startAtTable_keeps (j : Job) (s : State) :
    (startAtTable j s).pending = s.pending ∧ (startAtTable j s).transit = s.transit ∧
    (startAtTable j s).powered = s.powered ∧ (startAtTable j s).stations = s.stations ∧
    (startAtTable j s).packs = s.packs ∧ (startAtTable j s).bulking = s.bulking ∧
    (startAtTable j s).invoices.queues = s.invoices.queues ∧
    (startAtTable j s).invoices.nextSerial = s.invoices.nextSerial ∧ (startAtTable j s).actions = s.actions ∧
    (startAtTable j s).stencils = s.stencils ∧ (startAtTable j s).store = s.store ∧
    (startAtTable j s).clock = s.clock ∧ (startAtTable j s).link = s.link ∧ (startAtTable j s).settings = s.settings := by
  unfold startAtTable; (try simp only []); (repeat' split) <;> (first | (refine ⟨rfl, rfl, rfl, rfl, rfl, rfl, rfl, rfl, rfl, rfl, rfl, rfl, rfl, rfl⟩; done) | (simp; done) | simp_all)

@[simp] theorem takeJobs_keeps (i : Fin 2) (l : List Job) (s : State) :
    (takeJobs i l s).pending = s.pending ∧ (takeJobs i l s).powered = s.powered ∧
    (takeJobs i l s).stations = s.stations ∧ (takeJobs i l s).packs = s.packs ∧ (takeJobs i l s).bulking = s.bulking ∧
    (takeJobs i l s).invoices.queues = s.invoices.queues ∧
    (takeJobs i l s).invoices.nextSerial = s.invoices.nextSerial ∧ (takeJobs i l s).actions = s.actions ∧
    (takeJobs i l s).stencils.templates = s.stencils.templates ∧ (takeJobs i l s).store = s.store ∧
    (takeJobs i l s).clock = s.clock ∧ (takeJobs i l s).link = s.link ∧ (takeJobs i l s).settings = s.settings := by
  rw [takeJobs_frame]; simp

@[simp] theorem takeNext_keeps (i : Fin 2) (s : State) :
    (takeNext i s).pending = s.pending ∧ (takeNext i s).powered = s.powered ∧ (takeNext i s).stations = s.stations ∧
    (takeNext i s).packs = s.packs ∧ (takeNext i s).bulking = s.bulking ∧
    (takeNext i s).invoices.queues = s.invoices.queues ∧ (takeNext i s).invoices.nextSerial = s.invoices.nextSerial ∧
    (takeNext i s).actions = s.actions ∧ (takeNext i s).stencils.templates = s.stencils.templates ∧
    (takeNext i s).store = s.store ∧ (takeNext i s).clock = s.clock ∧ (takeNext i s).link = s.link ∧
    (takeNext i s).settings = s.settings := by
  rw [takeNext_frame]; simp

@[simp] theorem joinQueue_keeps (i : Fin 2) (j : Job) (s : State) :
    (joinQueue i j s).pending = s.pending ∧ (joinQueue i j s).powered = s.powered ∧
    (joinQueue i j s).stations = s.stations ∧ (joinQueue i j s).packs = s.packs ∧
    (joinQueue i j s).bulking = s.bulking ∧ (joinQueue i j s).invoices.queues = s.invoices.queues ∧
    (joinQueue i j s).invoices.nextSerial = s.invoices.nextSerial ∧ (joinQueue i j s).actions = s.actions ∧
    (joinQueue i j s).stencils.templates = s.stencils.templates ∧ (joinQueue i j s).store = s.store ∧
    (joinQueue i j s).clock = s.clock ∧ (joinQueue i j s).link = s.link ∧ (joinQueue i j s).settings = s.settings := by
  unfold joinQueue; (try simp only []); (repeat' split) <;> (first | (refine ⟨rfl, rfl, rfl, rfl, rfl, rfl, rfl, rfl, rfl, rfl, rfl, rfl, rfl⟩; done) | (simp; done) | simp_all)

@[simp] theorem missJob_keeps (i : Fin 2) (template : Fin 8) (serial invoice : Nat) (reason : MissReason) (s : State) :
    (missJob i template serial invoice reason s).pending = s.pending ∧
    (missJob i template serial invoice reason s).powered = s.powered ∧
    (missJob i template serial invoice reason s).stations = s.stations ∧
    (missJob i template serial invoice reason s).packs = s.packs ∧
    (missJob i template serial invoice reason s).bulking = s.bulking ∧
    (missJob i template serial invoice reason s).invoices = s.invoices ∧
    (missJob i template serial invoice reason s).actions = s.actions ∧
    (missJob i template serial invoice reason s).stencils = s.stencils ∧
    (missJob i template serial invoice reason s).store = s.store ∧
    (missJob i template serial invoice reason s).clock = s.clock ∧
    (missJob i template serial invoice reason s).link = s.link ∧
    (missJob i template serial invoice reason s).settings = s.settings := by
  unfold missJob; (try simp only []); (repeat' split) <;> (first | (refine ⟨rfl, rfl, rfl, rfl, rfl, rfl, rfl, rfl, rfl, rfl, rfl, rfl⟩; done) | (simp; done) | simp_all)

@[simp] theorem takeJobRequest_keeps (i : Fin 2) (template : Fin 8) (serial invoice : Nat) (s : State) :
    (takeJobRequest i template serial invoice s).pending = s.pending ∧
    (takeJobRequest i template serial invoice s).powered = s.powered ∧
    (takeJobRequest i template serial invoice s).stations = s.stations ∧
    (takeJobRequest i template serial invoice s).packs = s.packs ∧
    (takeJobRequest i template serial invoice s).bulking = s.bulking ∧
    (takeJobRequest i template serial invoice s).actions = s.actions ∧
    (takeJobRequest i template serial invoice s).stencils.templates = s.stencils.templates ∧
    (takeJobRequest i template serial invoice s).store = s.store ∧
    (takeJobRequest i template serial invoice s).clock = s.clock ∧
    (takeJobRequest i template serial invoice s).link = s.link ∧
    (takeJobRequest i template serial invoice s).settings = s.settings := by
  unfold takeJobRequest; (try simp only []); (repeat' split) <;> (first | (refine ⟨rfl, rfl, rfl, rfl, rfl, rfl, rfl, rfl, rfl, rfl, rfl⟩; done) | (simp; done) | simp_all)

@[simp] theorem endJob_keeps (i : Fin 2) (j : JobInHand) (s : State) :
    (endJob i j s).pending = s.pending ∧ (endJob i j s).powered = s.powered ∧ (endJob i j s).stations = s.stations ∧
    (endJob i j s).packs = s.packs ∧ (endJob i j s).bulking = s.bulking ∧
    (endJob i j s).invoices.queues = s.invoices.queues ∧ (endJob i j s).invoices.nextSerial = s.invoices.nextSerial ∧
    (endJob i j s).actions = s.actions ∧ (endJob i j s).stencils.templates = s.stencils.templates ∧
    (endJob i j s).store = s.store ∧ (endJob i j s).clock = s.clock ∧ (endJob i j s).link = s.link ∧
    (endJob i j s).settings = s.settings := by
  unfold endJob; (try simp only []); (repeat' split) <;> (first | (refine ⟨rfl, rfl, rfl, rfl, rfl, rfl, rfl, rfl, rfl, rfl, rfl, rfl, rfl⟩; done) | (simp; done) | simp_all)

@[simp] theorem takeAcknowledge_keeps (i : Fin 2) (s : State) :
    (takeAcknowledge i s).pending = s.pending ∧ (takeAcknowledge i s).powered = s.powered ∧
    (takeAcknowledge i s).stations = s.stations ∧ (takeAcknowledge i s).packs = s.packs ∧
    (takeAcknowledge i s).bulking = s.bulking ∧ (takeAcknowledge i s).invoices.queues = s.invoices.queues ∧
    (takeAcknowledge i s).invoices.nextSerial = s.invoices.nextSerial ∧ (takeAcknowledge i s).actions = s.actions ∧
    (takeAcknowledge i s).stencils.templates = s.stencils.templates ∧ (takeAcknowledge i s).store = s.store ∧
    (takeAcknowledge i s).clock = s.clock ∧ (takeAcknowledge i s).link = s.link ∧
    (takeAcknowledge i s).settings = s.settings := by
  unfold takeAcknowledge; (try simp only []); (repeat' split) <;> (first | (refine ⟨rfl, rfl, rfl, rfl, rfl, rfl, rfl, rfl, rfl, rfl, rfl, rfl, rfl⟩; done) | (simp; done) | simp_all)

@[simp] theorem takeAckExpiry_keeps (i : Fin 2) (s : State) :
    (takeAckExpiry i s).pending = s.pending ∧ (takeAckExpiry i s).powered = s.powered ∧
    (takeAckExpiry i s).stations = s.stations ∧ (takeAckExpiry i s).packs = s.packs ∧
    (takeAckExpiry i s).bulking = s.bulking ∧ (takeAckExpiry i s).invoices = s.invoices ∧
    (takeAckExpiry i s).actions = s.actions ∧ (takeAckExpiry i s).stencils.templates = s.stencils.templates ∧
    (takeAckExpiry i s).store = s.store ∧ (takeAckExpiry i s).clock = s.clock ∧ (takeAckExpiry i s).link = s.link ∧
    (takeAckExpiry i s).settings = s.settings := by
  unfold takeAckExpiry; (try simp only []); (repeat' split) <;> (first | (refine ⟨rfl, rfl, rfl, rfl, rfl, rfl, rfl, rfl, rfl, rfl, rfl, rfl⟩; done) | (simp; done) | simp_all)

@[simp] theorem takeFault_keeps (i : Fin 2) (s : State) :
    (takeFault i s).pending = s.pending ∧ (takeFault i s).powered = s.powered ∧
    (takeFault i s).stations = s.stations ∧ (takeFault i s).packs = s.packs ∧ (takeFault i s).bulking = s.bulking ∧
    (takeFault i s).invoices = s.invoices ∧ (takeFault i s).actions = s.actions ∧
    (takeFault i s).stencils.templates = s.stencils.templates ∧ (takeFault i s).store = s.store ∧
    (takeFault i s).clock = s.clock ∧ (takeFault i s).link = s.link ∧ (takeFault i s).settings = s.settings := by
  unfold takeFault; (try simp only []); (repeat' split) <;> (first | (refine ⟨rfl, rfl, rfl, rfl, rfl, rfl, rfl, rfl, rfl, rfl, rfl, rfl⟩; done) | (simp; done) | simp_all)

@[simp] theorem dropJobs_keeps (i : Fin 2) (st : HeadState) (s : State) :
    (dropJobs i st s).pending = s.pending ∧ (dropJobs i st s).powered = s.powered ∧
    (dropJobs i st s).stations = s.stations ∧ (dropJobs i st s).packs = s.packs ∧
    (dropJobs i st s).bulking = s.bulking ∧ (dropJobs i st s).invoices = s.invoices ∧
    (dropJobs i st s).actions = s.actions ∧ (dropJobs i st s).stencils.templates = s.stencils.templates ∧
    (dropJobs i st s).store = s.store ∧ (dropJobs i st s).clock = s.clock ∧ (dropJobs i st s).link = s.link ∧
    (dropJobs i st s).settings = s.settings := by
  unfold dropJobs; (try simp only []); (repeat' split) <;> (first | (refine ⟨rfl, rfl, rfl, rfl, rfl, rfl, rfl, rfl, rfl, rfl, rfl, rfl⟩; done) | (simp; done) | simp_all)

@[simp] theorem headOn_keeps (i : Fin 2) (s : State) :
    (headOn i s).pending = s.pending ∧ (headOn i s).powered = s.powered ∧ (headOn i s).stations = s.stations ∧
    (headOn i s).packs = s.packs ∧ (headOn i s).bulking = s.bulking ∧
    (headOn i s).invoices.queues = s.invoices.queues ∧ (headOn i s).invoices.nextSerial = s.invoices.nextSerial ∧
    (headOn i s).actions = s.actions ∧ (headOn i s).stencils.templates = s.stencils.templates ∧
    (headOn i s).store = s.store ∧ (headOn i s).clock = s.clock ∧ (headOn i s).link = s.link ∧
    (headOn i s).settings = s.settings := by
  unfold headOn; (try simp only []); (repeat' split) <;> (first | (refine ⟨rfl, rfl, rfl, rfl, rfl, rfl, rfl, rfl, rfl, rfl, rfl, rfl, rfl⟩; done) | (simp; done) | simp_all)

@[simp] theorem beginBuild_keeps (s : State) :
    (beginBuild s).pending = s.pending ∧ (beginBuild s).transit = s.transit ∧ (beginBuild s).powered = s.powered ∧
    (beginBuild s).stations = s.stations ∧ (beginBuild s).packs = s.packs ∧ (beginBuild s).bulking = s.bulking ∧
    (beginBuild s).invoices.queues = s.invoices.queues ∧ (beginBuild s).invoices.nextSerial = s.invoices.nextSerial ∧
    (beginBuild s).actions = s.actions ∧ (beginBuild s).stencils = s.stencils ∧
    (beginBuild s).store.windows = s.store.windows ∧ (beginBuild s).store.freePage = s.store.freePage ∧
    (beginBuild s).store.freeSlot = s.store.freeSlot ∧ (beginBuild s).store.waiting = s.store.waiting ∧
    (beginBuild s).clock = s.clock ∧ (beginBuild s).link = s.link ∧ (beginBuild s).settings = s.settings := by
  rw [beginBuild_frame]; simp

@[simp] theorem answerSheetSlot_keeps (h : Sheet) (s : State) :
    (answerSheetSlot h s).pending = s.pending ∧ (answerSheetSlot h s).powered = s.powered ∧
    (answerSheetSlot h s).stations = s.stations ∧ (answerSheetSlot h s).packs = s.packs ∧
    (answerSheetSlot h s).bulking = s.bulking ∧ (answerSheetSlot h s).invoices = s.invoices ∧
    (answerSheetSlot h s).actions = s.actions ∧ (answerSheetSlot h s).stencils = s.stencils ∧
    (answerSheetSlot h s).store = s.store ∧ (answerSheetSlot h s).clock = s.clock ∧
    (answerSheetSlot h s).link.lineSpeed = s.link.lineSpeed ∧
    (answerSheetSlot h s).link.speedSetting = s.link.speedSetting ∧
    (answerSheetSlot h s).link.receiver = s.link.receiver ∧ (answerSheetSlot h s).link.holding = s.link.holding ∧
    (answerSheetSlot h s).link.inHand = s.link.inHand ∧ (answerSheetSlot h s).link.replies = s.link.replies ∧
    (answerSheetSlot h s).link.sending = s.link.sending ∧ (answerSheetSlot h s).link.notices = s.link.notices ∧
    (answerSheetSlot h s).link.counter = s.link.counter ∧ (answerSheetSlot h s).link.mask = s.link.mask ∧
    (answerSheetSlot h s).link.linkError = s.link.linkError ∧
    (answerSheetSlot h s).link.noticesLost = s.link.noticesLost ∧ (answerSheetSlot h s).settings = s.settings := by
  unfold answerSheetSlot; (try simp only []); (repeat' split) <;> (first | (refine ⟨rfl, rfl, rfl, rfl, rfl, rfl, rfl, rfl, rfl, rfl, rfl, rfl, rfl, rfl, rfl, rfl, rfl, rfl, rfl, rfl, rfl, rfl, rfl⟩; done) | (simp; done) | simp_all)

@[simp] theorem endBuild_keeps (h : Sheet) (s : State) :
    (endBuild h s).pending = s.pending ∧ (endBuild h s).powered = s.powered ∧ (endBuild h s).stations = s.stations ∧
    (endBuild h s).packs = s.packs ∧ (endBuild h s).bulking = s.bulking ∧ (endBuild h s).actions = s.actions ∧
    (endBuild h s).stencils = s.stencils ∧ (endBuild h s).clock = s.clock ∧
    (endBuild h s).link.lineSpeed = s.link.lineSpeed ∧ (endBuild h s).link.speedSetting = s.link.speedSetting ∧
    (endBuild h s).link.receiver = s.link.receiver ∧ (endBuild h s).link.holding = s.link.holding ∧
    (endBuild h s).link.inHand = s.link.inHand ∧ (endBuild h s).link.replies = s.link.replies ∧
    (endBuild h s).link.sending = s.link.sending ∧ (endBuild h s).link.notices = s.link.notices ∧
    (endBuild h s).link.counter = s.link.counter ∧ (endBuild h s).link.mask = s.link.mask ∧
    (endBuild h s).link.linkError = s.link.linkError ∧ (endBuild h s).link.noticesLost = s.link.noticesLost ∧
    (endBuild h s).settings = s.settings := by
  unfold endBuild; (try simp only []); (repeat' split) <;> (first | (refine ⟨rfl, rfl, rfl, rfl, rfl, rfl, rfl, rfl, rfl, rfl, rfl, rfl, rfl, rfl, rfl, rfl, rfl, rfl, rfl, rfl, rfl⟩; done) | (simp; done) | simp_all)

@[simp] theorem writeEntry_keeps (s : State) :
    (writeEntry s).pending = s.pending ∧ (writeEntry s).powered = s.powered ∧ (writeEntry s).stations = s.stations ∧
    (writeEntry s).packs = s.packs ∧ (writeEntry s).bulking = s.bulking ∧ (writeEntry s).actions = s.actions ∧
    (writeEntry s).stencils = s.stencils ∧ (writeEntry s).clock = s.clock ∧
    (writeEntry s).link.lineSpeed = s.link.lineSpeed ∧ (writeEntry s).link.speedSetting = s.link.speedSetting ∧
    (writeEntry s).link.receiver = s.link.receiver ∧ (writeEntry s).link.holding = s.link.holding ∧
    (writeEntry s).link.inHand = s.link.inHand ∧ (writeEntry s).link.replies = s.link.replies ∧
    (writeEntry s).link.sending = s.link.sending ∧ (writeEntry s).link.notices = s.link.notices ∧
    (writeEntry s).link.counter = s.link.counter ∧ (writeEntry s).link.mask = s.link.mask ∧
    (writeEntry s).link.linkError = s.link.linkError ∧ (writeEntry s).link.noticesLost = s.link.noticesLost ∧
    (writeEntry s).settings = s.settings := by
  unfold writeEntry; (try simp only []); (repeat' split) <;> (first | (refine ⟨rfl, rfl, rfl, rfl, rfl, rfl, rfl, rfl, rfl, rfl, rfl, rfl, rfl, rfl, rfl, rfl, rfl, rfl, rfl, rfl, rfl⟩; done) | (simp; done) | simp_all)

@[simp] theorem joinWaiting_keeps (n chests : Nat) (s : State) :
    (joinWaiting n chests s).pending = s.pending ∧ (joinWaiting n chests s).powered = s.powered ∧
    (joinWaiting n chests s).stations = s.stations ∧ (joinWaiting n chests s).packs = s.packs ∧
    (joinWaiting n chests s).bulking = s.bulking ∧ (joinWaiting n chests s).invoices.queues = s.invoices.queues ∧
    (joinWaiting n chests s).invoices.nextSerial = s.invoices.nextSerial ∧
    (joinWaiting n chests s).actions = s.actions ∧ (joinWaiting n chests s).stencils = s.stencils ∧
    (joinWaiting n chests s).store.windows = s.store.windows ∧
    (joinWaiting n chests s).store.sheets = s.store.sheets ∧
    (joinWaiting n chests s).store.freePage = s.store.freePage ∧
    (joinWaiting n chests s).store.freeSlot = s.store.freeSlot ∧ (joinWaiting n chests s).clock = s.clock ∧
    (joinWaiting n chests s).link = s.link ∧ (joinWaiting n chests s).settings = s.settings := by
  unfold joinWaiting; (try simp only []); (repeat' split) <;> (first | (refine ⟨rfl, rfl, rfl, rfl, rfl, rfl, rfl, rfl, rfl, rfl, rfl, rfl, rfl, rfl, rfl, rfl⟩; done) | (simp; done) | simp_all)

@[simp] theorem tryWaiting_keeps (l : List Nat) (s : State) :
    (tryWaiting l s).pending = s.pending ∧ (tryWaiting l s).transit = s.transit ∧
    (tryWaiting l s).powered = s.powered ∧ (tryWaiting l s).stations = s.stations ∧ (tryWaiting l s).packs = s.packs ∧
    (tryWaiting l s).bulking = s.bulking ∧ (tryWaiting l s).invoices.queues = s.invoices.queues ∧
    (tryWaiting l s).invoices.nextSerial = s.invoices.nextSerial ∧ (tryWaiting l s).actions = s.actions ∧
    (tryWaiting l s).stencils = s.stencils ∧ (tryWaiting l s).clock = s.clock ∧ (tryWaiting l s).link = s.link ∧
    (tryWaiting l s).settings = s.settings := by
  rw [tryWaiting_frame]; simp

@[simp] theorem takeSheetRequest_keeps (n : Nat) (s : State) :
    (takeSheetRequest n s).pending = s.pending ∧ (takeSheetRequest n s).powered = s.powered ∧
    (takeSheetRequest n s).stations = s.stations ∧ (takeSheetRequest n s).packs = s.packs ∧
    (takeSheetRequest n s).bulking = s.bulking ∧ (takeSheetRequest n s).invoices.queues = s.invoices.queues ∧
    (takeSheetRequest n s).invoices.nextSerial = s.invoices.nextSerial ∧ (takeSheetRequest n s).actions = s.actions ∧
    (takeSheetRequest n s).stencils = s.stencils ∧ (takeSheetRequest n s).clock = s.clock ∧
    (takeSheetRequest n s).link = s.link ∧ (takeSheetRequest n s).settings = s.settings := by
  unfold takeSheetRequest; (try simp only []); (repeat' split) <;> (first | (refine ⟨rfl, rfl, rfl, rfl, rfl, rfl, rfl, rfl, rfl, rfl, rfl, rfl⟩; done) | (simp; done) | simp_all)

@[simp] theorem sheetReleased_keeps (n : Nat) (s : State) :
    (sheetReleased n s).pending = s.pending ∧ (sheetReleased n s).transit = s.transit ∧
    (sheetReleased n s).powered = s.powered ∧ (sheetReleased n s).stations = s.stations ∧
    (sheetReleased n s).packs = s.packs ∧ (sheetReleased n s).bulking.preact = s.bulking.preact ∧
    (sheetReleased n s).bulking.preactStart = s.bulking.preactStart ∧
    (sheetReleased n s).bulking.tolerance = s.bulking.tolerance ∧
    (sheetReleased n s).bulking.nextRun = s.bulking.nextRun ∧
    (sheetReleased n s).bulking.gateOpen = s.bulking.gateOpen ∧
    (sheetReleased n s).bulking.stallTimer = s.bulking.stallTimer ∧
    (sheetReleased n s).bulking.lastReading = s.bulking.lastReading ∧ (sheetReleased n s).actions = s.actions ∧
    (sheetReleased n s).stencils = s.stencils ∧ (sheetReleased n s).store = s.store ∧
    (sheetReleased n s).clock = s.clock ∧ (sheetReleased n s).link = s.link ∧
    (sheetReleased n s).settings = s.settings := by
  unfold sheetReleased; (try simp only []); (repeat' split) <;> (first | (refine ⟨rfl, rfl, rfl, rfl, rfl, rfl, rfl, rfl, rfl, rfl, rfl, rfl, rfl, rfl, rfl, rfl, rfl, rfl⟩; done) | (simp; done) | simp_all)

@[simp] theorem releaseSheet_keeps (h : Sheet) (s : State) :
    (releaseSheet h s).pending = s.pending ∧ (releaseSheet h s).transit = s.transit ∧
    (releaseSheet h s).powered = s.powered ∧ (releaseSheet h s).stations = s.stations ∧
    (releaseSheet h s).packs = s.packs ∧ (releaseSheet h s).bulking.preact = s.bulking.preact ∧
    (releaseSheet h s).bulking.preactStart = s.bulking.preactStart ∧
    (releaseSheet h s).bulking.tolerance = s.bulking.tolerance ∧
    (releaseSheet h s).bulking.nextRun = s.bulking.nextRun ∧
    (releaseSheet h s).bulking.gateOpen = s.bulking.gateOpen ∧
    (releaseSheet h s).bulking.stallTimer = s.bulking.stallTimer ∧
    (releaseSheet h s).bulking.lastReading = s.bulking.lastReading ∧ (releaseSheet h s).actions = s.actions ∧
    (releaseSheet h s).stencils = s.stencils ∧ (releaseSheet h s).clock = s.clock ∧ (releaseSheet h s).link = s.link ∧
    (releaseSheet h s).settings = s.settings := by
  unfold releaseSheet; (try simp only []); (repeat' split) <;> (first | (refine ⟨rfl, rfl, rfl, rfl, rfl, rfl, rfl, rfl, rfl, rfl, rfl, rfl, rfl, rfl, rfl, rfl, rfl⟩; done) | (simp; done) | simp_all)

@[simp] theorem reportLeft_keeps (role : Role) (s : State) :
    (reportLeft role s).pending = s.pending ∧ (reportLeft role s).powered = s.powered ∧
    (reportLeft role s).stations = s.stations ∧ (reportLeft role s).packs = s.packs ∧
    (reportLeft role s).bulking = s.bulking ∧ (reportLeft role s).invoices = s.invoices ∧
    (reportLeft role s).actions = s.actions ∧ (reportLeft role s).stencils = s.stencils ∧
    (reportLeft role s).store = s.store ∧ (reportLeft role s).clock = s.clock ∧ (reportLeft role s).link = s.link ∧
    (reportLeft role s).settings = s.settings := by
  unfold reportLeft; (try simp only []); (repeat' split) <;> (first | (refine ⟨rfl, rfl, rfl, rfl, rfl, rfl, rfl, rfl, rfl, rfl, rfl, rfl⟩; done) | (simp; done) | simp_all)

@[simp] theorem notifyDecision_keeps (i : Fin 4) (r : DecisionRecord) (s : State) :
    (notifyDecision i r s).pending = s.pending ∧ (notifyDecision i r s).powered = s.powered ∧
    (notifyDecision i r s).stations = s.stations ∧ (notifyDecision i r s).packs = s.packs ∧
    (notifyDecision i r s).bulking = s.bulking ∧ (notifyDecision i r s).invoices = s.invoices ∧
    (notifyDecision i r s).actions = s.actions ∧ (notifyDecision i r s).stencils = s.stencils ∧
    (notifyDecision i r s).store = s.store ∧ (notifyDecision i r s).clock = s.clock ∧
    (notifyDecision i r s).link = s.link ∧ (notifyDecision i r s).settings = s.settings := by
  unfold notifyDecision; (try simp only []); (repeat' split) <;> (first | (refine ⟨rfl, rfl, rfl, rfl, rfl, rfl, rfl, rfl, rfl, rfl, rfl, rfl⟩; done) | (simp; done) | simp_all)

@[simp] theorem recordDecision_keeps (i : Fin 4) (r : DecisionRecord) (s : State) :
    (recordDecision i r s).pending = s.pending ∧ (recordDecision i r s).transit = s.transit ∧
    (recordDecision i r s).powered = s.powered ∧ (recordDecision i r s).packs = s.packs ∧
    (recordDecision i r s).bulking = s.bulking ∧ (recordDecision i r s).invoices = s.invoices ∧
    (recordDecision i r s).actions = s.actions ∧ (recordDecision i r s).stencils = s.stencils ∧
    (recordDecision i r s).store = s.store ∧ (recordDecision i r s).clock = s.clock ∧
    (recordDecision i r s).link = s.link ∧ (recordDecision i r s).settings = s.settings := by
  unfold recordDecision; (try simp only []); (repeat' split) <;> (first | (refine ⟨rfl, rfl, rfl, rfl, rfl, rfl, rfl, rfl, rfl, rfl, rfl, rfl⟩; done) | (simp; done) | simp_all)

@[simp] theorem decideChest_keeps (i : Fin 4) (q : Int) (s : State) :
    (decideChest i q s).pending = s.pending ∧ (decideChest i q s).powered = s.powered ∧
    (decideChest i q s).packs = s.packs ∧ (decideChest i q s).bulking = s.bulking ∧
    (decideChest i q s).invoices = s.invoices ∧ (decideChest i q s).actions = s.actions ∧
    (decideChest i q s).stencils = s.stencils ∧ (decideChest i q s).store = s.store ∧
    (decideChest i q s).clock = s.clock ∧ (decideChest i q s).link = s.link ∧
    (decideChest i q s).settings = s.settings := by
  rw [decideChest_frame]; simp

@[simp] theorem decideTare_keeps (i : Fin 4) (q : Int) (s : State) :
    (decideTare i q s).pending = s.pending ∧ (decideTare i q s).powered = s.powered ∧
    (decideTare i q s).packs = s.packs ∧ (decideTare i q s).bulking = s.bulking ∧
    (decideTare i q s).invoices = s.invoices ∧ (decideTare i q s).actions = s.actions ∧
    (decideTare i q s).stencils = s.stencils ∧ (decideTare i q s).store = s.store ∧
    (decideTare i q s).clock = s.clock ∧ (decideTare i q s).link = s.link ∧ (decideTare i q s).settings = s.settings := by
  unfold decideTare; (try simp only []); (repeat' split) <;> (first | (refine ⟨rfl, rfl, rfl, rfl, rfl, rfl, rfl, rfl, rfl, rfl, rfl⟩; done) | (simp; done) | simp_all)

@[simp] theorem takeDecision_keeps (i : Fin 4) (q : Int) (s : State) :
    (takeDecision i q s).pending = s.pending ∧ (takeDecision i q s).powered = s.powered ∧
    (takeDecision i q s).packs = s.packs ∧ (takeDecision i q s).bulking = s.bulking ∧
    (takeDecision i q s).invoices = s.invoices ∧ (takeDecision i q s).actions = s.actions ∧
    (takeDecision i q s).stencils = s.stencils ∧ (takeDecision i q s).store = s.store ∧
    (takeDecision i q s).clock = s.clock ∧ (takeDecision i q s).link = s.link ∧
    (takeDecision i q s).settings = s.settings := by
  rw [takeDecision_frame]; simp

@[simp] theorem takeAppendAnswer_keeps (i : Fin 4) (a : AppendAnswer) (s : State) :
    (takeAppendAnswer i a s).pending = s.pending ∧ (takeAppendAnswer i a s).powered = s.powered ∧
    (takeAppendAnswer i a s).packs = s.packs ∧ (takeAppendAnswer i a s).bulking = s.bulking ∧
    (takeAppendAnswer i a s).invoices = s.invoices ∧ (takeAppendAnswer i a s).actions = s.actions ∧
    (takeAppendAnswer i a s).stencils = s.stencils ∧ (takeAppendAnswer i a s).store = s.store ∧
    (takeAppendAnswer i a s).clock = s.clock ∧ (takeAppendAnswer i a s).link = s.link ∧
    (takeAppendAnswer i a s).settings = s.settings := by
  unfold takeAppendAnswer; (try simp only []); (repeat' split) <;> (first | (refine ⟨rfl, rfl, rfl, rfl, rfl, rfl, rfl, rfl, rfl, rfl, rfl⟩; done) | (simp; done) | simp_all)

@[simp] theorem takeTareAnswer_keeps (i : Fin 4) (t : Fin 8) (took : Bool) (s : State) :
    (takeTareAnswer i t took s).pending = s.pending ∧ (takeTareAnswer i t took s).powered = s.powered ∧
    (takeTareAnswer i t took s).packs = s.packs ∧ (takeTareAnswer i t took s).bulking = s.bulking ∧
    (takeTareAnswer i t took s).invoices = s.invoices ∧ (takeTareAnswer i t took s).actions = s.actions ∧
    (takeTareAnswer i t took s).stencils = s.stencils ∧ (takeTareAnswer i t took s).store = s.store ∧
    (takeTareAnswer i t took s).clock = s.clock ∧ (takeTareAnswer i t took s).link = s.link ∧
    (takeTareAnswer i t took s).settings = s.settings := by
  unfold takeTareAnswer; (try simp only []); (repeat' split) <;> (first | (refine ⟨rfl, rfl, rfl, rfl, rfl, rfl, rfl, rfl, rfl, rfl, rfl⟩; done) | (simp; done) | simp_all)

@[simp] theorem trackZero_keeps (i : Fin 4) (s : State) :
    (trackZero i s).pending = s.pending ∧ (trackZero i s).powered = s.powered ∧ (trackZero i s).packs = s.packs ∧
    (trackZero i s).bulking = s.bulking ∧ (trackZero i s).invoices = s.invoices ∧
    (trackZero i s).actions = s.actions ∧ (trackZero i s).stencils = s.stencils ∧ (trackZero i s).store = s.store ∧
    (trackZero i s).clock = s.clock ∧ (trackZero i s).link = s.link ∧ (trackZero i s).settings = s.settings := by
  rw [trackZero_frame]; simp

@[simp] theorem decideIfSettled_keeps (i : Fin 4) (s : State) :
    (decideIfSettled i s).pending = s.pending ∧ (decideIfSettled i s).powered = s.powered ∧
    (decideIfSettled i s).packs = s.packs ∧ (decideIfSettled i s).bulking = s.bulking ∧
    (decideIfSettled i s).invoices = s.invoices ∧ (decideIfSettled i s).actions = s.actions ∧
    (decideIfSettled i s).stencils = s.stencils ∧ (decideIfSettled i s).store = s.store ∧
    (decideIfSettled i s).clock = s.clock ∧ (decideIfSettled i s).link = s.link ∧
    (decideIfSettled i s).settings = s.settings := by
  rw [decideIfSettled_frame]; simp

@[simp] theorem watchDisturbance_keeps (i : Fin 4) (s : State) :
    (watchDisturbance i s).pending = s.pending ∧ (watchDisturbance i s).powered = s.powered ∧
    (watchDisturbance i s).packs = s.packs ∧ (watchDisturbance i s).bulking = s.bulking ∧
    (watchDisturbance i s).invoices = s.invoices ∧ (watchDisturbance i s).actions = s.actions ∧
    (watchDisturbance i s).stencils = s.stencils ∧ (watchDisturbance i s).store = s.store ∧
    (watchDisturbance i s).clock = s.clock ∧ (watchDisturbance i s).link = s.link ∧
    (watchDisturbance i s).settings = s.settings := by
  rw [watchDisturbance_frame]; simp

@[simp] theorem inDecided_keeps (i : Fin 4) (entered : Bool) (s : State) :
    (inDecided i entered s).pending = s.pending ∧ (inDecided i entered s).powered = s.powered ∧
    (inDecided i entered s).packs = s.packs ∧ (inDecided i entered s).bulking = s.bulking ∧
    (inDecided i entered s).invoices = s.invoices ∧ (inDecided i entered s).actions = s.actions ∧
    (inDecided i entered s).stencils = s.stencils ∧ (inDecided i entered s).store = s.store ∧
    (inDecided i entered s).clock = s.clock ∧ (inDecided i entered s).link = s.link ∧
    (inDecided i entered s).settings = s.settings := by
  rw [inDecided_frame]; simp

@[simp] theorem loadCycle_keeps (i : Fin 4) (entered : Bool) (s : State) :
    (loadCycle i entered s).pending = s.pending ∧ (loadCycle i entered s).powered = s.powered ∧
    (loadCycle i entered s).packs = s.packs ∧ (loadCycle i entered s).bulking = s.bulking ∧
    (loadCycle i entered s).invoices = s.invoices ∧ (loadCycle i entered s).actions = s.actions ∧
    (loadCycle i entered s).stencils = s.stencils ∧ (loadCycle i entered s).store = s.store ∧
    (loadCycle i entered s).clock = s.clock ∧ (loadCycle i entered s).link = s.link ∧
    (loadCycle i entered s).settings = s.settings := by
  rw [loadCycle_frame]; simp

@[simp] theorem enterOverload_keeps (i : Fin 4) (s : State) :
    (enterOverload i s).pending = s.pending ∧ (enterOverload i s).powered = s.powered ∧
    (enterOverload i s).packs = s.packs ∧ (enterOverload i s).bulking = s.bulking ∧
    (enterOverload i s).invoices = s.invoices ∧ (enterOverload i s).actions = s.actions ∧
    (enterOverload i s).stencils = s.stencils ∧ (enterOverload i s).store = s.store ∧
    (enterOverload i s).clock = s.clock ∧ (enterOverload i s).link = s.link ∧
    (enterOverload i s).settings = s.settings := by
  unfold enterOverload; (try simp only []); (repeat' split) <;> (first | (refine ⟨rfl, rfl, rfl, rfl, rfl, rfl, rfl, rfl, rfl, rfl, rfl⟩; done) | (simp; done) | simp_all)

@[simp] theorem leaveOverload_keeps (i : Fin 4) (s : State) :
    (leaveOverload i s).pending = s.pending ∧ (leaveOverload i s).powered = s.powered ∧
    (leaveOverload i s).packs = s.packs ∧ (leaveOverload i s).bulking = s.bulking ∧
    (leaveOverload i s).invoices = s.invoices ∧ (leaveOverload i s).actions = s.actions ∧
    (leaveOverload i s).stencils = s.stencils ∧ (leaveOverload i s).store = s.store ∧
    (leaveOverload i s).clock = s.clock ∧ (leaveOverload i s).link = s.link ∧
    (leaveOverload i s).settings = s.settings := by
  unfold leaveOverload; (try simp only []); (repeat' split) <;> (first | (refine ⟨rfl, rfl, rfl, rfl, rfl, rfl, rfl, rfl, rfl, rfl, rfl⟩; done) | (simp; done) | simp_all)

@[simp] theorem answerCapture_keeps (i : Fin 4) (s : State) :
    (answerCapture i s).pending = s.pending ∧ (answerCapture i s).powered = s.powered ∧
    (answerCapture i s).stations = s.stations ∧ (answerCapture i s).packs = s.packs ∧
    (answerCapture i s).bulking = s.bulking ∧ (answerCapture i s).invoices = s.invoices ∧
    (answerCapture i s).actions = s.actions ∧ (answerCapture i s).stencils = s.stencils ∧
    (answerCapture i s).store = s.store ∧ (answerCapture i s).clock = s.clock ∧
    (answerCapture i s).link.lineSpeed = s.link.lineSpeed ∧
    (answerCapture i s).link.speedSetting = s.link.speedSetting ∧
    (answerCapture i s).link.receiver = s.link.receiver ∧ (answerCapture i s).link.holding = s.link.holding ∧
    (answerCapture i s).link.inHand = s.link.inHand ∧ (answerCapture i s).link.replies = s.link.replies ∧
    (answerCapture i s).link.sending = s.link.sending ∧ (answerCapture i s).link.notices = s.link.notices ∧
    (answerCapture i s).link.counter = s.link.counter ∧ (answerCapture i s).link.mask = s.link.mask ∧
    (answerCapture i s).link.linkError = s.link.linkError ∧
    (answerCapture i s).link.noticesLost = s.link.noticesLost ∧ (answerCapture i s).settings = s.settings := by
  unfold answerCapture; (try simp only []); (repeat' split) <;> (first | (refine ⟨rfl, rfl, rfl, rfl, rfl, rfl, rfl, rfl, rfl, rfl, rfl, rfl, rfl, rfl, rfl, rfl, rfl, rfl, rfl, rfl, rfl, rfl, rfl⟩; done) | (simp; done) | simp_all)

@[simp] theorem inRange_keeps (i : Fin 4) (s : State) :
    (inRange i s).pending = s.pending ∧ (inRange i s).powered = s.powered ∧ (inRange i s).packs = s.packs ∧
    (inRange i s).bulking = s.bulking ∧ (inRange i s).invoices = s.invoices ∧ (inRange i s).actions = s.actions ∧
    (inRange i s).stencils = s.stencils ∧ (inRange i s).store = s.store ∧ (inRange i s).clock = s.clock ∧
    (inRange i s).link.lineSpeed = s.link.lineSpeed ∧ (inRange i s).link.speedSetting = s.link.speedSetting ∧
    (inRange i s).link.receiver = s.link.receiver ∧ (inRange i s).link.holding = s.link.holding ∧
    (inRange i s).link.inHand = s.link.inHand ∧ (inRange i s).link.replies = s.link.replies ∧
    (inRange i s).link.sending = s.link.sending ∧ (inRange i s).link.notices = s.link.notices ∧
    (inRange i s).link.counter = s.link.counter ∧ (inRange i s).link.mask = s.link.mask ∧
    (inRange i s).link.linkError = s.link.linkError ∧ (inRange i s).link.noticesLost = s.link.noticesLost ∧
    (inRange i s).settings = s.settings := by
  unfold inRange; (try simp only []); (repeat' split) <;> (first | (refine ⟨rfl, rfl, rfl, rfl, rfl, rfl, rfl, rfl, rfl, rfl, rfl, rfl, rfl, rfl, rfl, rfl, rfl, rfl, rfl, rfl, rfl, rfl⟩; done) | (simp; done) | simp_all)

@[simp] theorem weigh_keeps (i : Fin 4) (x : Int) (s : State) :
    (weigh i x s).pending = s.pending ∧ (weigh i x s).powered = s.powered ∧ (weigh i x s).packs = s.packs ∧
    (weigh i x s).bulking = s.bulking ∧ (weigh i x s).invoices = s.invoices ∧ (weigh i x s).actions = s.actions ∧
    (weigh i x s).stencils = s.stencils ∧ (weigh i x s).store = s.store ∧ (weigh i x s).clock = s.clock ∧
    (weigh i x s).link.lineSpeed = s.link.lineSpeed ∧ (weigh i x s).link.speedSetting = s.link.speedSetting ∧
    (weigh i x s).link.receiver = s.link.receiver ∧ (weigh i x s).link.holding = s.link.holding ∧
    (weigh i x s).link.inHand = s.link.inHand ∧ (weigh i x s).link.replies = s.link.replies ∧
    (weigh i x s).link.sending = s.link.sending ∧ (weigh i x s).link.notices = s.link.notices ∧
    (weigh i x s).link.counter = s.link.counter ∧ (weigh i x s).link.mask = s.link.mask ∧
    (weigh i x s).link.linkError = s.link.linkError ∧ (weigh i x s).link.noticesLost = s.link.noticesLost ∧
    (weigh i x s).settings = s.settings := by
  unfold weigh; (try simp only []); (repeat' split) <;> (first | (refine ⟨rfl, rfl, rfl, rfl, rfl, rfl, rfl, rfl, rfl, rfl, rfl, rfl, rfl, rfl, rfl, rfl, rfl, rfl, rfl, rfl, rfl, rfl⟩; done) | (simp; done) | simp_all)

@[simp] theorem restartStation_keeps (i : Fin 4) (s : State) :
    (restartStation i s).pending = s.pending ∧ (restartStation i s).powered = s.powered ∧
    (restartStation i s).packs = s.packs ∧ (restartStation i s).bulking = s.bulking ∧
    (restartStation i s).invoices = s.invoices ∧ (restartStation i s).actions = s.actions ∧
    (restartStation i s).stencils = s.stencils ∧ (restartStation i s).store = s.store ∧
    (restartStation i s).clock = s.clock ∧ (restartStation i s).link = s.link ∧
    (restartStation i s).settings = s.settings := by
  unfold restartStation; (try simp only []); (repeat' split) <;> (first | (refine ⟨rfl, rfl, rfl, rfl, rfl, rfl, rfl, rfl, rfl, rfl, rfl⟩; done) | (simp; done) | simp_all)

@[simp] theorem takeSample_keeps (i : Fin 4) (x : Int) (s : State) :
    (takeSample i x s).pending = s.pending ∧ (takeSample i x s).powered = s.powered ∧
    (takeSample i x s).packs = s.packs ∧ (takeSample i x s).bulking = s.bulking ∧
    (takeSample i x s).invoices = s.invoices ∧ (takeSample i x s).actions = s.actions ∧
    (takeSample i x s).stencils = s.stencils ∧ (takeSample i x s).store = s.store ∧
    (takeSample i x s).clock = s.clock ∧ (takeSample i x s).link.lineSpeed = s.link.lineSpeed ∧
    (takeSample i x s).link.speedSetting = s.link.speedSetting ∧ (takeSample i x s).link.receiver = s.link.receiver ∧
    (takeSample i x s).link.holding = s.link.holding ∧ (takeSample i x s).link.inHand = s.link.inHand ∧
    (takeSample i x s).link.replies = s.link.replies ∧ (takeSample i x s).link.sending = s.link.sending ∧
    (takeSample i x s).link.notices = s.link.notices ∧ (takeSample i x s).link.counter = s.link.counter ∧
    (takeSample i x s).link.mask = s.link.mask ∧ (takeSample i x s).link.linkError = s.link.linkError ∧
    (takeSample i x s).link.noticesLost = s.link.noticesLost ∧ (takeSample i x s).settings = s.settings := by
  unfold takeSample; (try simp only []); (repeat' split) <;> (first | (refine ⟨rfl, rfl, rfl, rfl, rfl, rfl, rfl, rfl, rfl, rfl, rfl, rfl, rfl, rfl, rfl, rfl, rfl, rfl, rfl, rfl, rfl, rfl⟩; done) | (simp; done) | simp_all)

@[simp] theorem captureGone_keeps (i : Fin 4) (s : State) :
    (captureGone i s).pending = s.pending ∧ (captureGone i s).powered = s.powered ∧
    (captureGone i s).stations = s.stations ∧ (captureGone i s).packs = s.packs ∧
    (captureGone i s).bulking = s.bulking ∧ (captureGone i s).invoices = s.invoices ∧
    (captureGone i s).actions = s.actions ∧ (captureGone i s).stencils = s.stencils ∧
    (captureGone i s).store = s.store ∧ (captureGone i s).clock = s.clock ∧
    (captureGone i s).link.lineSpeed = s.link.lineSpeed ∧ (captureGone i s).link.speedSetting = s.link.speedSetting ∧
    (captureGone i s).link.receiver = s.link.receiver ∧ (captureGone i s).link.holding = s.link.holding ∧
    (captureGone i s).link.inHand = s.link.inHand ∧ (captureGone i s).link.replies = s.link.replies ∧
    (captureGone i s).link.sending = s.link.sending ∧ (captureGone i s).link.notices = s.link.notices ∧
    (captureGone i s).link.counter = s.link.counter ∧ (captureGone i s).link.mask = s.link.mask ∧
    (captureGone i s).link.linkError = s.link.linkError ∧ (captureGone i s).link.noticesLost = s.link.noticesLost ∧
    (captureGone i s).settings = s.settings := by
  unfold captureGone; (try simp only []); (repeat' split) <;> (first | (refine ⟨rfl, rfl, rfl, rfl, rfl, rfl, rfl, rfl, rfl, rfl, rfl, rfl, rfl, rfl, rfl, rfl, rfl, rfl, rfl, rfl, rfl, rfl, rfl⟩; done) | (simp; done) | simp_all)

@[simp] theorem loseSignal_keeps (i : Fin 4) (s : State) :
    (loseSignal i s).pending = s.pending ∧ (loseSignal i s).powered = s.powered ∧ (loseSignal i s).packs = s.packs ∧
    (loseSignal i s).bulking = s.bulking ∧ (loseSignal i s).invoices = s.invoices ∧
    (loseSignal i s).actions = s.actions ∧ (loseSignal i s).stencils = s.stencils ∧ (loseSignal i s).store = s.store ∧
    (loseSignal i s).clock = s.clock ∧ (loseSignal i s).link.lineSpeed = s.link.lineSpeed ∧
    (loseSignal i s).link.speedSetting = s.link.speedSetting ∧ (loseSignal i s).link.receiver = s.link.receiver ∧
    (loseSignal i s).link.holding = s.link.holding ∧ (loseSignal i s).link.inHand = s.link.inHand ∧
    (loseSignal i s).link.replies = s.link.replies ∧ (loseSignal i s).link.sending = s.link.sending ∧
    (loseSignal i s).link.notices = s.link.notices ∧ (loseSignal i s).link.counter = s.link.counter ∧
    (loseSignal i s).link.mask = s.link.mask ∧ (loseSignal i s).link.linkError = s.link.linkError ∧
    (loseSignal i s).link.noticesLost = s.link.noticesLost ∧ (loseSignal i s).settings = s.settings := by
  unfold loseSignal; (try simp only []); (repeat' split) <;> (first | (refine ⟨rfl, rfl, rfl, rfl, rfl, rfl, rfl, rfl, rfl, rfl, rfl, rfl, rfl, rfl, rfl, rfl, rfl, rfl, rfl, rfl, rfl, rfl⟩; done) | (simp; done) | simp_all)

@[simp] theorem takeSignalExpiry_keeps (i : Fin 4) (s : State) :
    (takeSignalExpiry i s).pending = s.pending ∧ (takeSignalExpiry i s).powered = s.powered ∧
    (takeSignalExpiry i s).packs = s.packs ∧ (takeSignalExpiry i s).bulking = s.bulking ∧
    (takeSignalExpiry i s).invoices = s.invoices ∧ (takeSignalExpiry i s).actions = s.actions ∧
    (takeSignalExpiry i s).stencils = s.stencils ∧ (takeSignalExpiry i s).store = s.store ∧
    (takeSignalExpiry i s).clock = s.clock ∧ (takeSignalExpiry i s).link.lineSpeed = s.link.lineSpeed ∧
    (takeSignalExpiry i s).link.speedSetting = s.link.speedSetting ∧
    (takeSignalExpiry i s).link.receiver = s.link.receiver ∧ (takeSignalExpiry i s).link.holding = s.link.holding ∧
    (takeSignalExpiry i s).link.inHand = s.link.inHand ∧ (takeSignalExpiry i s).link.replies = s.link.replies ∧
    (takeSignalExpiry i s).link.sending = s.link.sending ∧ (takeSignalExpiry i s).link.notices = s.link.notices ∧
    (takeSignalExpiry i s).link.counter = s.link.counter ∧ (takeSignalExpiry i s).link.mask = s.link.mask ∧
    (takeSignalExpiry i s).link.linkError = s.link.linkError ∧
    (takeSignalExpiry i s).link.noticesLost = s.link.noticesLost ∧ (takeSignalExpiry i s).settings = s.settings := by
  unfold takeSignalExpiry; (try simp only []); (repeat' split) <;> (first | (refine ⟨rfl, rfl, rfl, rfl, rfl, rfl, rfl, rfl, rfl, rfl, rfl, rfl, rfl, rfl, rfl, rfl, rfl, rfl, rfl, rfl, rfl, rfl⟩; done) | (simp; done) | simp_all)

@[simp] theorem limitZero_keeps (i : Fin 4) (s : State) :
    (limitZero i s).pending = s.pending ∧ (limitZero i s).powered = s.powered ∧ (limitZero i s).packs = s.packs ∧
    (limitZero i s).bulking = s.bulking ∧ (limitZero i s).invoices = s.invoices ∧
    (limitZero i s).actions = s.actions ∧ (limitZero i s).stencils = s.stencils ∧ (limitZero i s).store = s.store ∧
    (limitZero i s).clock = s.clock ∧ (limitZero i s).link = s.link ∧ (limitZero i s).settings = s.settings := by
  rw [limitZero_frame]; simp

@[simp] theorem changeRole_keeps (i : Fin 4) (old new : Role) (s : State) :
    (changeRole i old new s).pending = s.pending ∧ (changeRole i old new s).powered = s.powered ∧
    (changeRole i old new s).packs = s.packs ∧ (changeRole i old new s).bulking = s.bulking ∧
    (changeRole i old new s).invoices = s.invoices ∧ (changeRole i old new s).actions = s.actions ∧
    (changeRole i old new s).stencils = s.stencils ∧ (changeRole i old new s).store = s.store ∧
    (changeRole i old new s).clock = s.clock ∧ (changeRole i old new s).link.lineSpeed = s.link.lineSpeed ∧
    (changeRole i old new s).link.speedSetting = s.link.speedSetting ∧
    (changeRole i old new s).link.receiver = s.link.receiver ∧
    (changeRole i old new s).link.holding = s.link.holding ∧ (changeRole i old new s).link.inHand = s.link.inHand ∧
    (changeRole i old new s).link.replies = s.link.replies ∧ (changeRole i old new s).link.sending = s.link.sending ∧
    (changeRole i old new s).link.notices = s.link.notices ∧ (changeRole i old new s).link.counter = s.link.counter ∧
    (changeRole i old new s).link.mask = s.link.mask ∧ (changeRole i old new s).link.linkError = s.link.linkError ∧
    (changeRole i old new s).link.noticesLost = s.link.noticesLost ∧ (changeRole i old new s).settings = s.settings := by
  unfold changeRole; (try simp only []); (repeat' split) <;> (first | (refine ⟨rfl, rfl, rfl, rfl, rfl, rfl, rfl, rfl, rfl, rfl, rfl, rfl, rfl, rfl, rfl, rfl, rfl, rfl, rfl, rfl, rfl, rfl⟩; done) | (simp; done) | simp_all)

@[simp] theorem applyConfig_keeps (i : Fin 4) (new : StationSettings) (s : State) :
    (applyConfig i new s).pending = s.pending ∧ (applyConfig i new s).powered = s.powered ∧
    (applyConfig i new s).packs = s.packs ∧ (applyConfig i new s).bulking = s.bulking ∧
    (applyConfig i new s).invoices = s.invoices ∧ (applyConfig i new s).actions = s.actions ∧
    (applyConfig i new s).stencils = s.stencils ∧ (applyConfig i new s).store = s.store ∧
    (applyConfig i new s).clock = s.clock ∧ (applyConfig i new s).link.lineSpeed = s.link.lineSpeed ∧
    (applyConfig i new s).link.speedSetting = s.link.speedSetting ∧
    (applyConfig i new s).link.receiver = s.link.receiver ∧ (applyConfig i new s).link.holding = s.link.holding ∧
    (applyConfig i new s).link.inHand = s.link.inHand ∧ (applyConfig i new s).link.replies = s.link.replies ∧
    (applyConfig i new s).link.sending = s.link.sending ∧ (applyConfig i new s).link.notices = s.link.notices ∧
    (applyConfig i new s).link.counter = s.link.counter ∧ (applyConfig i new s).link.mask = s.link.mask ∧
    (applyConfig i new s).link.linkError = s.link.linkError ∧
    (applyConfig i new s).link.noticesLost = s.link.noticesLost ∧ (applyConfig i new s).settings = s.settings := by
  unfold applyConfig; (try simp only []); (repeat' split) <;> (first | (refine ⟨rfl, rfl, rfl, rfl, rfl, rfl, rfl, rfl, rfl, rfl, rfl, rfl, rfl, rfl, rfl, rfl, rfl, rfl, rfl, rfl, rfl, rfl⟩; done) | (simp; done) | simp_all)

@[simp] theorem takeSaveSettings_keeps (tag : Byte) (s : State) :
    (takeSaveSettings tag s).pending = s.pending ∧ (takeSaveSettings tag s).transit = s.transit ∧
    (takeSaveSettings tag s).powered = s.powered ∧ (takeSaveSettings tag s).stations = s.stations ∧
    (takeSaveSettings tag s).packs = s.packs ∧ (takeSaveSettings tag s).bulking = s.bulking ∧
    (takeSaveSettings tag s).invoices = s.invoices ∧ (takeSaveSettings tag s).actions = s.actions ∧
    (takeSaveSettings tag s).stencils = s.stencils ∧ (takeSaveSettings tag s).store = s.store ∧
    (takeSaveSettings tag s).clock = s.clock ∧ (takeSaveSettings tag s).link.lineSpeed = s.link.lineSpeed ∧
    (takeSaveSettings tag s).link.speedSetting = s.link.speedSetting ∧
    (takeSaveSettings tag s).link.receiver = s.link.receiver ∧
    (takeSaveSettings tag s).link.holding = s.link.holding ∧ (takeSaveSettings tag s).link.replies = s.link.replies ∧
    (takeSaveSettings tag s).link.sending = s.link.sending ∧ (takeSaveSettings tag s).link.notices = s.link.notices ∧
    (takeSaveSettings tag s).link.counter = s.link.counter ∧ (takeSaveSettings tag s).link.mask = s.link.mask ∧
    (takeSaveSettings tag s).link.slots = s.link.slots ∧ (takeSaveSettings tag s).link.linkError = s.link.linkError ∧
    (takeSaveSettings tag s).link.noticesLost = s.link.noticesLost ∧
    (takeSaveSettings tag s).settings.current = s.settings.current ∧
    (takeSaveSettings tag s).settings.defaulted = s.settings.defaulted ∧
    (takeSaveSettings tag s).settings.restart = s.settings.restart := by
  unfold takeSaveSettings; (try simp only []); (repeat' split) <;> (first | (refine ⟨rfl, rfl, rfl, rfl, rfl, rfl, rfl, rfl, rfl, rfl, rfl, rfl, rfl, rfl, rfl, rfl, rfl, rfl, rfl, rfl, rfl, rfl, rfl, rfl, rfl, rfl⟩; done) | (simp; done) | simp_all)

@[simp] theorem takeWaitTimeout_keeps (i : Fin 4) (s : State) :
    (takeWaitTimeout i s).pending = s.pending ∧ (takeWaitTimeout i s).powered = s.powered ∧
    (takeWaitTimeout i s).stations = s.stations ∧ (takeWaitTimeout i s).packs = s.packs ∧
    (takeWaitTimeout i s).bulking = s.bulking ∧ (takeWaitTimeout i s).invoices = s.invoices ∧
    (takeWaitTimeout i s).actions = s.actions ∧ (takeWaitTimeout i s).stencils = s.stencils ∧
    (takeWaitTimeout i s).store = s.store ∧ (takeWaitTimeout i s).clock = s.clock ∧
    (takeWaitTimeout i s).link.lineSpeed = s.link.lineSpeed ∧
    (takeWaitTimeout i s).link.speedSetting = s.link.speedSetting ∧
    (takeWaitTimeout i s).link.receiver = s.link.receiver ∧ (takeWaitTimeout i s).link.holding = s.link.holding ∧
    (takeWaitTimeout i s).link.inHand = s.link.inHand ∧ (takeWaitTimeout i s).link.replies = s.link.replies ∧
    (takeWaitTimeout i s).link.sending = s.link.sending ∧ (takeWaitTimeout i s).link.notices = s.link.notices ∧
    (takeWaitTimeout i s).link.counter = s.link.counter ∧ (takeWaitTimeout i s).link.mask = s.link.mask ∧
    (takeWaitTimeout i s).link.linkError = s.link.linkError ∧
    (takeWaitTimeout i s).link.noticesLost = s.link.noticesLost ∧ (takeWaitTimeout i s).settings = s.settings := by
  unfold takeWaitTimeout; (try simp only []); (repeat' split) <;> (first | (refine ⟨rfl, rfl, rfl, rfl, rfl, rfl, rfl, rfl, rfl, rfl, rfl, rfl, rfl, rfl, rfl, rfl, rfl, rfl, rfl, rfl, rfl, rfl, rfl⟩; done) | (simp; done) | simp_all)

@[simp] theorem takeDiscard_keeps (i : Fin 4) (s : State) :
    (takeDiscard i s).pending = s.pending ∧ (takeDiscard i s).transit = s.transit ∧
    (takeDiscard i s).powered = s.powered ∧ (takeDiscard i s).stations = s.stations ∧
    (takeDiscard i s).packs = s.packs ∧ (takeDiscard i s).bulking = s.bulking ∧
    (takeDiscard i s).invoices = s.invoices ∧ (takeDiscard i s).actions = s.actions ∧
    (takeDiscard i s).stencils = s.stencils ∧ (takeDiscard i s).store = s.store ∧ (takeDiscard i s).clock = s.clock ∧
    (takeDiscard i s).link.lineSpeed = s.link.lineSpeed ∧ (takeDiscard i s).link.speedSetting = s.link.speedSetting ∧
    (takeDiscard i s).link.receiver = s.link.receiver ∧ (takeDiscard i s).link.holding = s.link.holding ∧
    (takeDiscard i s).link.inHand = s.link.inHand ∧ (takeDiscard i s).link.replies = s.link.replies ∧
    (takeDiscard i s).link.sending = s.link.sending ∧ (takeDiscard i s).link.notices = s.link.notices ∧
    (takeDiscard i s).link.counter = s.link.counter ∧ (takeDiscard i s).link.mask = s.link.mask ∧
    (takeDiscard i s).link.linkError = s.link.linkError ∧ (takeDiscard i s).link.noticesLost = s.link.noticesLost ∧
    (takeDiscard i s).settings = s.settings := by
  unfold takeDiscard; (try simp only []); (repeat' split) <;> (first | (refine ⟨rfl, rfl, rfl, rfl, rfl, rfl, rfl, rfl, rfl, rfl, rfl, rfl, rfl, rfl, rfl, rfl, rfl, rfl, rfl, rfl, rfl, rfl, rfl, rfl⟩; done) | (simp; done) | simp_all)

@[simp] theorem tick_keeps (s : State) :
    (tick s).pending = s.pending ∧ (tick s).transit = s.transit ∧ (tick s).powered = s.powered ∧
    (tick s).packs = s.packs ∧ (tick s).bulking.records = s.bulking.records ∧
    (tick s).bulking.preact = s.bulking.preact ∧ (tick s).bulking.preactStart = s.bulking.preactStart ∧
    (tick s).bulking.tolerance = s.bulking.tolerance ∧ (tick s).bulking.nextRun = s.bulking.nextRun ∧
    (tick s).bulking.gateOpen = s.bulking.gateOpen ∧ (tick s).bulking.lastReading = s.bulking.lastReading ∧
    (tick s).invoices = s.invoices ∧ (tick s).actions.vectors = s.actions.vectors ∧
    (tick s).actions.sets = s.actions.sets ∧ (tick s).stencils.templates = s.stencils.templates ∧
    (tick s).store = s.store ∧ (tick s).link.lineSpeed = s.link.lineSpeed ∧
    (tick s).link.speedSetting = s.link.speedSetting ∧ (tick s).link.holding = s.link.holding ∧
    (tick s).link.inHand = s.link.inHand ∧ (tick s).link.replies = s.link.replies ∧
    (tick s).link.sending = s.link.sending ∧ (tick s).link.notices = s.link.notices ∧
    (tick s).link.counter = s.link.counter ∧ (tick s).link.mask = s.link.mask ∧
    (tick s).link.linkError = s.link.linkError ∧ (tick s).link.noticesLost = s.link.noticesLost ∧
    (tick s).settings = s.settings := by
  refine ⟨rfl, rfl, rfl, rfl, rfl, rfl, rfl, rfl, rfl, rfl, rfl, rfl, rfl, rfl, rfl, rfl, rfl, rfl, rfl, rfl, rfl, rfl, rfl, rfl, rfl, rfl, rfl, rfl⟩

end Sys2Proof.Machine
end

