-- ==== Sys2Proof/Laws/Requests.lean ====
section
/-! SUPPORT. What a request that is taken leaves as it was: one lemma for each owner of a request, over every field the
request cannot write. -/

namespace Sys2Proof.Machine

/-- A commitment writes the bulk table alone (R62). -/
theorem openCommitment_keeps (r : InvOpenFields) (s : State) {u : State} {g : Grant}
    (h : openCommitment r s = .ok (u, g)) : u = { s with bulking := u.bulking } := by
  simp only [openCommitment, commitWeight, bind, Except.bind, pure, Except.pure] at h
  (repeat' split at h) <;> first | contradiction | (obtain ⟨rfl, -⟩ := Prod.mk.inj (Except.ok.inj h); rfl)

theorem askSlot_keeps (s : State) (k : SlotKey) (part : Option Nat) {u : State} {form : Form}
    (h : askSlot s k part = .ok (u, form)) :
    u.pending = s.pending ∧ u.transit = s.transit ∧ u.powered = s.powered ∧ u.stations = s.stations ∧
    u.packs = s.packs ∧ u.bulking = s.bulking ∧ u.invoices = s.invoices ∧ u.actions = s.actions ∧
    u.stencils = s.stencils ∧ u.store = s.store ∧ u.clock = s.clock ∧ u.settings = s.settings := by
  simp only [askSlot, bind, Except.bind, okWith, pure, Except.pure] at h
  (repeat' split at h) <;> first
    | contradiction
    | (simp at h; done)
    | (obtain ⟨rfl, -⟩ := Prod.mk.inj (Except.ok.inj h); first | (simp; done) | simp_all)
    | (simp_all; done)

theorem answerFromSlot_keeps (s : State) (i : Fin 4) {u : State} {form : Form}
    (h : answerFromSlot s i = .ok (u, form)) :
    u.pending = s.pending ∧ u.transit = s.transit ∧ u.powered = s.powered ∧ u.stations = s.stations ∧
    u.packs = s.packs ∧ u.bulking = s.bulking ∧ u.invoices = s.invoices ∧ u.actions = s.actions ∧
    u.stencils = s.stencils ∧ u.store = s.store ∧ u.clock = s.clock ∧ u.settings = s.settings := by
  simp only [answerFromSlot, bind, Except.bind, okWith, pure, Except.pure] at h
  (repeat' split at h) <;> first
    | contradiction
    | (simp at h; done)
    | (obtain ⟨rfl, -⟩ := Prod.mk.inj (Except.ok.inj h); first | (simp; done) | simp_all)
    | (simp_all; done)

theorem ownBulkDefine_keeps (total count : Nat) (cs : List ComponentFields) (s : State) {u : State} {form : Form}
    (h : ownBulkDefine total count cs s = .ok (u, form)) :
    u.pending = s.pending ∧ u.transit = s.transit ∧ u.powered = s.powered ∧ u.stations = s.stations ∧
    u.packs = s.packs ∧ u.invoices = s.invoices ∧ u.actions = s.actions ∧ u.stencils = s.stencils ∧
    u.store = s.store ∧ u.clock = s.clock ∧ u.link = s.link ∧ u.settings = s.settings := by
  simp only [ownBulkDefine, bind, Except.bind, okWith, pure, Except.pure] at h
  (repeat' split at h) <;> first
    | contradiction
    | (simp at h; done)
    | (obtain ⟨rfl, -⟩ := Prod.mk.inj (Except.ok.inj h); first | (simp; done) | simp_all)
    | (simp_all; done)

theorem ownBulkStart_keeps (run : Nat) (s : State) {u : State} {form : Form}
    (h : ownBulkStart run s = .ok (u, form)) :
    u.pending = s.pending ∧ u.transit = s.transit ∧ u.powered = s.powered ∧ u.stations = s.stations ∧
    u.packs = s.packs ∧ u.invoices = s.invoices ∧ u.actions = s.actions ∧ u.stencils = s.stencils ∧
    u.store = s.store ∧ u.clock = s.clock ∧ u.link = s.link ∧ u.settings = s.settings := by
  simp only [ownBulkStart, bind, Except.bind, okWith, pure, Except.pure] at h
  (repeat' split at h) <;> first
    | contradiction
    | (simp at h; done)
    | (obtain ⟨rfl, -⟩ := Prod.mk.inj (Except.ok.inj h); first | (simp; done) | simp_all)
    | (simp_all; done)

theorem ownBulkNext_keeps (run : Nat) (s : State) {u : State} {form : Form}
    (h : ownBulkNext run s = .ok (u, form)) :
    u.pending = s.pending ∧ u.powered = s.powered ∧ u.stations = s.stations ∧ u.packs = s.packs ∧
    u.invoices = s.invoices ∧ u.actions = s.actions ∧ u.stencils = s.stencils ∧ u.store = s.store ∧
    u.clock = s.clock ∧ u.link = s.link ∧ u.settings = s.settings := by
  simp only [ownBulkNext, bind, Except.bind, okWith, pure, Except.pure] at h
  (repeat' split at h) <;> first
    | contradiction
    | (simp at h; done)
    | (obtain ⟨rfl, -⟩ := Prod.mk.inj (Except.ok.inj h); first | (simp; done) | simp_all)
    | (simp_all; done)

theorem ownBulkHold_keeps (run : Nat) (s : State) {u : State} {form : Form}
    (h : ownBulkHold run s = .ok (u, form)) :
    u.pending = s.pending ∧ u.transit = s.transit ∧ u.powered = s.powered ∧ u.stations = s.stations ∧
    u.packs = s.packs ∧ u.invoices = s.invoices ∧ u.actions = s.actions ∧ u.stencils = s.stencils ∧
    u.store = s.store ∧ u.clock = s.clock ∧ u.link = s.link ∧ u.settings = s.settings := by
  simp only [ownBulkHold, bind, Except.bind, okWith, pure, Except.pure] at h
  (repeat' split at h) <;> first
    | contradiction
    | (simp at h; done)
    | (obtain ⟨rfl, -⟩ := Prod.mk.inj (Except.ok.inj h); first | (simp; done) | simp_all)
    | (simp_all; done)

theorem ownBulkResume_keeps (run : Nat) (s : State) {u : State} {form : Form}
    (h : ownBulkResume run s = .ok (u, form)) :
    u.pending = s.pending ∧ u.transit = s.transit ∧ u.powered = s.powered ∧ u.stations = s.stations ∧
    u.packs = s.packs ∧ u.invoices = s.invoices ∧ u.actions = s.actions ∧ u.stencils = s.stencils ∧
    u.store = s.store ∧ u.clock = s.clock ∧ u.link = s.link ∧ u.settings = s.settings := by
  simp only [ownBulkResume, bind, Except.bind, okWith, pure, Except.pure] at h
  (repeat' split at h) <;> first
    | contradiction
    | (simp at h; done)
    | (obtain ⟨rfl, -⟩ := Prod.mk.inj (Except.ok.inj h); first | (simp; done) | simp_all)
    | (simp_all; done)

theorem ownBulkAbort_keeps (run : Nat) (s : State) {u : State} {form : Form}
    (h : ownBulkAbort run s = .ok (u, form)) :
    u.pending = s.pending ∧ u.transit = s.transit ∧ u.powered = s.powered ∧ u.stations = s.stations ∧
    u.packs = s.packs ∧ u.invoices = s.invoices ∧ u.actions = s.actions ∧ u.stencils = s.stencils ∧
    u.store = s.store ∧ u.clock = s.clock ∧ u.link = s.link ∧ u.settings = s.settings := by
  simp only [ownBulkAbort, bind, Except.bind, okWith, pure, Except.pure] at h
  (repeat' split at h) <;> first
    | contradiction
    | (simp at h; done)
    | (obtain ⟨rfl, -⟩ := Prod.mk.inj (Except.ok.inj h); first | (simp; done) | simp_all)
    | (simp_all; done)

theorem ownBulkShort_keeps (run : Nat) (s : State) {u : State} {form : Form}
    (h : ownBulkShort run s = .ok (u, form)) :
    u.pending = s.pending ∧ u.powered = s.powered ∧ u.stations = s.stations ∧ u.packs = s.packs ∧
    u.invoices = s.invoices ∧ u.actions = s.actions ∧ u.stencils = s.stencils ∧ u.store = s.store ∧
    u.clock = s.clock ∧ u.link = s.link ∧ u.settings = s.settings := by
  simp only [ownBulkShort, bind, Except.bind, okWith, pure, Except.pure] at h
  (repeat' split at h) <;> first
    | contradiction
    | (simp at h; done)
    | (obtain ⟨rfl, -⟩ := Prod.mk.inj (Except.ok.inj h); first | (simp; done) | simp_all)
    | (simp_all; done)

theorem ownBulkRetire_keeps (run : Nat) (s : State) {u : State} {form : Form}
    (h : ownBulkRetire run s = .ok (u, form)) :
    u.pending = s.pending ∧ u.transit = s.transit ∧ u.powered = s.powered ∧ u.stations = s.stations ∧
    u.packs = s.packs ∧ u.invoices = s.invoices ∧ u.actions = s.actions ∧ u.stencils = s.stencils ∧
    u.store = s.store ∧ u.clock = s.clock ∧ u.link = s.link ∧ u.settings = s.settings := by
  simp only [ownBulkRetire, bind, Except.bind, okWith, pure, Except.pure] at h
  (repeat' split at h) <;> first
    | contradiction
    | (simp at h; done)
    | (obtain ⟨rfl, -⟩ := Prod.mk.inj (Except.ok.inj h); first | (simp; done) | simp_all)
    | (simp_all; done)

theorem ownBulkRead_keeps (run : Nat) (s : State) {u : State} {form : Form}
    (h : ownBulkRead run s = .ok (u, form)) :
    u.pending = s.pending ∧ u.transit = s.transit ∧ u.powered = s.powered ∧ u.stations = s.stations ∧
    u.packs = s.packs ∧ u.bulking = s.bulking ∧ u.invoices = s.invoices ∧ u.actions = s.actions ∧
    u.stencils = s.stencils ∧ u.store = s.store ∧ u.clock = s.clock ∧ u.link = s.link ∧ u.settings = s.settings := by
  simp only [ownBulkRead, bind, Except.bind, okWith, pure, Except.pure] at h
  (repeat' split at h) <;> first
    | contradiction
    | (simp at h; done)
    | (obtain ⟨rfl, -⟩ := Prod.mk.inj (Except.ok.inj h); first | (simp; done) | simp_all)
    | (simp_all; done)

theorem ownBulkConfig_keeps (preactStart : Int) (tolerance : Nat) (preact : KeepField Int) (s : State) {u : State} {form : Form}
    (h : ownBulkConfig preactStart tolerance preact s = .ok (u, form)) :
    u.pending = s.pending ∧ u.transit = s.transit ∧ u.powered = s.powered ∧ u.stations = s.stations ∧
    u.packs = s.packs ∧ u.invoices = s.invoices ∧ u.actions = s.actions ∧ u.stencils = s.stencils ∧
    u.store = s.store ∧ u.clock = s.clock ∧ u.link = s.link ∧ u.settings = s.settings := by
  simp only [ownBulkConfig, bind, Except.bind, okWith, pure, Except.pure] at h
  (repeat' split at h) <;> first
    | contradiction
    | (simp at h; done)
    | (obtain ⟨rfl, -⟩ := Prod.mk.inj (Except.ok.inj h); first | (simp; done) | simp_all)
    | (simp_all; done)

theorem ownPacktypeSet_keeps (type : Nat) (description : Text) (nominal band : Int) (s : State) {u : State} {form : Form}
    (h : ownPacktypeSet type description nominal band s = .ok (u, form)) :
    u.pending = s.pending ∧ u.transit = s.transit ∧ u.powered = s.powered ∧ u.stations = s.stations ∧
    u.bulking = s.bulking ∧ u.invoices = s.invoices ∧ u.actions = s.actions ∧ u.stencils = s.stencils ∧
    u.store = s.store ∧ u.clock = s.clock ∧ u.link = s.link ∧ u.settings = s.settings := by
  simp only [ownPacktypeSet, bind, Except.bind, okWith, pure, Except.pure] at h
  (repeat' split at h) <;> first
    | contradiction
    | (simp at h; done)
    | (obtain ⟨rfl, -⟩ := Prod.mk.inj (Except.ok.inj h); first | (simp; done) | simp_all)
    | (simp_all; done)

theorem ownTareListClear_keeps (type : Nat) (s : State) {u : State} {form : Form}
    (h : ownTareListClear type s = .ok (u, form)) :
    u.pending = s.pending ∧ u.transit = s.transit ∧ u.powered = s.powered ∧ u.stations = s.stations ∧
    u.bulking = s.bulking ∧ u.invoices = s.invoices ∧ u.actions = s.actions ∧ u.stencils = s.stencils ∧
    u.store = s.store ∧ u.clock = s.clock ∧ u.link = s.link ∧ u.settings = s.settings := by
  simp only [ownTareListClear, bind, Except.bind, okWith, pure, Except.pure] at h
  (repeat' split at h) <;> first
    | contradiction
    | (simp at h; done)
    | (obtain ⟨rfl, -⟩ := Prod.mk.inj (Except.ok.inj h); first | (simp; done) | simp_all)
    | (simp_all; done)

theorem ownTareListRead_keeps (type : Nat) (s : State) {u : State} {form : Form}
    (h : ownTareListRead type s = .ok (u, form)) :
    u.pending = s.pending ∧ u.transit = s.transit ∧ u.powered = s.powered ∧ u.stations = s.stations ∧
    u.packs = s.packs ∧ u.bulking = s.bulking ∧ u.invoices = s.invoices ∧ u.actions = s.actions ∧
    u.stencils = s.stencils ∧ u.store = s.store ∧ u.clock = s.clock ∧ u.link = s.link ∧ u.settings = s.settings := by
  simp only [ownTareListRead, bind, Except.bind, okWith, pure, Except.pure] at h
  (repeat' split at h) <;> first
    | contradiction
    | (simp at h; done)
    | (obtain ⟨rfl, -⟩ := Prod.mk.inj (Except.ok.inj h); first | (simp; done) | simp_all)
    | (simp_all; done)

theorem ownClassSet_keeps (pairs : Vector (Nat × Nat) 4) (s : State) {u : State} {form : Form}
    (h : ownClassSet pairs s = .ok (u, form)) :
    u.pending = s.pending ∧ u.transit = s.transit ∧ u.powered = s.powered ∧ u.stations = s.stations ∧
    u.bulking = s.bulking ∧ u.invoices = s.invoices ∧ u.actions = s.actions ∧ u.stencils = s.stencils ∧
    u.store = s.store ∧ u.clock = s.clock ∧ u.link = s.link ∧ u.settings = s.settings := by
  simp only [ownClassSet, bind, Except.bind, okWith, pure, Except.pure] at h
  (repeat' split at h) <;> first
    | contradiction
    | (simp at h; done)
    | (obtain ⟨rfl, -⟩ := Prod.mk.inj (Except.ok.inj h); first | (simp; done) | simp_all)
    | (simp_all; done)

theorem ownClockSet_keeps (r : ClockReading) (s : State) {u : State} {form : Form}
    (h : ownClockSet r s = .ok (u, form)) :
    u.pending = s.pending ∧ u.transit = s.transit ∧ u.powered = s.powered ∧ u.stations = s.stations ∧
    u.packs = s.packs ∧ u.bulking = s.bulking ∧ u.invoices = s.invoices ∧ u.actions = s.actions ∧
    u.stencils = s.stencils ∧ u.store = s.store ∧ u.link = s.link ∧ u.settings = s.settings := by
  simp only [ownClockSet, bind, Except.bind, okWith, pure, Except.pure] at h
  (repeat' split at h) <;> first
    | contradiction
    | (simp at h; done)
    | (obtain ⟨rfl, -⟩ := Prod.mk.inj (Except.ok.inj h); first | (simp; done) | simp_all)
    | (simp_all; done)

theorem ownClockRound_keeps (s : State) {u : State} {form : Form}
    (h : ownClockRound s = .ok (u, form)) :
    u.pending = s.pending ∧ u.powered = s.powered ∧ u.stations = s.stations ∧ u.packs = s.packs ∧
    u.bulking = s.bulking ∧ u.invoices = s.invoices ∧ u.actions = s.actions ∧ u.stencils = s.stencils ∧
    u.store = s.store ∧ u.link = s.link ∧ u.settings = s.settings := by
  simp only [ownClockRound, bind, Except.bind, okWith, pure, Except.pure] at h
  (repeat' split at h) <;> first
    | contradiction
    | (simp at h; done)
    | (obtain ⟨rfl, -⟩ := Prod.mk.inj (Except.ok.inj h); first | (simp; done) | simp_all)
    | (simp_all; done)

theorem ownVectorSet_keeps (source : Nat) (set : Option Nat) (s : State) {u : State} {form : Form}
    (h : ownVectorSet source set s = .ok (u, form)) :
    u.pending = s.pending ∧ u.transit = s.transit ∧ u.powered = s.powered ∧ u.stations = s.stations ∧
    u.packs = s.packs ∧ u.bulking = s.bulking ∧ u.invoices = s.invoices ∧ u.stencils = s.stencils ∧
    u.store = s.store ∧ u.clock = s.clock ∧ u.link = s.link ∧ u.settings = s.settings := by
  simp only [ownVectorSet, bind, Except.bind, okWith, pure, Except.pure] at h
  (repeat' split at h) <;> first
    | contradiction
    | (simp at h; done)
    | (obtain ⟨rfl, -⟩ := Prod.mk.inj (Except.ok.inj h); first | (simp; done) | simp_all)
    | (simp_all; done)

theorem ownActionSetWrite_keeps (set : Nat) (r : ActionSetFields) (s : State) {u : State} {form : Form}
    (h : ownActionSetWrite set r s = .ok (u, form)) :
    u.pending = s.pending ∧ u.transit = s.transit ∧ u.powered = s.powered ∧ u.stations = s.stations ∧
    u.packs = s.packs ∧ u.bulking = s.bulking ∧ u.invoices = s.invoices ∧ u.stencils = s.stencils ∧
    u.store = s.store ∧ u.clock = s.clock ∧ u.link = s.link ∧ u.settings = s.settings := by
  simp only [ownActionSetWrite, bind, Except.bind, okWith, pure, Except.pure] at h
  (repeat' split at h) <;> first
    | contradiction
    | (simp at h; done)
    | (obtain ⟨rfl, -⟩ := Prod.mk.inj (Except.ok.inj h); first | (simp; done) | simp_all)
    | (simp_all; done)

theorem ownActionSetRead_keeps (set : Nat) (s : State) {u : State} {form : Form}
    (h : ownActionSetRead set s = .ok (u, form)) :
    u.pending = s.pending ∧ u.transit = s.transit ∧ u.powered = s.powered ∧ u.stations = s.stations ∧
    u.packs = s.packs ∧ u.bulking = s.bulking ∧ u.invoices = s.invoices ∧ u.actions = s.actions ∧
    u.stencils = s.stencils ∧ u.store = s.store ∧ u.clock = s.clock ∧ u.link = s.link ∧ u.settings = s.settings := by
  simp only [ownActionSetRead, bind, Except.bind, okWith, pure, Except.pure] at h
  (repeat' split at h) <;> first
    | contradiction
    | (simp at h; done)
    | (obtain ⟨rfl, -⟩ := Prod.mk.inj (Except.ok.inj h); first | (simp; done) | simp_all)
    | (simp_all; done)

theorem ownInvOpen_keeps (r : InvOpenFields) (s : State) {u : State} {form : Form}
    (h : ownInvOpen r s = .ok (u, form)) :
    u.pending = s.pending ∧ u.transit = s.transit ∧ u.powered = s.powered ∧ u.stations = s.stations ∧
    u.packs = s.packs ∧ u.actions = s.actions ∧ u.stencils = s.stencils ∧ u.store = s.store ∧ u.clock = s.clock ∧
    u.link = s.link ∧ u.settings = s.settings := by
  simp only [ownInvOpen, bind, Except.bind, okWith] at h
  (repeat' split at h) <;> first
    | contradiction
    | (rename_i e _ _ _
       have e := openCommitment_keeps _ _ e
       obtain ⟨rfl, -⟩ := Prod.mk.inj (Except.ok.inj h)
       rw [e]; simp)
    | (simp_all; done)

theorem ownStationQueueAdd_keeps (station number : Nat) (s : State) {u : State} {form : Form}
    (h : ownStationQueueAdd station number s = .ok (u, form)) :
    u.pending = s.pending ∧ u.transit = s.transit ∧ u.powered = s.powered ∧ u.stations = s.stations ∧
    u.packs = s.packs ∧ u.bulking = s.bulking ∧ u.actions = s.actions ∧ u.stencils = s.stencils ∧ u.store = s.store ∧
    u.clock = s.clock ∧ u.link = s.link ∧ u.settings = s.settings := by
  simp only [ownStationQueueAdd, bind, Except.bind, okWith, pure, Except.pure] at h
  (repeat' split at h) <;> first
    | contradiction
    | (simp at h; done)
    | (obtain ⟨rfl, -⟩ := Prod.mk.inj (Except.ok.inj h); first | (simp; done) | simp_all)
    | (simp_all; done)

theorem ownStationQueueRemove_keeps (station number : Nat) (s : State) {u : State} {form : Form}
    (h : ownStationQueueRemove station number s = .ok (u, form)) :
    u.pending = s.pending ∧ u.transit = s.transit ∧ u.powered = s.powered ∧ u.stations = s.stations ∧
    u.packs = s.packs ∧ u.bulking = s.bulking ∧ u.actions = s.actions ∧ u.stencils = s.stencils ∧ u.store = s.store ∧
    u.clock = s.clock ∧ u.link = s.link ∧ u.settings = s.settings := by
  simp only [ownStationQueueRemove, bind, Except.bind, okWith, pure, Except.pure] at h
  (repeat' split at h) <;> first
    | contradiction
    | (simp at h; done)
    | (obtain ⟨rfl, -⟩ := Prod.mk.inj (Except.ok.inj h); first | (simp; done) | simp_all)
    | (simp_all; done)

theorem ownInvVoidLast_keeps (number expected : Nat) (s : State) {u : State} {form : Form}
    (h : ownInvVoidLast number expected s = .ok (u, form)) :
    u.pending = s.pending ∧ u.powered = s.powered ∧ u.stations = s.stations ∧ u.packs = s.packs ∧
    u.bulking = s.bulking ∧ u.actions = s.actions ∧ u.stencils = s.stencils ∧ u.store = s.store ∧ u.clock = s.clock ∧
    u.link = s.link ∧ u.settings = s.settings := by
  simp only [ownInvVoidLast, bind, Except.bind, okWith, pure, Except.pure] at h
  (repeat' split at h) <;> first
    | contradiction
    | (simp at h; done)
    | (obtain ⟨rfl, -⟩ := Prod.mk.inj (Except.ok.inj h); first | (simp; done) | simp_all)
    | (simp_all; done)

theorem ownInvClose_keeps (number short : Nat) (s : State) {u : State} {form : Form}
    (h : ownInvClose number short s = .ok (u, form)) :
    u.pending = s.pending ∧ u.powered = s.powered ∧ u.stations = s.stations ∧ u.packs = s.packs ∧
    u.actions = s.actions ∧ u.stencils = s.stencils ∧ u.store = s.store ∧ u.clock = s.clock ∧ u.link = s.link ∧
    u.settings = s.settings := by
  simp only [ownInvClose, bind, Except.bind, okWith, pure, Except.pure] at h
  (repeat' split at h) <;> first
    | contradiction
    | (simp at h; done)
    | (obtain ⟨rfl, -⟩ := Prod.mk.inj (Except.ok.inj h); first | (simp; done) | simp_all)
    | (simp_all; done)

theorem ownInvCancel_keeps (number : Nat) (s : State) {u : State} {form : Form}
    (h : ownInvCancel number s = .ok (u, form)) :
    u.pending = s.pending ∧ u.transit = s.transit ∧ u.powered = s.powered ∧ u.stations = s.stations ∧
    u.packs = s.packs ∧ u.actions = s.actions ∧ u.stencils = s.stencils ∧ u.store = s.store ∧ u.clock = s.clock ∧
    u.link = s.link ∧ u.settings = s.settings := by
  simp only [ownInvCancel, bind, Except.bind, okWith, pure, Except.pure] at h
  (repeat' split at h) <;> first
    | contradiction
    | (simp at h; done)
    | (obtain ⟨rfl, -⟩ := Prod.mk.inj (Except.ok.inj h); first | (simp; done) | simp_all)
    | (simp_all; done)

theorem ownInvAmend_keeps (number : Nat) (f : InvAmendFields) (s : State) {u : State} {form : Form}
    (h : ownInvAmend number f s = .ok (u, form)) :
    u.pending = s.pending ∧ u.powered = s.powered ∧ u.stations = s.stations ∧ u.packs = s.packs ∧
    u.bulking = s.bulking ∧ u.actions = s.actions ∧ u.stencils = s.stencils ∧ u.store = s.store ∧ u.clock = s.clock ∧
    u.link = s.link ∧ u.settings = s.settings := by
  simp only [ownInvAmend, bind, Except.bind, okWith, pure, Except.pure] at h
  (repeat' split at h) <;> first
    | contradiction
    | (simp at h; done)
    | (obtain ⟨rfl, -⟩ := Prod.mk.inj (Except.ok.inj h); first | (simp; done) | simp_all)
    | (simp_all; done)

theorem ownInvRead_keeps (number part : Nat) (s : State) {u : State} {form : Form}
    (h : ownInvRead number part s = .ok (u, form)) :
    u.pending = s.pending ∧ u.transit = s.transit ∧ u.powered = s.powered ∧ u.stations = s.stations ∧
    u.packs = s.packs ∧ u.bulking = s.bulking ∧ u.invoices = s.invoices ∧ u.actions = s.actions ∧
    u.stencils = s.stencils ∧ u.store = s.store ∧ u.clock = s.clock ∧ u.link = s.link ∧ u.settings = s.settings := by
  simp only [ownInvRead, bind, Except.bind, okWith, pure, Except.pure] at h
  (repeat' split at h) <;> first
    | contradiction
    | (simp at h; done)
    | (obtain ⟨rfl, -⟩ := Prod.mk.inj (Except.ok.inj h); first | (simp; done) | simp_all)
    | (simp_all; done)

theorem ownStencilRequest_keeps (head template number chest : Nat) (s : State) {u : State} {form : Form}
    (h : ownStencilRequest head template number chest s = .ok (u, form)) :
    u.pending = s.pending ∧ u.powered = s.powered ∧ u.stations = s.stations ∧ u.packs = s.packs ∧
    u.bulking = s.bulking ∧ u.actions = s.actions ∧ u.store = s.store ∧ u.clock = s.clock ∧ u.link = s.link ∧
    u.settings = s.settings := by
  simp only [ownStencilRequest, bind, Except.bind, okWith, pure, Except.pure] at h
  (repeat' split at h) <;> first
    | contradiction
    | (simp at h; done)
    | (obtain ⟨rfl, -⟩ := Prod.mk.inj (Except.ok.inj h); first | (simp; done) | simp_all)
    | (simp_all; done)

theorem ownHeadResume_keeps (head : Nat) (s : State) {u : State} {form : Form}
    (h : ownHeadResume head s = .ok (u, form)) :
    u.pending = s.pending ∧ u.powered = s.powered ∧ u.stations = s.stations ∧ u.packs = s.packs ∧
    u.bulking = s.bulking ∧ u.actions = s.actions ∧ u.store = s.store ∧ u.clock = s.clock ∧ u.link = s.link ∧
    u.settings = s.settings := by
  simp only [ownHeadResume, bind, Except.bind, okWith, pure, Except.pure] at h
  (repeat' split at h) <;> first
    | contradiction
    | (simp at h; done)
    | (obtain ⟨rfl, -⟩ := Prod.mk.inj (Except.ok.inj h); first | (simp; done) | simp_all)
    | (simp_all; done)

theorem ownHeadReline_keeps (head : Nat) (s : State) {u : State} {form : Form}
    (h : ownHeadReline head s = .ok (u, form)) :
    u.pending = s.pending ∧ u.transit = s.transit ∧ u.powered = s.powered ∧ u.stations = s.stations ∧
    u.packs = s.packs ∧ u.bulking = s.bulking ∧ u.invoices = s.invoices ∧ u.actions = s.actions ∧ u.store = s.store ∧
    u.clock = s.clock ∧ u.link = s.link ∧ u.settings = s.settings := by
  simp only [ownHeadReline, bind, Except.bind, okWith, pure, Except.pure] at h
  (repeat' split at h) <;> first
    | contradiction
    | (simp at h; done)
    | (obtain ⟨rfl, -⟩ := Prod.mk.inj (Except.ok.inj h); first | (simp; done) | simp_all)
    | (simp_all; done)

theorem ownHeadSkip_keeps (head : Nat) (s : State) {u : State} {form : Form}
    (h : ownHeadSkip head s = .ok (u, form)) :
    u.pending = s.pending ∧ u.powered = s.powered ∧ u.stations = s.stations ∧ u.packs = s.packs ∧
    u.bulking = s.bulking ∧ u.actions = s.actions ∧ u.store = s.store ∧ u.clock = s.clock ∧ u.link = s.link ∧
    u.settings = s.settings := by
  simp only [ownHeadSkip, bind, Except.bind, okWith, pure, Except.pure] at h
  (repeat' split at h) <;> first
    | contradiction
    | (simp at h; done)
    | (obtain ⟨rfl, -⟩ := Prod.mk.inj (Except.ok.inj h); first | (simp; done) | simp_all)
    | (simp_all; done)

theorem ownHeadReset_keeps (head : Nat) (s : State) {u : State} {form : Form}
    (h : ownHeadReset head s = .ok (u, form)) :
    u.pending = s.pending ∧ u.powered = s.powered ∧ u.stations = s.stations ∧ u.packs = s.packs ∧
    u.bulking = s.bulking ∧ u.invoices = s.invoices ∧ u.actions = s.actions ∧ u.store = s.store ∧ u.clock = s.clock ∧
    u.link = s.link ∧ u.settings = s.settings := by
  simp only [ownHeadReset, bind, Except.bind, okWith, pure, Except.pure] at h
  (repeat' split at h) <;> first
    | contradiction
    | (simp at h; done)
    | (obtain ⟨rfl, -⟩ := Prod.mk.inj (Except.ok.inj h); first | (simp; done) | simp_all)
    | (simp_all; done)

theorem ownHeadSet_keeps (head setting : Nat) (s : State) {u : State} {form : Form}
    (h : ownHeadSet head setting s = .ok (u, form)) :
    u.pending = s.pending ∧ u.powered = s.powered ∧ u.stations = s.stations ∧ u.packs = s.packs ∧
    u.bulking = s.bulking ∧ u.actions = s.actions ∧ u.store = s.store ∧ u.clock = s.clock ∧ u.link = s.link ∧
    u.settings = s.settings := by
  simp only [ownHeadSet, bind, Except.bind, okWith, pure, Except.pure] at h
  (repeat' split at h) <;> first
    | contradiction
    | (simp at h; done)
    | (obtain ⟨rfl, -⟩ := Prod.mk.inj (Except.ok.inj h); first | (simp; done) | simp_all)
    | (simp_all; done)

theorem ownHeadRead_keeps (head : Nat) (s : State) {u : State} {form : Form}
    (h : ownHeadRead head s = .ok (u, form)) :
    u.pending = s.pending ∧ u.transit = s.transit ∧ u.powered = s.powered ∧ u.stations = s.stations ∧
    u.packs = s.packs ∧ u.bulking = s.bulking ∧ u.invoices = s.invoices ∧ u.actions = s.actions ∧
    u.stencils = s.stencils ∧ u.store = s.store ∧ u.clock = s.clock ∧ u.link = s.link ∧ u.settings = s.settings := by
  simp only [ownHeadRead, bind, Except.bind, okWith, pure, Except.pure] at h
  (repeat' split at h) <;> first
    | contradiction
    | (simp at h; done)
    | (obtain ⟨rfl, -⟩ := Prod.mk.inj (Except.ok.inj h); first | (simp; done) | simp_all)
    | (simp_all; done)

theorem ownTemplateLoad_keeps (template : Nat) (lines : List Byte) (s : State) {u : State} {form : Form}
    (h : ownTemplateLoad template lines s = .ok (u, form)) :
    u.pending = s.pending ∧ u.transit = s.transit ∧ u.powered = s.powered ∧ u.stations = s.stations ∧
    u.packs = s.packs ∧ u.bulking = s.bulking ∧ u.invoices = s.invoices ∧ u.actions = s.actions ∧ u.store = s.store ∧
    u.clock = s.clock ∧ u.link = s.link ∧ u.settings = s.settings := by
  simp only [ownTemplateLoad, bind, Except.bind, okWith, pure, Except.pure] at h
  (repeat' split at h) <;> first
    | contradiction
    | (simp at h; done)
    | (obtain ⟨rfl, -⟩ := Prod.mk.inj (Except.ok.inj h); first | (simp; done) | simp_all)
    | (simp_all; done)

theorem ownTemplateRead_keeps (template : Nat) (s : State) {u : State} {form : Form}
    (h : ownTemplateRead template s = .ok (u, form)) :
    u.pending = s.pending ∧ u.transit = s.transit ∧ u.powered = s.powered ∧ u.stations = s.stations ∧
    u.packs = s.packs ∧ u.bulking = s.bulking ∧ u.invoices = s.invoices ∧ u.actions = s.actions ∧
    u.stencils = s.stencils ∧ u.store = s.store ∧ u.clock = s.clock ∧ u.link = s.link ∧ u.settings = s.settings := by
  simp only [ownTemplateRead, bind, Except.bind, okWith, pure, Except.pure] at h
  (repeat' split at h) <;> first
    | contradiction
    | (simp at h; done)
    | (obtain ⟨rfl, -⟩ := Prod.mk.inj (Except.ok.inj h); first | (simp; done) | simp_all)
    | (simp_all; done)

theorem ownWindowSet_keeps (window : Nat) (r : WindowFields) (s : State) {u : State} {form : Form}
    (h : ownWindowSet window r s = .ok (u, form)) :
    u.pending = s.pending ∧ u.transit = s.transit ∧ u.powered = s.powered ∧ u.stations = s.stations ∧
    u.packs = s.packs ∧ u.bulking = s.bulking ∧ u.invoices = s.invoices ∧ u.actions = s.actions ∧
    u.stencils = s.stencils ∧ u.clock = s.clock ∧ u.link = s.link ∧ u.settings = s.settings := by
  simp only [ownWindowSet, bind, Except.bind, okWith, pure, Except.pure] at h
  (repeat' split at h) <;> first
    | contradiction
    | (simp at h; done)
    | (obtain ⟨rfl, -⟩ := Prod.mk.inj (Except.ok.inj h); first | (simp; done) | simp_all)
    | (simp_all; done)

theorem ownWindowRead_keeps (number : Option Nat) (s : State) {u : State} {form : Form}
    (h : ownWindowRead number s = .ok (u, form)) :
    u.pending = s.pending ∧ u.transit = s.transit ∧ u.powered = s.powered ∧ u.stations = s.stations ∧
    u.packs = s.packs ∧ u.bulking = s.bulking ∧ u.invoices = s.invoices ∧ u.actions = s.actions ∧
    u.stencils = s.stencils ∧ u.store = s.store ∧ u.clock = s.clock ∧ u.link = s.link ∧ u.settings = s.settings := by
  simp only [ownWindowRead, bind, Except.bind, okWith, pure, Except.pure] at h
  (repeat' split at h) <;> first
    | contradiction
    | (simp at h; done)
    | (obtain ⟨rfl, -⟩ := Prod.mk.inj (Except.ok.inj h); first | (simp; done) | simp_all)
    | (simp_all; done)

theorem ownFetch_keeps (n part : Nat) (s : State) {u : State} {form : Form}
    (h : ownFetch n part s = .ok (u, form)) :
    u.pending = s.pending ∧ u.transit = s.transit ∧ u.powered = s.powered ∧ u.stations = s.stations ∧
    u.packs = s.packs ∧ u.bulking = s.bulking ∧ u.invoices = s.invoices ∧ u.actions = s.actions ∧
    u.stencils = s.stencils ∧ u.store = s.store ∧ u.clock = s.clock ∧ u.settings = s.settings := by
  simp only [ownFetch, bind, Except.bind, okWith] at h
  (repeat' split at h) <;> first
    | contradiction
    | (exact askSlot_keeps (h := h) ..)
    | (exact answerFromSlot_keeps (h := h) ..)
    | (obtain ⟨rfl, -⟩ := Prod.mk.inj (Except.ok.inj h); simp)
    | (simp_all; done)

theorem ownSheetFetch_keeps (n part : Nat) (s : State) {u : State} {form : Form}
    (h : ownSheetFetch n part s = .ok (u, form)) :
    u.pending = s.pending ∧ u.transit = s.transit ∧ u.powered = s.powered ∧ u.stations = s.stations ∧
    u.packs = s.packs ∧ u.bulking = s.bulking ∧ u.invoices = s.invoices ∧ u.actions = s.actions ∧
    u.stencils = s.stencils ∧ u.store = s.store ∧ u.clock = s.clock ∧ u.settings = s.settings := by
  simp only [ownSheetFetch, bind, Except.bind, okWith] at h
  (repeat' split at h) <;> first
    | contradiction
    | (exact ownFetch_keeps (h := h) ..)
    | (exact answerFromSlot_keeps (h := h) ..)
    | (obtain ⟨rfl, -⟩ := Prod.mk.inj (Except.ok.inj h); simp)
    | (simp_all; done)

theorem ownSheetRelease_keeps (n : Nat) (s : State) {u : State} {form : Form}
    (h : ownSheetRelease n s = .ok (u, form)) :
    u.pending = s.pending ∧ u.transit = s.transit ∧ u.powered = s.powered ∧ u.stations = s.stations ∧
    u.packs = s.packs ∧ u.actions = s.actions ∧ u.stencils = s.stencils ∧ u.clock = s.clock ∧ u.link = s.link ∧
    u.settings = s.settings := by
  simp only [ownSheetRelease, bind, Except.bind, okWith, pure, Except.pure] at h
  (repeat' split at h) <;> first
    | contradiction
    | (simp at h; done)
    | (obtain ⟨rfl, -⟩ := Prod.mk.inj (Except.ok.inj h); first | (simp; done) | simp_all)
    | (simp_all; done)

theorem ownStoreRead_keeps (part : Nat) (s : State) {u : State} {form : Form}
    (h : ownStoreRead part s = .ok (u, form)) :
    u.pending = s.pending ∧ u.transit = s.transit ∧ u.powered = s.powered ∧ u.stations = s.stations ∧
    u.packs = s.packs ∧ u.bulking = s.bulking ∧ u.invoices = s.invoices ∧ u.actions = s.actions ∧
    u.stencils = s.stencils ∧ u.store = s.store ∧ u.clock = s.clock ∧ u.link = s.link ∧ u.settings = s.settings := by
  simp only [ownStoreRead, bind, Except.bind, okWith, pure, Except.pure] at h
  (repeat' split at h) <;> first
    | contradiction
    | (simp at h; done)
    | (obtain ⟨rfl, -⟩ := Prod.mk.inj (Except.ok.inj h); first | (simp; done) | simp_all)
    | (simp_all; done)

theorem ownStationConfig_keeps (r : StationConfigFields) (s : State) {u : State} {form : Form}
    (h : ownStationConfig r s = .ok (u, form)) :
    u.pending = s.pending ∧ u.powered = s.powered ∧ u.packs = s.packs ∧ u.bulking = s.bulking ∧
    u.invoices = s.invoices ∧ u.actions = s.actions ∧ u.stencils = s.stencils ∧ u.store = s.store ∧
    u.clock = s.clock ∧ u.settings = s.settings := by
  simp only [ownStationConfig, bind, Except.bind, okWith, pure, Except.pure] at h
  (repeat' split at h) <;> first
    | contradiction
    | (simp at h; done)
    | (obtain ⟨rfl, -⟩ := Prod.mk.inj (Except.ok.inj h); first | (simp; done) | simp_all)
    | (simp_all; done)

theorem ownStationCal_keeps (station : Nat) (zeroCount : Int) (span : Nat) (s : State) {u : State} {form : Form}
    (h : ownStationCal station zeroCount span s = .ok (u, form)) :
    u.pending = s.pending ∧ u.transit = s.transit ∧ u.powered = s.powered ∧ u.packs = s.packs ∧
    u.bulking = s.bulking ∧ u.invoices = s.invoices ∧ u.actions = s.actions ∧ u.stencils = s.stencils ∧
    u.store = s.store ∧ u.clock = s.clock ∧ u.link = s.link ∧ u.settings = s.settings := by
  simp only [ownStationCal, bind, Except.bind, okWith, pure, Except.pure] at h
  (repeat' split at h) <;> first
    | contradiction
    | (simp at h; done)
    | (obtain ⟨rfl, -⟩ := Prod.mk.inj (Except.ok.inj h); first | (simp; done) | simp_all)
    | (simp_all; done)

theorem ownStationRestart_keeps (station : Nat) (s : State) {u : State} {form : Form}
    (h : ownStationRestart station s = .ok (u, form)) :
    u.pending = s.pending ∧ u.powered = s.powered ∧ u.packs = s.packs ∧ u.bulking = s.bulking ∧
    u.invoices = s.invoices ∧ u.actions = s.actions ∧ u.stencils = s.stencils ∧ u.store = s.store ∧
    u.clock = s.clock ∧ u.link = s.link ∧ u.settings = s.settings := by
  simp only [ownStationRestart, bind, Except.bind, okWith, pure, Except.pure] at h
  (repeat' split at h) <;> first
    | contradiction
    | (simp at h; done)
    | (obtain ⟨rfl, -⟩ := Prod.mk.inj (Except.ok.inj h); first | (simp; done) | simp_all)
    | (simp_all; done)

theorem ownStationZero_keeps (station : Nat) (s : State) {u : State} {form : Form}
    (h : ownStationZero station s = .ok (u, form)) :
    u.pending = s.pending ∧ u.transit = s.transit ∧ u.powered = s.powered ∧ u.packs = s.packs ∧
    u.bulking = s.bulking ∧ u.invoices = s.invoices ∧ u.actions = s.actions ∧ u.stencils = s.stencils ∧
    u.store = s.store ∧ u.clock = s.clock ∧ u.link = s.link ∧ u.settings = s.settings := by
  simp only [ownStationZero, bind, Except.bind, okWith, pure, Except.pure] at h
  (repeat' split at h) <;> first
    | contradiction
    | (simp at h; done)
    | (obtain ⟨rfl, -⟩ := Prod.mk.inj (Except.ok.inj h); first | (simp; done) | simp_all)
    | (simp_all; done)

theorem ownCapture_keeps (i : Fin 4) (s : State) {u : State} {form : Form}
    (h : ownCapture i s = .ok (u, form)) :
    u.pending = s.pending ∧ u.transit = s.transit ∧ u.powered = s.powered ∧ u.stations = s.stations ∧
    u.packs = s.packs ∧ u.bulking = s.bulking ∧ u.invoices = s.invoices ∧ u.actions = s.actions ∧
    u.stencils = s.stencils ∧ u.store = s.store ∧ u.clock = s.clock ∧ u.settings = s.settings := by
  simp only [ownCapture, bind, Except.bind, okWith] at h
  (repeat' split at h) <;> first
    | contradiction
    | (exact askSlot_keeps (h := h) ..)
    | (exact answerFromSlot_keeps (h := h) ..)
    | (obtain ⟨rfl, -⟩ := Prod.mk.inj (Except.ok.inj h); simp)
    | (simp_all; done)

theorem ownWeighCapture_keeps (station : Nat) (s : State) {u : State} {form : Form}
    (h : ownWeighCapture station s = .ok (u, form)) :
    u.pending = s.pending ∧ u.transit = s.transit ∧ u.powered = s.powered ∧ u.stations = s.stations ∧
    u.packs = s.packs ∧ u.bulking = s.bulking ∧ u.invoices = s.invoices ∧ u.actions = s.actions ∧
    u.stencils = s.stencils ∧ u.store = s.store ∧ u.clock = s.clock ∧ u.settings = s.settings := by
  simp only [ownWeighCapture, bind, Except.bind, okWith] at h
  (repeat' split at h) <;> first
    | contradiction
    | (exact ownCapture_keeps (h := h) ..)
    | (exact answerFromSlot_keeps (h := h) ..)
    | (obtain ⟨rfl, -⟩ := Prod.mk.inj (Except.ok.inj h); simp)
    | (simp_all; done)

theorem ownStationRead_keeps (station : Nat) (s : State) {u : State} {form : Form}
    (h : ownStationRead station s = .ok (u, form)) :
    u.pending = s.pending ∧ u.transit = s.transit ∧ u.powered = s.powered ∧ u.stations = s.stations ∧
    u.packs = s.packs ∧ u.bulking = s.bulking ∧ u.invoices = s.invoices ∧ u.actions = s.actions ∧
    u.stencils = s.stencils ∧ u.store = s.store ∧ u.clock = s.clock ∧ u.link = s.link ∧ u.settings = s.settings := by
  simp only [ownStationRead, bind, Except.bind, okWith, pure, Except.pure] at h
  (repeat' split at h) <;> first
    | contradiction
    | (simp at h; done)
    | (obtain ⟨rfl, -⟩ := Prod.mk.inj (Except.ok.inj h); first | (simp; done) | simp_all)
    | (simp_all; done)

theorem ownStatus_keeps (s : State) {u : State} {form : Form}
    (h : ownStatus s = .ok (u, form)) :
    u.pending = s.pending ∧ u.transit = s.transit ∧ u.powered = s.powered ∧ u.stations = s.stations ∧
    u.packs = s.packs ∧ u.bulking = s.bulking ∧ u.invoices = s.invoices ∧ u.actions = s.actions ∧
    u.stencils = s.stencils ∧ u.store = s.store ∧ u.clock = s.clock ∧ u.settings = s.settings := by
  simp only [ownStatus, bind, Except.bind, okWith, pure, Except.pure] at h
  (repeat' split at h) <;> first
    | contradiction
    | (simp at h; done)
    | (obtain ⟨rfl, -⟩ := Prod.mk.inj (Except.ok.inj h); first | (simp; done) | simp_all)
    | (simp_all; done)

theorem ownNoticeMask_keeps (flags : Vector Nat 7) (s : State) {u : State} {form : Form}
    (h : ownNoticeMask flags s = .ok (u, form)) :
    u.pending = s.pending ∧ u.transit = s.transit ∧ u.powered = s.powered ∧ u.stations = s.stations ∧
    u.packs = s.packs ∧ u.bulking = s.bulking ∧ u.invoices = s.invoices ∧ u.actions = s.actions ∧
    u.stencils = s.stencils ∧ u.store = s.store ∧ u.clock = s.clock ∧ u.settings = s.settings := by
  simp only [ownNoticeMask, bind, Except.bind, okWith, pure, Except.pure] at h
  (repeat' split at h) <;> first
    | contradiction
    | (simp at h; done)
    | (obtain ⟨rfl, -⟩ := Prod.mk.inj (Except.ok.inj h); first | (simp; done) | simp_all)
    | (simp_all; done)

theorem ownLinkSpeed_keeps (speed : Nat) (s : State) {u : State} {form : Form}
    (h : ownLinkSpeed speed s = .ok (u, form)) :
    u.pending = s.pending ∧ u.transit = s.transit ∧ u.powered = s.powered ∧ u.stations = s.stations ∧
    u.packs = s.packs ∧ u.bulking = s.bulking ∧ u.invoices = s.invoices ∧ u.actions = s.actions ∧
    u.stencils = s.stencils ∧ u.store = s.store ∧ u.clock = s.clock ∧ u.settings = s.settings := by
  simp only [ownLinkSpeed, bind, Except.bind, okWith, pure, Except.pure] at h
  (repeat' split at h) <;> first
    | contradiction
    | (simp at h; done)
    | (obtain ⟨rfl, -⟩ := Prod.mk.inj (Except.ok.inj h); first | (simp; done) | simp_all)
    | (simp_all; done)

end Sys2Proof.Machine
end

