-- ==== Sys2Proof/Laws/Service.lean ====
section
/-! SUPPORT. How requests are served: what the taking of a request leaves of the link controller's lines, and how the serving
of the line goes on. -/

namespace Sys2Proof.Machine

/-! ### Characters on the line -/

/-- The data bits that carry a byte are read as that byte. -/
@[simp] theorem dataByte_dataBits (b : Byte) : dataByte (dataBits b) = b := by
  apply BitVec.eq_of_getLsbD_eq
  intro i hi
  simp only [dataByte, dataBits, BitVec.getLsbD_setWidth, BitVec.getLsbD_ofBoolListLE]
  simp [hi]

@[simp] theorem dataByte_ofFn (b : Byte) : dataByte (Vector.ofFn fun k : Fin 8 => b[k.val]) = b := dataByte_dataBits b

/-! ### What a request leaves of the link controller -/

/-- The lines of the link controller stand as they did: a request writes at most the speed setting, the mask, the slots and
the two flags there. -/
def LinesKept (s u : State) : Prop :=
  u.link = { s.link with
    speedSetting := u.link.speedSetting, mask := u.link.mask, slots := u.link.slots, linkError := u.link.linkError
    noticesLost := u.link.noticesLost }

theorem LinesKept.of_link {s u : State} (h : u.link = s.link) : LinesKept s u := by unfold LinesKept; rw [h]

theorem askSlot_lines {s u : State} {k : SlotKey} {part : Option Nat} {form : Form}
    (h : askSlot s k part = .ok (u, form)) : LinesKept s u := by
  unfold askSlot at h
  split at h
  · obtain ⟨rfl, -⟩ := Prod.mk.inj (Except.ok.inj h); rfl
  · contradiction

theorem answerFromSlot_lines {s u : State} {i : Fin 4} {form : Form} (h : answerFromSlot s i = .ok (u, form)) :
    LinesKept s u := by
  unfold answerFromSlot at h
  split at h <;> (obtain ⟨rfl, -⟩ := Prod.mk.inj (Except.ok.inj h); rfl)

theorem ownCapture_lines {i : Fin 4} {s u : State} {form : Form} (h : ownCapture i s = .ok (u, form)) :
    LinesKept s u := by
  simp only [ownCapture, bind, Except.bind, okWith] at h
  (repeat' split at h) <;> first
    | contradiction
    | exact askSlot_lines h
    | (obtain ⟨rfl, -⟩ := Prod.mk.inj (Except.ok.inj h); rfl)

theorem ownWeighCapture_lines {station : Nat} {s u : State} {form : Form}
    (h : ownWeighCapture station s = .ok (u, form)) : LinesKept s u := by
  simp only [ownWeighCapture, bind, Except.bind, okWith] at h
  (repeat' split at h) <;> first
    | contradiction
    | exact ownCapture_lines h
    | exact answerFromSlot_lines h

theorem ownFetch_lines {n part : Nat} {s u : State} {form : Form} (h : ownFetch n part s = .ok (u, form)) :
    LinesKept s u := by
  simp only [ownFetch, bind, Except.bind, okWith] at h
  (repeat' split at h) <;> first
    | contradiction
    | exact askSlot_lines h
    | (obtain ⟨rfl, -⟩ := Prod.mk.inj (Except.ok.inj h); rfl)

theorem ownSheetFetch_lines {n part : Nat} {s u : State} {form : Form} (h : ownSheetFetch n part s = .ok (u, form)) :
    LinesKept s u := by
  simp only [ownSheetFetch, bind, Except.bind, okWith] at h
  (repeat' split at h) <;> first
    | contradiction
    | exact ownFetch_lines h
    | exact answerFromSlot_lines h

theorem ownStationConfig_lines {r : StationConfigFields} {s u : State} {form : Form}
    (h : ownStationConfig r s = .ok (u, form)) : LinesKept s u := by
  simp only [ownStationConfig, bind, Except.bind, okWith] at h
  (repeat' split at h) <;> first
    | contradiction
    | (obtain ⟨rfl, -⟩ := Prod.mk.inj (Except.ok.inj h)
       unfold LinesKept
       apply Link.ext <;> simp)

theorem ownClassRead_lines {s u : State} {form : Form} (h : ownClassRead s = .ok (u, form)) : LinesKept s u := by
  obtain ⟨rfl, -⟩ := Prod.mk.inj (Except.ok.inj h); rfl

theorem ownVectorRead_lines {s u : State} {form : Form} (h : ownVectorRead s = .ok (u, form)) : LinesKept s u := by
  obtain ⟨rfl, -⟩ := Prod.mk.inj (Except.ok.inj h); rfl

theorem ownClockRead_lines {s u : State} {form : Form} (h : ownClockRead s = .ok (u, form)) : LinesKept s u := by
  obtain ⟨rfl, -⟩ := Prod.mk.inj (Except.ok.inj h); rfl

theorem ownStatus_lines {s u : State} {form : Form} (h : ownStatus s = .ok (u, form)) : LinesKept s u := by
  obtain ⟨rfl, -⟩ := Prod.mk.inj (Except.ok.inj h); rfl

theorem ownNoticeMask_lines {flags : Vector Nat 7} {s u : State} {form : Form}
    (h : ownNoticeMask flags s = .ok (u, form)) : LinesKept s u := by
  simp only [ownNoticeMask, bind, Except.bind, okWith] at h
  split at h
  · contradiction
  · obtain ⟨rfl, -⟩ := Prod.mk.inj (Except.ok.inj h); rfl

theorem ownLinkSpeed_lines {speed : Nat} {s u : State} {form : Form} (h : ownLinkSpeed speed s = .ok (u, form)) :
    LinesKept s u := by
  simp only [ownLinkSpeed, bind, Except.bind, okWith] at h
  split at h
  · contradiction
  · obtain ⟨rfl, -⟩ := Prod.mk.inj (Except.ok.inj h); rfl

/-- An owner's answer joins the reply line as the one reply of the request, behind the state its owner leaves. -/
theorem answerRequest_cases (tag kind : Byte) (s : State) (a : Answer)
    (h : ∀ u form, a = .ok (u, form) → LinesKept s u) :
    ∃ u form, answerRequest tag kind s a = u.joinReply ⟨tag, kind, form, false⟩ ∧ LinesKept s u := by
  cases a with
  | error r => exact ⟨s, .refused r, rfl, rfl⟩
  | ok p => exact ⟨p.1, p.2, rfl, h _ _ rfl⟩

/-- A request other than SAVE-SETTINGS and RESTART is answered as it is taken: one reply of its tag and kind joins the
reply line, and the other lines stand (R176, R178). -/
theorem takeRequest_cases (i : Instr) (k : Byte) (s : State) (h : i.requestKind = some k) (hs : k ≠ 0x36)
    (hr : k ≠ 0x37) :
    ∃ u form, takeRequest i s = u.joinReply ⟨i.requestTag, k, form, false⟩ ∧ LinesKept s u := by
  cases i <;> simp only [Instr.requestKind, Option.some.injEq, reduceCtorEq] at h <;> subst h <;>
    simp only [takeRequest, Instr.requestTag, ne_eq, not_true_eq_false] at hs hr ⊢
  · exact answerRequest_cases _ _ s _ (fun _ _ e => ownStationConfig_lines e)
  · exact answerRequest_cases _ _ s _ (fun _ _ e => .of_link (ownStationCal_keeps _ _ _ s e).2.2.2.2.2.2.2.2.2.2.1)
  · exact answerRequest_cases _ _ s _ (fun _ _ e => .of_link (ownStationRestart_keeps _ s e).2.2.2.2.2.2.2.2.2.1)
  · exact answerRequest_cases _ _ s _ (fun _ _ e => .of_link (ownStationZero_keeps _ s e).2.2.2.2.2.2.2.2.2.2.1)
  · exact answerRequest_cases _ _ s _ (fun _ _ e => ownWeighCapture_lines e)
  · exact answerRequest_cases _ _ s _ (fun _ _ e => .of_link (ownStationRead_keeps _ s e).2.2.2.2.2.2.2.2.2.2.2.1)
  · exact answerRequest_cases _ _ s _ (fun _ _ e => .of_link (ownPacktypeSet_keeps _ _ _ _ s e).2.2.2.2.2.2.2.2.2.2.1)
  · exact answerRequest_cases _ _ s _ (fun _ _ e => .of_link (ownTareListClear_keeps _ s e).2.2.2.2.2.2.2.2.2.2.1)
  · exact answerRequest_cases _ _ s _ (fun _ _ e => .of_link (ownTareListRead_keeps _ s e).2.2.2.2.2.2.2.2.2.2.2.1)
  · exact answerRequest_cases _ _ s _ (fun _ _ e => .of_link (ownClassSet_keeps _ s e).2.2.2.2.2.2.2.2.2.2.1)
  · exact answerRequest_cases _ _ s _ (fun _ _ e => ownClassRead_lines e)
  · exact answerRequest_cases _ _ s _ (fun _ _ e => .of_link (ownBulkDefine_keeps _ _ _ s e).2.2.2.2.2.2.2.2.2.2.1)
  · exact answerRequest_cases _ _ s _ (fun _ _ e => .of_link (ownBulkStart_keeps _ s e).2.2.2.2.2.2.2.2.2.2.1)
  · exact answerRequest_cases _ _ s _ (fun _ _ e => .of_link (ownBulkNext_keeps _ s e).2.2.2.2.2.2.2.2.2.1)
  · exact answerRequest_cases _ _ s _ (fun _ _ e => .of_link (ownBulkHold_keeps _ s e).2.2.2.2.2.2.2.2.2.2.1)
  · exact answerRequest_cases _ _ s _ (fun _ _ e => .of_link (ownBulkResume_keeps _ s e).2.2.2.2.2.2.2.2.2.2.1)
  · exact answerRequest_cases _ _ s _ (fun _ _ e => .of_link (ownBulkShort_keeps _ s e).2.2.2.2.2.2.2.2.2.1)
  · exact answerRequest_cases _ _ s _ (fun _ _ e => .of_link (ownBulkAbort_keeps _ s e).2.2.2.2.2.2.2.2.2.2.1)
  · exact answerRequest_cases _ _ s _ (fun _ _ e => .of_link (ownBulkRetire_keeps _ s e).2.2.2.2.2.2.2.2.2.2.1)
  · exact answerRequest_cases _ _ s _ (fun _ _ e => .of_link (ownBulkRead_keeps _ s e).2.2.2.2.2.2.2.2.2.2.2.1)
  · exact answerRequest_cases _ _ s _ (fun _ _ e => .of_link (ownBulkConfig_keeps _ _ _ s e).2.2.2.2.2.2.2.2.2.2.1)
  · exact answerRequest_cases _ _ s _ (fun _ _ e => .of_link (ownInvOpen_keeps _ s e).2.2.2.2.2.2.2.2.2.1)
  · exact answerRequest_cases _ _ s _ (fun _ _ e => .of_link (ownInvAmend_keeps _ _ s e).2.2.2.2.2.2.2.2.2.1)
  · exact answerRequest_cases _ _ s _ (fun _ _ e => .of_link (ownInvRead_keeps _ _ s e).2.2.2.2.2.2.2.2.2.2.2.1)
  · exact answerRequest_cases _ _ s _ (fun _ _ e => .of_link (ownInvVoidLast_keeps _ _ s e).2.2.2.2.2.2.2.2.2.1)
  · exact answerRequest_cases _ _ s _ (fun _ _ e => .of_link (ownInvClose_keeps _ _ s e).2.2.2.2.2.2.2.2.1)
  · exact answerRequest_cases _ _ s _ (fun _ _ e => .of_link (ownInvCancel_keeps _ s e).2.2.2.2.2.2.2.2.2.1)
  · exact answerRequest_cases _ _ s _ (fun _ _ e => .of_link (ownStationQueueAdd_keeps _ _ s e).2.2.2.2.2.2.2.2.2.2.1)
  · exact answerRequest_cases _ _ s _ (fun _ _ e => .of_link (ownStationQueueRemove_keeps _ _ s e).2.2.2.2.2.2.2.2.2.2.1)
  · exact answerRequest_cases _ _ s _ (fun _ _ e => .of_link (ownVectorSet_keeps _ _ s e).2.2.2.2.2.2.2.2.2.2.1)
  · exact answerRequest_cases _ _ s _ (fun _ _ e => ownVectorRead_lines e)
  · exact answerRequest_cases _ _ s _ (fun _ _ e => .of_link (ownActionSetWrite_keeps _ _ s e).2.2.2.2.2.2.2.2.2.2.1)
  · exact answerRequest_cases _ _ s _ (fun _ _ e => .of_link (ownActionSetRead_keeps _ s e).2.2.2.2.2.2.2.2.2.2.2.1)
  · exact answerRequest_cases _ _ s _ (fun _ _ e => .of_link (ownTemplateLoad_keeps _ _ s e).2.2.2.2.2.2.2.2.2.2.1)
  · exact answerRequest_cases _ _ s _ (fun _ _ e => .of_link (ownTemplateRead_keeps _ s e).2.2.2.2.2.2.2.2.2.2.2.1)
  · exact answerRequest_cases _ _ s _ (fun _ _ e => .of_link (ownStencilRequest_keeps _ _ _ _ s e).2.2.2.2.2.2.2.2.1)
  · exact answerRequest_cases _ _ s _ (fun _ _ e => .of_link (ownHeadResume_keeps _ s e).2.2.2.2.2.2.2.2.1)
  · exact answerRequest_cases _ _ s _ (fun _ _ e => .of_link (ownHeadReline_keeps _ s e).2.2.2.2.2.2.2.2.2.2.1)
  · exact answerRequest_cases _ _ s _ (fun _ _ e => .of_link (ownHeadSkip_keeps _ s e).2.2.2.2.2.2.2.2.1)
  · exact answerRequest_cases _ _ s _ (fun _ _ e => .of_link (ownHeadReset_keeps _ s e).2.2.2.2.2.2.2.2.2.1)
  · exact answerRequest_cases _ _ s _ (fun _ _ e => .of_link (ownHeadSet_keeps _ _ s e).2.2.2.2.2.2.2.2.1)
  · exact answerRequest_cases _ _ s _ (fun _ _ e => .of_link (ownHeadRead_keeps _ s e).2.2.2.2.2.2.2.2.2.2.2.1)
  · exact answerRequest_cases _ _ s _ (fun _ _ e => .of_link (ownWindowSet_keeps _ _ s e).2.2.2.2.2.2.2.2.2.2.1)
  · exact answerRequest_cases _ _ s _ (fun _ _ e => .of_link (ownWindowRead_keeps _ s e).2.2.2.2.2.2.2.2.2.2.2.1)
  · exact answerRequest_cases _ _ s _ (fun _ _ e => ownSheetFetch_lines e)
  · exact answerRequest_cases _ _ s _ (fun _ _ e => .of_link (ownSheetRelease_keeps _ s e).2.2.2.2.2.2.2.2.1)
  · exact answerRequest_cases _ _ s _ (fun _ _ e => .of_link (ownStoreRead_keeps _ s e).2.2.2.2.2.2.2.2.2.2.2.1)
  · exact answerRequest_cases _ _ s _ (fun _ _ e => .of_link (ownClockSet_keeps _ s e).2.2.2.2.2.2.2.2.2.2.1)
  · exact answerRequest_cases _ _ s _ (fun _ _ e => .of_link (ownClockRound_keeps s e).2.2.2.2.2.2.2.2.2.1)
  · exact answerRequest_cases _ _ s _ (fun _ _ e => ownClockRead_lines e)
  · exact answerRequest_cases _ _ s _ (fun _ _ e => ownStatus_lines e)
  · exact answerRequest_cases _ _ s _ (fun _ _ e => ownNoticeMask_lines e)
  · exact answerRequest_cases _ _ s _ (fun _ _ e => ownLinkSpeed_lines e)

/-- Taking a request leaves the holding (R175). -/
theorem takeRequest_holding (i : Instr) (s : State) : (takeRequest i s).link.holding = s.link.holding := by
  by_cases hk : ∃ k, i.requestKind = some k ∧ k ≠ 0x36 ∧ k ≠ 0x37
  · obtain ⟨k, h, hs, hr⟩ := hk
    obtain ⟨u, form, e, l⟩ := takeRequest_cases i k s h hs hr
    rw [e, State.joinReply_link, Link.joinReply_holding]
    exact (congrArg Link.holding l : _)
  · cases i <;> first
      | rfl
      | (exfalso; exact hk ⟨_, rfl, by decide, by decide⟩)
      | (simp only [takeRequest, takeRestart]; split <;> rfl)
      | simp [takeRequest]

theorem takeFrame_holding (f : Frame) (s : State) : (takeFrame f s).link.holding = s.link.holding := by
  unfold takeFrame
  split
  · rfl
  · exact takeRequest_holding _ s

/-! ### Serving the line -/

/-- With nothing that may be dispatched, serving the line is the transmitter's next frame (R175, R179). -/
theorem State.serve_idle (s : State) (h : s.link.holding = [] ∨ s.link.beginSend.mayDispatch = false) :
    s.serve = s.transmit := by
  unfold State.serve
  cases e : s.link.holding with
  | nil => rfl
  | cons f rest =>
    rcases h with h | h
    · simp [e] at h
    · simp [serveRounds, h]

/-- A front frame that may be dispatched leaves the holding and is taken, and the line is served behind it (R175, R176). -/
theorem State.serve_dispatch (s : State) (f : Frame) (rest : List Frame) (h : s.link.holding = f :: rest)
    (hm : s.link.beginSend.mayDispatch = true) :
    s.serve = (takeFrame f (s.setLink { s.link.beginSend with holding := rest })).serve := by
  have hd : dispatchFront s.transmit = takeFrame f (s.setLink { s.link.beginSend with holding := rest }) := by
    unfold dispatchFront
    simp only [State.transmit_link, Link.beginSend_holding, h]
    rfl
  unfold State.serve
  rw [h, List.length_cons, serveRounds, State.transmit_link, if_pos hm, hd, takeFrame_holding]
  rfl

/-- The command of a request but SAVE-SETTINGS is its taking, with the line served behind it (R175, R178; log 3). -/
theorem exec_request (i : Instr) (k : Byte) (s : State) (h : i.requestKind = some k) (hs : k ≠ 0x36)
    (hp : s.powered = true) : exec i s = .next (takeRequest i s).serve := by
  have e : onPower s (fun s => (takeRequest i s).serve) = .next (takeRequest i s).serve := onPower_powered hp _
  cases i <;> simp only [Instr.requestKind, Option.some.injEq, reduceCtorEq] at h <;> subst h <;> first
    | exact absurd rfl hs
    | exact e

/-- What the transmitter's next frame and the taking of a front frame both keep, the serving of the line keeps. -/
theorem State.serve_keeps (P : State → Prop) (ht : ∀ s, P s → P s.transmit)
    (hf : ∀ s f rest, P s → s.link.holding = f :: rest → P (takeFrame f (s.setLink { s.link with holding := rest })))
    (s : State) (h : P s) : P s.serve := by
  have rounds : ∀ n s, P s → P (serveRounds n s) := by
    intro n
    induction n with
    | zero => exact fun _ h => h
    | succ n ih =>
      intro s h
      unfold serveRounds
      split
      · refine ih _ (ht _ ?_)
        unfold dispatchFront
        split
        · exact h
        · rename_i f rest e
          exact hf s f rest h e
      · exact h
  exact rounds _ _ (ht s h)

end Sys2Proof.Machine
end

