-- ==== Sys2Proof/Tests/Slice0.lean ====
section
/-! SUPPORT. Tests of the model, each on one small state: ill-formed commands refused, request bodies written out byte by
byte, the figures of the spec's own worked examples, and a witness for the hypotheses of each statement. -/

-- The theorems are checked one after another: each `decide +kernel` waits for those before it.
set_option Elab.async false

namespace Sys2Proof.Tests

open Sys2Proof.Machine

/-! ### Helpers -/

/-- The state a command leaves; the reset state where it would stop. -/
def after (o : Host.Outcome State Fault Refusal) : State :=
  match o with
  | .next s => s
  | .fault _ => State.reset
  | .refused _ => State.reset

/-- The state after a command, its arrivals between blocks still in transit. -/
def run (c : Instr) (s : State) : State := after (exec c s)

/-- The state after several commands. -/
def runAll (cs : List Instr) (s : State) : State := cs.foldl (fun s c => run c s) s

/-- The form of the newest reply made: the last one waiting, or the one being sent. -/
def answer (s : State) : Option Form :=
  match s.link.replies.getLast?, s.link.sending with
  | some r, _ => some r.form
  | none, some (.reply r) => some r.form
  | _, _ => none

/-- A text as bytes. -/
def text (s : String) : Text := s.toList.map fun c => BitVec.ofNat 8 c.toNat

/-- A sample word with a good parity bit behind each byte. -/
def word (n : Int) : SampleWord :=
  let c := BitVec.ofInt 24 n
  ⟨c, !oddParity (c.extractLsb' 0 8) false, !oddParity (c.extractLsb' 8 8) false, !oddParity (c.extractLsb' 16 8) false⟩

/-- Settings under which a count is twice its grams: W = 1, M = 2, B = 1, d = 20 g, L = 2,000 g. -/
def settingsOf (role : Role) : StationSettings :=
  { StationSettings.default with role := role, w := 1, m := 2, d := 20, c := 150000, l := 2000, span := 32768 }

/-- A station of a role in a state. -/
def stationOf (role : Role) (state : StationState) : Station :=
  { Station.atReset with settings := settingsOf role, state := state, signalTimer := some 0 }

/-- The part with one station. -/
def withStation (i : Fin 4) (st : Station) : State := State.reset.setStation i st

/-- Chest `n` of an invoice under a serial, of 60,010 g net. -/
def chest (n serial : Nat) (status : StencilStatus := .none) : Chest := ⟨n, serial, 2, 61200, 60010, status, false⟩

/-- Invoice 4417 of spec/04's example, with chests 23 and on given the serials, its tally 310 g. -/
def record (state : InvoiceState) (packages : Nat) : InvoiceRecord :=
  { number := 4417, garden := text "MARANGAL EST", grade := text "BOPF  ", packType := 5, tare := 1190
    declaredNet := 60000, packages := packages, cls := 2, tightened := false, ceiling := 400, tally := 310
    overrun := false, allowance := 0, autoClose := false, shortClose := false, bulkRun := none
    offProportion := false, date := ⟨2025, 3, 14⟩, lot := .unresolved, state := state }

/-- The part with invoices in its table and the chest serial counter at 5,109. -/
def withInvoices (vs : List Invoice) (s : State := State.reset) : State :=
  { s with invoices := { s.invoices with invoices := vs, nextSerial := 5109 } }

/-- The part with invoice 4417 in a state under some chests. -/
def withInvoice (state : InvoiceState) (packages : Nat) (chests : List Chest) (s : State := State.reset) : State :=
  withInvoices [⟨record state packages, chests⟩] s

/-- The components of spec/03's example, in given states. -/
def blend (a b c : ComponentState) : List Component :=
  [⟨text "BATCH 0712", 400, 240000, 0, a⟩, ⟨text "BATCH 0715", 350, 210000, 0, b⟩, ⟨text "BATCH 0718", 250, 150000, 0, c⟩]

/-- Run 37 of spec/03's example. -/
def blendRun (state : RunState) (active : Option Nat) (cs : List Component) : BulkRecord :=
  { run := 37, state := state, definedTotal := 600000, total := 600000, components := cs, active := active, carried := 0
    start := none, fed := 0, uncommitted := 0, bound := 0, date := none, offProportion := false, short := false }

/-- The part with one run, FEED at station 3 in ACTIVE and a last reading of `q`. -/
def withRun (r : BulkRecord) (gate : Bool := false) (q : Int := 18400) : State :=
  { withStation 3 (stationOf .feed .active) with
    bulking := { State.reset.bulking with
      records := [r], nextRun := 38, gateOpen := gate, stallTimer := if gate then some 0 else none
      lastReading := some ⟨3, 20, q⟩ } }

/-- A stencil job for a serial of invoice 4417 under template 1. -/
def job (serial : Nat) : Job := ⟨serial, 4417, 1, some ⟨23, 61200, 60010⟩, .action⟩

/-- A job in hand on lines of the given texts. -/
def inHand (lines : List Text) (line position : Nat) : JobInHand := ⟨job 5108, lines, line, position⟩

/-- The part with head 0 as given. -/
def withHead (h : Head) (s : State := State.reset) : State := s.setHead 0 h

/-- A head in a state with a job in hand. -/
def headOf (state : HeadState) (j : Option JobInHand) (resume : ResumePoint := .none) : Head :=
  ⟨state, [], j, resume, if state = .lineWait then some 0 else none, []⟩

/-- A sheet of an invoice of `chests` chests at a place. -/
def sheet (invoice chests page first : Nat) (written : Bool) : Sheet :=
  ⟨invoice, chests, page, first, sheetSlots chests, written, none, []⟩

/-- The part with stored sheets, a free point and a waiting line. -/
def withSheets (sheets : List Sheet) (page slot : Nat) (waiting : List Nat) (s : State := State.reset) : State :=
  { s with store := { s.store with sheets := sheets, freePage := page, freeSlot := slot, waiting := waiting } }

/-- The part with slot 0 as given. -/
def withSlot (c : Slot) (s : State := State.reset) : State := s.setSlot 0 c

/-! ### Ill-formed commands are refused -/

theorem test_stationConfig_wide_c_is_ill_formed :
    (Instr.stationConfig 0 ⟨0, 0, 8, 8, 1, 10, 16777216, 1000, 0, 0, 0⟩).wellFormed = false := by decide

theorem test_one_byte_numbers_are_checked :
    ([Instr.stationRestart 0 256, .stationZero 0 256, .weighCapture 0 256, .stationRead 0 256, .tareListClear 0 256,
      .tareListRead 0 256, .actionSetRead 0 256, .templateRead 0 256, .headResume 0 256, .headReline 0 256,
      .headSkip 0 256, .headReset 0 256, .headRead 0 256, .headSet 0 0 256, .storeRead 0 256, .restart 0 256].all
        fun i => !i.wellFormed) = true := by decide

theorem test_two_byte_numbers_are_checked :
    ([Instr.bulkStart 0 65536, .bulkNext 0 65536, .bulkHold 0 65536, .bulkResume 0 65536, .bulkShort 0 65536,
      .bulkAbort 0 65536, .bulkRetire 0 65536, .bulkRead 0 65536, .invVoidLast 0 1 65536, .stencilStatus 65536 .queued,
      .jobRemoval 65536, .sampleMark 65536 1].all fun i => !i.wellFormed) = true := by decide

theorem test_three_byte_numbers_are_checked :
    ([Instr.invRead 0 16777216 0, .invClose 0 16777216 0, .invCancel 0 16777216, .stationQueueAdd 0 0 16777216,
      .stationQueueRemove 0 0 16777216, .windowRead 0 (some 16777216), .sheetFetch 0 16777216 0,
      .sheetRelease 0 16777216, .linkSpeed 0 16777216, .stencilRequest 0 0 0 16777216 1, .sheetRequest 16777216,
      .append 0 16777216 0 0, .stencilJobRequest 0 0 0 16777216].all fun i => !i.wellFormed) = true := by decide

theorem test_signed_numbers_are_checked :
    ([Instr.stationCal 0 0 8388608 1, .stationCal 0 0 (-8388609) 1, .packtypeSet 0 0 (text "PLYWD 40") 2147483648 60,
      .bulkConfig 0 (-2147483649) 20 ⟨0, 0⟩, .tareSample 0 0 2147483648, .reading 0 (-2147483649) true 20].all
        fun i => !i.wellFormed) = true := by decide +kernel

theorem test_texts_are_checked :
    ([Instr.packtypeSet 0 0 (text "PLYWD") 1200 60, .bulkDefine 0 600000 1 [⟨text "BATCH", 1000⟩],
      .invAmend 0 1 ⟨⟨1, text "SHORT"⟩, ⟨0, text "BOPF  "⟩, ⟨0, 0⟩, ⟨0, 0⟩, ⟨0, 0⟩⟩,
      .invOpen 0 ⟨1, text "MARANGAL EST", text "BOPF", 0, 60000, 24, 2, 0, 0, 0, none, none⟩].all
        fun i => !i.wellFormed) = true := by decide +kernel

theorem test_lists_are_checked :
    ([Instr.templateLoad 0 0 (.replicate 247 0), .frameReceived ⟨0, 0x33, .replicate 249 0⟩,
      .bulkDefine 0 600000 9 (.replicate 9 ⟨text "BATCH 0712", 100⟩),
      .classSet 0 #v[(256, 0), (0, 0), (0, 0), (0, 0)], .noticeMask 0 #v[0, 0, 0, 0, 0, 0, 256]].all
        fun i => !i.wellFormed) = true := by decide +kernel

theorem test_codes_of_absence_are_no_values :
    ([Instr.vectorSet 0 0 (some 255), .invOpen 0 ⟨1, text "MARANGAL EST", text "BOPF  ", 0, 60000, 24, 2, 0, 0, 0, some 0, none⟩,
      .invOpen 0 ⟨1, text "MARANGAL EST", text "BOPF  ", 0, 60000, 24, 2, 0, 0, 0, none, some ⟨2000, 0, 0⟩⟩,
      .actionSetWrite 0 0 ⟨1, 2, 7, 0, 0, 1, 0, 0, 0⟩].all fun i => !i.wellFormed) = true := by decide +kernel

theorem test_dates_are_checked :
    ([Instr.clockSet 0 ⟨⟨1999, 1, 1⟩, 0, 0, 0⟩, .clockSet 0 ⟨⟨2025, 256, 1⟩, 0, 0, 0⟩, .clockSet 0 ⟨⟨2025, 1, 1⟩, 256, 0, 0⟩,
      .windowSet 0 0 ⟨0, 65536, 1, 0⟩, .invOpen 0 ⟨1, text "MARANGAL EST", text "BOPF  ", 0, 60000, 256, 2, 0, 0, 0, none, none⟩,
      .appendAnswer 0 (.accepted 256 1)].all fun i => !i.wellFormed) = true := by decide +kernel

/-! ### Request bodies, byte by byte (R201 to R204, spec/11) -/

theorem test_stationConfig_body :
    decodeRequest ⟨3, 0x01, [2, 1, 8, 4, 1, 20, 0xF0, 0x49, 0x02, 0xD0, 0x07, 0x00, 1, 1, 5]⟩ =
      .ok (.stationConfig 3 ⟨2, 1, 8, 4, 1, 20, 150000, 2000, 1, 1, 5⟩) := by rfl

theorem test_stationCal_body_is_signed :
    decodeRequest ⟨3, 0x02, [0, 0xFF, 0xFF, 0xFF, 0x1A, 0x06]⟩ = .ok (.stationCal 3 0 (-1) 1562) := by rfl

theorem test_packtypeSet_body :
    decodeRequest ⟨1, 0x07, 5 :: text "PLYWD 40" ++ [0xB0, 0x04, 0, 0, 0x3C, 0, 0, 0]⟩ =
      .ok (.packtypeSet 1 5 (text "PLYWD 40") 1200 60) := by rfl

theorem test_classSet_body :
    decodeRequest ⟨1, 0x0A, [1, 8, 1, 5, 0, 2, 0, 1]⟩ = .ok (.classSet 1 #v[(1, 8), (1, 5), (0, 2), (0, 1)]) := by rfl

theorem test_bulkDefine_body :
    decodeRequest ⟨1, 0x0C, [0xC0, 0x27, 0x09, 1] ++ text "BATCH 0712" ++ [0xE8, 0x03]⟩ =
      .ok (.bulkDefine 1 600000 1 [⟨text "BATCH 0712", 1000⟩]) := by rfl

theorem test_bulkConfig_body :
    decodeRequest ⟨1, 0x15, [0xF4, 0x01, 0, 0, 20, 0, 1, 0x3A, 0x02, 0, 0]⟩ = .ok (.bulkConfig 1 500 20 ⟨1, 570⟩) := by rfl

theorem test_invOpen_body :
    decodeRequest ⟨1, 0x16, [0x41, 0x11, 0] ++ text "MARANGAL EST" ++ text "BOPF  " ++
        [5, 0x60, 0xEA, 0, 24, 2, 0x90, 0x01, 0, 0, 0, 0, 37, 0, 14, 3, 25]⟩ =
      .ok (.invOpen 1 ⟨4417, text "MARANGAL EST", text "BOPF  ", 5, 60000, 24, 2, 400, 0, 0, some 37,
        some ⟨2025, 3, 14⟩⟩) := by rfl

theorem test_invVoidLast_body :
    decodeRequest ⟨1, 0x19, [0x41, 0x11, 0, 0xF5, 0x13]⟩ = .ok (.invVoidLast 1 4417 5109) := by rfl

theorem test_vectorSet_body_none :
    decodeRequest ⟨1, 0x1E, [19, 0xFF]⟩ = .ok (.vectorSet 1 19 none) := by rfl

theorem test_actionSetWrite_body_reload_256 :
    decodeRequest ⟨1, 0x20, [2, 1, 1, 3, 0x20, 0x03, 1, 1, 0, 0, 1]⟩ =
      .ok (.actionSetWrite 1 2 ⟨1, 1, 3, 800, 1, 1, 256, 0, 1⟩) := by rfl

theorem test_stencilRequest_body :
    decodeRequest ⟨1, 0x24, [1, 7, 0x41, 0x11, 0, 23]⟩ = .ok (.stencilRequest 1 1 7 4417 23) := by rfl

theorem test_windowSet_body :
    decodeRequest ⟨1, 0x2B, [2, 0x30, 0x11, 0, 10, 0, 0xB0, 0x04, 0, 1]⟩ =
      .ok (.windowSet 1 2 ⟨4400, 10, 1200, 1⟩) := by rfl

theorem test_windowRead_body_may_be_empty :
    decodeRequest ⟨1, 0x2C, []⟩ = .ok (.windowRead 1 none) := by rfl

theorem test_sheetFetch_body :
    decodeRequest ⟨1, 0x2D, [0x78, 0x14, 0, 1]⟩ = .ok (.sheetFetch 1 5240 1) := by rfl

theorem test_clockSet_body :
    decodeRequest ⟨1, 0x30, [28, 2, 24, 23, 59, 20]⟩ = .ok (.clockSet 1 ⟨⟨2024, 2, 28⟩, 23, 59, 20⟩) := by rfl

theorem test_linkSpeed_body :
    decodeRequest ⟨1, 0x35, [0x00, 0xC2, 0x01]⟩ = .ok (.linkSpeed 1 115200) := by rfl

theorem test_kind_before_length :
    decodeRequest ⟨4, 0x40, []⟩ = .error .unknown ∧ decodeRequest ⟨4, 0x00, []⟩ = .error .unknown ∧
      decodeRequest ⟨4, 0x36, [0]⟩ = .error .length ∧ decodeRequest ⟨4, 0x37, []⟩ = .error .length := ⟨rfl, rfl, rfl, rfl⟩

/-- The check value that R202 gives. -/
theorem test_crc_check_value : crc16 (text "123456789") = 0x29B1 := by decide +kernel

/-- A STATUS request as its bytes on the line, the start byte included (R202). -/
theorem test_request_bytes : (requestBytes ⟨0x07, 0x33, []⟩).take 4 = [0xA5, 2, 0x07, 0x33] := by decide +kernel

theorem test_no_row_has_bits : decodeTableWord 32 0xFFFFFFFF = none := rfl

/-! ### Figures of the worked examples -/

theorem test_rounding : roundDiv 30 20 = 2 ∧ roundDiv (-30) 20 = -2 ∧ roundDiv 29 20 = 1 := by decide

/-- spec/01's example: eight samples of average 2,580,000 weigh 61,199 g, 61,200 g in divisions. -/
theorem test_weight_computation :
    (let st : Station := { stationOf .chest .loaded with
      settings := { settingsOf .chest with w := 8, zeroCount := 12300, span := 1562 }, filter := .replicate 8 2580000 }
     (st.grams, st.quantized)) = (61199, 61200) := by decide +kernel

/-- spec/02's example: 9,530 g over eight samples, then 10,790 g over nine. -/
theorem test_tare_value :
    (⟨text "PLYWD 40", 1200, 60, [1180, 1200, 1220, 1160, 1190, 1210, 1200, 1170]⟩ : PackType).tare = 1190 ∧
      (⟨text "PLYWD 40", 1200, 60, [1180, 1200, 1220, 1160, 1190, 1210, 1200, 1170, 1260]⟩ : PackType).tare = 1200 := by
  decide +kernel

/-- The weights of R121's table. -/
theorem test_weight_texts :
    weightText 2 60010 = text "60.01" ∧ weightText 1 60050 = text "60.1" ∧ weightText 1 1190 = text "1.2" ∧
      weightText 2 (-35) = text "-0.04" ∧ weightText 1 (-35) = text "0.0" ∧ weightText 2 300900 = text "300.90" := by
  decide +kernel

/-- The slots of R146: 40 chests take 8, 120 take 18, 3 take 4. -/
theorem test_sheet_slots : sheetSlots 40 = 8 ∧ sheetSlots 120 = 18 ∧ sheetSlots 3 = 4 := by decide

theorem test_sample_parity : sampleValid (word 122380) = true ∧ sampleValid { word 122380 with parityLow := !(word 122380).parityLow } = false := by
  decide +kernel

/-! ### Weigh stations -/

/-- The states of the load cycle on one sample of `grams`. -/
def weighed (role : Role) (state : StationState) (settle : List Int) (grams : Int) : State :=
  run (.sampleWord 2 (word (2 * grams))) (withStation 2 { stationOf role state with settle := settle })

/-- R18: at L exactly, unsettled, EMPTY goes to LOADED. -/
theorem test_empty_to_loaded : (weighed .chest .empty [0] 2000).stations[2].state = .loaded := by decide +kernel

/-- R18, R24: a settled value with no invoice is decided NOINVOICE. -/
theorem test_loaded_decides_noInvoice :
    (weighed .chest .loaded [61200] 61190).stations[2].decision = ⟨.noInvoice, none, some 61200, none, none, none⟩ := by
  decide +kernel

/-- R13: C + 9d is in range, one division more is not. -/
theorem test_overload_bound :
    (weighed .chest .loaded [] 150180).stations[2].state = .loaded ∧
      (weighed .chest .loaded [] 150200).stations[2].state = .overload := by decide +kernel

/-- R25: a settled TARE station sends a sample for its target. -/
theorem test_tare_station_sends_a_sample :
    (weighed .tare .loaded [1200] 1200).transit = [] ∧ (weighed .tare .loaded [2000] 2000).transit = [.tareSample 2 0 2000] := by
  decide +kernel

/-- spec/01's example: net 60,010 g against 60,000 g in class 2 is appended. -/
theorem test_chest_decision_appends :
    (let s := withInvoice .opened 24 []
     let s := { s with
       stations := s.stations.set 2 { stationOf .chest .loaded with settle := [61200] }
       invoices := { s.invoices with queues := s.invoices.queues.set 2 [4417] } }
     (run (.sampleWord 2 (word 122400)) s).transit) = [.append 2 4417 61200 60010] := by decide +kernel

theorem test_signal_expiry :
    (let s := run (.signalTimerExpiry 2) (withStation 2 (stationOf .chest .decided))
     (s.stations[2].state, s.stations[2].signalTimer, s.transit)) = (.noSignal, none, [.noticeOffer (.signalLost 2)]) := by
  decide +kernel

/-- R9: with auto-restart on, the first valid sample restarts a station in NOSIGNAL. -/
theorem test_sample_restarts_a_lost_station :
    (let st := { stationOf .chest .noSignal with settings := { settingsOf .chest with autoRestart := true } }
     let t := run (.sampleWord 2 (word 100260)) (withStation 2 st)
     (t.stations[2].state, t.stations[2].filter, t.stations[2].settle)) = (.starting, [100260], [50140]) := by decide +kernel

theorem test_stationConfig_sets_a_role :
    (let s := run (.stationConfig 9 ⟨1, 3, 8, 8, 1, 10, 60000, 1000, 0, 1, 0⟩) State.reset
     (s.stations[1].state, s.stations[1].signalTimer, answer s)) = (.active, some 0, some (.ok .done)) := by decide +kernel

theorem test_stationConfig_second_feed_conflicts :
    answer (run (.stationConfig 9 ⟨1, 3, 8, 8, 1, 10, 60000, 1000, 0, 1, 0⟩) (withStation 3 (stationOf .feed .active))) =
      some (.refused .conflict) := by decide +kernel

theorem test_stationCal_sets_zero_and_span :
    (let s := run (.stationCal 1 2 (-5) 300) (withStation 2 { stationOf .chest .empty with zt := 40, filter := [7] })
     (s.stations[2].settings.zeroCount, s.stations[2].settings.span, s.stations[2].zt, s.stations[2].filter,
       s.stations[2].state)) = (-5, 300, 0, [], .starting) := by decide +kernel

theorem test_stationRestart_keeps_zt :
    (let s := run (.stationRestart 1 2) (withStation 2 { stationOf .tare .decided with zt := 40 })
     (s.stations[2].zt, s.stations[2].state)) = (40, .starting) := by decide +kernel

theorem test_stationRestart_refused_off : answer (run (.stationRestart 1 2) State.reset) = some (.refused .state) := by
  decide +kernel

/-- R16: Zt takes in the grams and q becomes 0. -/
theorem test_stationZero :
    (let s := run (.stationZero 1 2)
      (withStation 2 { stationOf .chest .empty with settled := true, filter := [60], settle := [20, 40], q := 40, zt := 10 })
     (answer s, s.stations[2].zt, s.stations[2].q, s.stations[2].settle)) = (some (.ok (.zeroed 30)), 30, 0, [0, 0]) := by
  decide +kernel

/-- spec/09's example: slots 0 and then 2, with slot 1 taken. -/
theorem test_weighCapture_takes_the_lowest_free_slot :
    (let s := (withStation 1 (stationOf .chest .loaded)).setSlot 1 (.waiting (.fetch 5240) (some 0) none)
     let s := s.setStation 3 (stationOf .chest .empty)
     let t := run (.weighCapture 17 1) s
     (answer t, answer (run (.weighCapture 18 3) t), answer (run (.weighCapture 19 1) t))) =
      (some (.pending 0), some (.pending 2), some (.pending 0)) := by decide +kernel

theorem test_weighCapture_settled_at_once :
    answer (run (.weighCapture 30 3) (withStation 3 { stationOf .chest .empty with settled := true })) =
      some (.ok (.delivered none (.capture 3) .answer (some (.capture 3 .empty 0 0)))) := by decide +kernel

theorem test_stationRead_overload_reports_last_in_range :
    (match answer (run (.stationRead 1 2)
        (withStation 2 { stationOf .chest .overload with q := 160000, lastInRange := 61200 })) with
     | some (.ok (.station r)) => some r.q
     | _ => none) = some 61200 := by decide +kernel

theorem test_appendAnswer_accepted :
    (let s := run (.appendAnswer 2 (.accepted 24 5109))
       (withStation 2 { stationOf .chest .decided with outstanding := some (.append 4417 61240 60050) })
     (s.stations[2].decision, s.stations[2].outstanding)) =
      (⟨.accepted, some 4417, some 61240, some 60050, some 24, some 5109⟩, none) := by decide +kernel

theorem test_tareAnswer_reject :
    (run (.tareAnswer 2 5 false)
      (withStation 2 { stationOf .tare .decided with outstanding := some (.sample 5 1270) })).transit =
      [.noticeOffer (.tareDecided 2 5 .tareReject 1270)] := by decide +kernel

/-! ### Package types and classes -/

/-- spec/02's example: with the list full the oldest sample leaves. -/
theorem test_tareSample_full_list :
    (let p : PackType := ⟨text "PLYWD 40", 1200, 60, [1180, 1200, 1220, 1160, 1190, 1210, 1200, 1170, 1260, 1230]⟩
     let s := run (.tareSample 1 5 1140) (State.reset.setPackType 5 p)
     (s.packs.types[5].tares, s.packs.types[5].tare)) =
      ([1200, 1220, 1160, 1190, 1210, 1200, 1170, 1260, 1230, 1140], 1200) := by decide +kernel

theorem test_tareSample_reject :
    (run (.tareSample 1 5 1270) (State.reset.setPackType 5 ⟨text "PLYWD 40", 1200, 60, []⟩)).transit =
      [.tareAnswer 1 5 false] := by decide +kernel

theorem test_packtypeSet_bounds :
    answer (run (.packtypeSet 1 5 (text "PLYWD 40") 100 2000) State.reset) = some (.ok (.packType 5 100)) ∧
      answer (run (.packtypeSet 1 5 (text "PLYWD 40") 99 2000) State.reset) = some (.refused .range) := by decide +kernel

theorem test_tareListClear :
    answer (run (.tareListClear 1 5) (State.reset.setPackType 5 ⟨text "PLYWD 40", 1200, 60, [1150]⟩)) =
      some (.ok (.packType 5 1200)) := by decide +kernel

theorem test_tareListRead :
    answer (run (.tareListRead 1 5) (State.reset.setPackType 5 ⟨text "PLYWD 40", 1200, 60, [1150]⟩)) =
      some (.ok (.tareList 5 ⟨text "PLYWD 40", 1200, 60, [1150]⟩ 1150)) := by decide +kernel

/-- spec/02's example of three CLASS-SET requests. -/
theorem test_classSet_order :
    [#v[(0, 8), (0, 5), (0, 6), (0, 1)], #v[(0, 8), (1, 5), (0, 3), (0, 1)], #v[(1, 8), (1, 5), (0, 2), (0, 1)]].map
      (fun p => answer (run (.classSet 1 p) State.reset)) =
        [some (.refused .range), some (.refused .range), some (.ok (.classes #v[⟨1, 8⟩, ⟨1, 5⟩, ⟨0, 2⟩, ⟨0, 1⟩]))] := by
  decide +kernel

theorem test_classRead_defaults :
    answer (run (.classRead 1) State.reset) = some (.ok (.classes #v[⟨0, 8⟩, ⟨0, 5⟩, ⟨0, 3⟩, ⟨0, 1⟩])) := by decide +kernel

/-! ### Bulking -/

theorem test_bulkDefine_targets :
    answer (run (.bulkDefine 1 600000 3 [⟨text "BATCH 0712", 400⟩, ⟨text "BATCH 0715", 350⟩, ⟨text "BATCH 0718", 250⟩])
      State.reset) = some (.ok (.bulkDefined 1 [240000, 210000, 150000])) := by decide +kernel

/-- spec/03's example, from BULK-START to the end of component 0. -/
theorem test_first_component :
    (let s := runAll [.bulkStart 1 37, .reading 3 18400 true 20, .reading 3 257920 false 20, .reading 3 258540 true 20]
       (withRun (blendRun .defined none (blend .pending .pending .pending)))
     ((s.bulking.find 37).map fun r => (r.state, r.components.map fun c => (c.fed, c.state)), s.bulking.preact,
       s.bulking.gateOpen)) =
      (some (.between, [(240140, .done), (0, .pending), (0, .pending)]), 570, false) := by decide +kernel

theorem test_bulkNext_arms_component_1 :
    answer (run (.bulkNext 1 37) (withRun (blendRun .between (some 0) (blend .done .pending .pending)))) =
      some (.ok (.bulkNext .armed (some (1, 210000)))) := by decide +kernel

/-- The gate opens at the start reading and closes at the preact. -/
theorem test_reading_opens_the_gate :
    (run (.reading 3 258540 true 20) (withRun (blendRun .armed (some 1) (blend .done .armed .pending)))).bulking.gateOpen =
      true := by decide +kernel

theorem test_bulkHold_carries_the_gain :
    answer (run (.bulkHold 1 37) (withRun { blendRun .feeding (some 0) (blend .feeding .pending .pending) with
      start := some 18400 } true 118400)) = some (.ok (.bulkCarried 100000)) := by decide +kernel

theorem test_bulkResume_from_stalled :
    ((run (.bulkResume 1 37) (withRun (blendRun .stalled (some 0) (blend .armed .pending .pending)))).bulking.find 37).map
      (·.state) = some .armed := by decide +kernel

/-- The start state of spec/03's rescale: component 1 stalled at 168,000 g. -/
def stalledRun : State :=
  withRun { blendRun .stalled (some 1) ((blend .done .armed .pending).modify 0 fun c => { c with fed := 240140 }) with
    carried := 168000 }

/-- spec/03's example of a rescale. -/
theorem test_bulkShort_rescales :
    answer (run (.bulkShort 1 37) stalledRun) = some (.ok (.bulkShort 480000 [120000] true .between)) := by decide +kernel

theorem test_bulkAbort_skips_the_rest :
    (let s := run (.bulkAbort 1 37) stalledRun
     (answer s, (s.bulking.find 37).map fun r => r.components.map fun c => c.state)) =
      (some (.ok (.bulkFed 408140)), some [.done, .skipped, .skipped]) := by decide +kernel

theorem test_bulkRetire_only_ended :
    answer (run (.bulkRetire 1 37) stalledRun) = some (.refused .state) ∧
      answer (run (.bulkRetire 1 37) (withRun (blendRun .aborted none []))) = some (.ok (.bulkRun 37)) := by decide +kernel

theorem test_bulkRead_summary :
    answer (run (.bulkRead 1 0) stalledRun) =
      some (.ok (.bulkSummary [(37, .stalled)] 500 500 20 false (some 37))) := by decide +kernel

theorem test_bulkConfig_keeps_the_preact :
    answer (run (.bulkConfig 1 700 30 ⟨0, 9999⟩) State.reset) = some (.ok (.bulkConfig 700 30 500)) := by decide +kernel

theorem test_leaveReport_stalls :
    (run .leaveReport (withRun { blendRun .feeding (some 0) (blend .feeding .pending .pending) with
      start := some 18400 } true)).transit = [.noticeOffer (.bulkStalled 37 0 .signal 240000 0)] := by decide +kernel

theorem test_stallTimer_stalls :
    (run .stallTimerExpiry (withRun { blendRun .feeding (some 0) (blend .feeding .pending .pending) with
      start := some 18400 } true)).bulking.gateOpen = false := by decide +kernel

/-! ### Invoices -/

/-- Run 37 of spec/03's second example, complete with 528,200 g. -/
def completeRun37 : State :=
  { withRun { blendRun .complete none [] with uncommitted := 528200, fed := 528200, date := some ⟨2025, 3, 14⟩ } with
    clock := ⟨some ⟨⟨2025, 3, 15⟩, 8, 0, 0⟩, 0⟩ }

/-- spec/03's example: invoice 4420 is granted 8 of 120 packages and takes the run's date. -/
theorem test_invOpen_commits :
    (let s := run (.invOpen 1 ⟨4420, text "MARANGAL EST", text "BOPF  ", 5, 60000, 120, 2, 0, 0, 0, some 37, none⟩)
       completeRun37
     (answer s, (s.bulking.find 37).map fun r => (r.uncommitted, r.bound))) =
      (some (.ok (.invOpened 4420 120 8 1000 ⟨2025, 3, 14⟩ (some 37))), some (48200, 1)) := by decide +kernel

theorem test_invOpen_needs_a_date :
    answer (run (.invOpen 1 ⟨4420, text "MARANGAL EST", text "BOPF  ", 5, 60000, 120, 2, 0, 0, 0, none, none⟩)
      State.reset) = some (.refused .state) := by decide +kernel

/-- Invoice 4417 at 23 of 24 chests, spec/04's example. -/
def lastPackage : State :=
  let s := withInvoice .opened 24 ((List.range' 1 23).map fun n => chest n (5085 + n))
  { s with invoices := { s.invoices with queues := #v[[4417, 4418], [], [4417], []] } }

/-- spec/04's example: the last package makes the invoice FULL at a tally of 360 g. -/
theorem test_append_fills_the_invoice :
    (let s := run (.append 0 4417 61240 60050) lastPackage
     ((s.invoices.find 4417).map fun v => (v.record.state, v.record.tally, v.chests.length), s.invoices.queues,
       s.invoices.nextSerial)) = (some (.full, 360, 24), #v[[4418], [], [], []], 5110) := by decide +kernel

/-- spec/04's example: the append behind it is answered SURPLUS. -/
theorem test_append_surplus :
    (run (.append 2 4417 61220 60030) (withInvoice .full 1 [chest 1 5108])).transit = [.appendAnswer 2 .surplus] := by
  decide +kernel

theorem test_invVoidLast_reopens :
    (let s := run (.invVoidLast 1 4417 5109) (withInvoice .full 1 [chest 1 5109 .pending])
     ((s.invoices.find 4417).map fun v => (v.record.state, v.record.tally, v.chests), s.transit)) =
      (some (.opened, 300, []), [.jobRemoval 5109]) := by decide +kernel

theorem test_invVoidLast_marking :
    answer (run (.invVoidLast 1 4417 0) (withInvoice .full 1 [chest 1 5109 .marking])) = some (.refused .state) := by
  decide +kernel

theorem test_invAmend_full_closes :
    (run (.invAmend 1 4417 ⟨⟨0, []⟩, ⟨0, []⟩, ⟨0, 0⟩, ⟨0, 0⟩, ⟨1, 1⟩⟩) (withInvoice .full 1 [chest 1 5109])).transit =
      [.sheetRequest 4417] := by decide +kernel

theorem test_invRead_chests :
    answer (run (.invRead 1 4417 2) lastPackage) =
      some (.ok (.chests 23 ((List.range' 17 7).map fun n => chest n (5085 + n)))) := by decide +kernel

theorem test_invClose_short_returns_weight :
    (let s := { completeRun37 with
       invoices := ⟨[⟨{ record .opened 8 with bulkRun := some 37 }, (List.range' 1 6).map fun n => chest n n⟩],
         .replicate 4 [], 7⟩ }
     (answer (run (.invClose 1 4417 1) s))) = some (.ok (.closed .closing (some (6, 120000)))) := by decide +kernel

theorem test_invCancel_removes :
    (run (.invCancel 1 4417) (withInvoice .opened 24 [])).invoices.invoices = [] := by decide +kernel

theorem test_stationQueueAdd_then_remove :
    (let s := (withInvoice .opened 24 []).setStation 2 (stationOf .chest .empty)
     (answer (run (.stationQueueAdd 1 2 4417) s),
       answer (run (.stationQueueRemove 2 2 4417) (run (.stationQueueAdd 1 2 4417) s)))) =
      (some (.ok (.queue [4417])), some (.ok (.queue []))) := by decide +kernel

theorem test_stencilStatus_marks :
    ((run (.stencilStatus 5108 .lineAcknowledged) (withInvoice .full 1 [chest 1 5108 .marking])).invoices.find 4417).map
      (fun v => v.chests.map (·.status)) = some [.marked] := by decide +kernel

theorem test_sampleMark_adds_grams :
    ((run (.sampleMark 5108 500) (withInvoice .full 1 [chest 1 5108])).invoices.find 4417).map
      (fun v => (v.record.allowance, v.chests.map (·.sample))) = some (500, [true]) := by decide +kernel

/-! ### Actions -/

/-- The four sets of spec/05's example at given counts, vectored from source 1. -/
def tenthChest (n : Nat) : State :=
  runAll
    [.actionSetWrite 1 0 ⟨1, 0, 0, 1, 0, 1, 1, 0, 1⟩, .actionSetWrite 1 1 ⟨1, 3, 0, 500, 1, 1, n, 1, 1⟩,
      .actionSetWrite 1 2 ⟨1, 1, 3, 800, 1, 1, n, 0, 1⟩, .actionSetWrite 1 3 ⟨1, 1, 5, 300, 1, 1, n, 0, 0⟩,
      .vectorSet 1 1 (some 0)] State.reset

/-- spec/05's example: chest 1 runs the chain and only its stencil acts. -/
theorem test_event_first_chest :
    (let s := run (.event 1 ⟨some 1, some 5230, some 301⟩) (tenthChest 10)
     (s.transit, (List.range 4).map fun i => (s.actions.sets[i]?).map (·.count))) =
      ([.stencilJobRequest 0 1 301 5230], [some 1, some 9, some 9, some 9]) := by decide +kernel

/-- spec/05's example: the chest that brings the counts to 0. -/
theorem test_event_tenth_chest :
    (let s := run (.event 1 ⟨some 1, some 5230, some 310⟩) (tenthChest 1)
     (s.transit, s.actions.gates[3], s.actions.gates[5])) =
      ([.stencilJobRequest 0 1 310 5230, .sampleMark 310 500, .noticeOffer (.setExhausted 1 .repeats 1)],
        some ⟨0, 800⟩, some ⟨0, 300⟩) := by decide +kernel

theorem test_gatePulseEnd :
    (run (.gatePulseEnd 3) (State.reset.setGate 3 (some ⟨800, 800⟩))).actions.gates[3] = none := by decide +kernel

theorem test_actionSetWrite_last_set_has_no_chain :
    answer (run (.actionSetWrite 1 31 ⟨1, 2, 7, 0, 0, 1, 1, 0, 1⟩) State.reset) = some (.refused .range) := by decide +kernel

theorem test_actionSetRead : answer (run (.actionSetRead 1 31) State.reset) =
    some (.ok (.actionSet ⟨⟨false, .notice 0, .every, .normal, 1, false, false⟩, false, 1⟩)) := by decide +kernel

theorem test_vectorRead :
    (match answer (run (.vectorRead 1) (State.reset.setGate 3 (some ⟨300, 800⟩))) with
     | some (.ok (.dispatcher _ _ gates)) => gates[3]
     | _ => none) = some 500 := by decide +kernel

/-! ### Stencils -/

/-- Template 1 of spec/06's example as TEMPLATE-LOAD carries it: lines 0, 2 and 4. -/
def templateOne : Template :=
  [[.field .garden 12 false 0, .literal (text " "), .field .grade 6 false 0],
    [.literal (text "NO "), .field .chest 3 true 0, .literal (text " OF "), .field .of 3 false 0],
    [.literal (text "GR "), .field .gross 6 true 2, .literal (text " TR "), .field .tare 5 true 2]]

theorem test_templateLoad_reads_its_bytes :
    answer (run (.templateLoad 1 1 ([19, 0x81, 12, 0, 1, 0x20, 0x82, 6, 0] ++
      [13, 3] ++ text "NO " ++ [0x84, 3, 1, 4] ++ text " OF " ++ [0x85, 3, 0] ++
      [18, 3] ++ text "GR " ++ [0x87, 6, 0x21, 4] ++ text " TR " ++ [0x88, 5, 0x21])) State.reset) =
      some (.ok (.templateLoaded 1 [19, 13, 18])) := by decide +kernel

theorem test_templateLoad_wide_line_refused :
    answer (run (.templateLoad 1 1 [33, 0x81, 32, 0, 1, 0x20]) State.reset) = some (.refused .range) := by decide +kernel

theorem test_templateRead :
    answer (run (.templateRead 1 1) { State.reset with stencils := ⟨State.reset.stencils.templates.set 1 templateOne, State.reset.stencils.heads⟩ }) =
      some (.ok (.template templateOne)) := by decide +kernel

/-- spec/06's example: the composed lines of chest 23. -/
theorem test_compose :
    compose (record .opened 24) ⟨23, 61200, 60010⟩ templateOne =
      [text "MARANGAL EST BOPF  ", text "NO  23 OF 24 ", text "GR  61.20 TR  1.19"] := by decide +kernel

theorem test_stencilJobRequest_duplicate :
    (run (.stencilJobRequest 0 1 5108 4417) (withHead (headOf .streaming (some (inHand [text "AB"] 0 0))))).transit =
      [.stencilStatus 5108 .refused, .noticeOffer (.stencilMissed 0 1 5108 4417 .duplicate)] := by decide +kernel

theorem test_stencilRequest_queues :
    answer (run (.stencilRequest 1 0 1 4417 1) (withHead (headOf .held none) (withInvoice .opened 24 [chest 1 5108]))) =
      some (.ok (.stencilQueued 0 5108 1)) := by decide +kernel

theorem test_jobRemoval :
    (run (.jobRemoval 5109) (withHead { headOf .held none with queue := [job 5109] })).stencils.heads[0].queue = [] := by
  decide +kernel

theorem test_characterSent_ends_the_line :
    (let h := (run (.characterSent 0) (withHead (headOf .streaming (some (inHand [text "AB"] 0 1))))).stencils.heads[0]
     (h.state, h.out, h.ackTimer)) = (.lineWait, [.char 0x42, .endOfLine], some 0) := by decide +kernel

theorem test_lineAcknowledge_ends_the_job :
    (let s := run (.lineAcknowledge 0) (withHead (headOf .lineWait (some (inHand [text "AB"] 0 2))))
     (s.stencils.heads[0].state, s.transit)) =
      (.idle, [.stencilStatus 5108 .lineAcknowledged, .noticeOffer (.stencilDone 0 5108 4417 23)]) := by decide +kernel

theorem test_ackTimer_stops :
    (run (.ackTimerExpiry 0) (withHead (headOf .lineWait (some (inHand [text "AB"] 0 2))))).stencils.heads[0].state =
      .stopped := by decide +kernel

/-- spec/06's example: a fault after seven characters of `NO  23 OF 24 ` leaves six. -/
theorem test_headFault_keeps_the_place :
    (let s := run (.headFault 0) (withHead (headOf .streaming (some (inHand [text "A", text "B", text "NO  23 OF 24 "] 2 7))))
     (s.stencils.heads[0].resume, s.transit)) =
      (.midLine 2 6, [.noticeOffer (.headHeld 0 .streaming (some 5108) (some 4417) (.midLine 2 6)),
        .event 16 ⟨none, some 4417, none⟩]) := by decide +kernel

theorem test_headResume_mid_line :
    answer (run (.headResume 1 0) (withHead (headOf .held (some (inHand [text "AB"] 0 1)) (.midLine 0 1)))) =
      some (.ok (.headState .streaming)) := by decide +kernel

theorem test_headReline_restarts_the_line :
    (run (.headReline 1 0) (withHead (headOf .stopped (some (inHand [text "AB"] 0 2))))).stencils.heads[0].inHand =
      some (inHand [text "AB"] 0 0) := by decide +kernel

theorem test_headSkip : answer (run (.headSkip 1 0) (withHead (headOf .stopped (some (inHand [text "AB"] 0 2))))) =
    some (.ok (.serial 5108)) := by decide +kernel

theorem test_headReset_drops_in_order :
    answer (run (.headReset 1 0) (withHead { headOf .stopped (some (inHand [text "AB"] 0 2)) with queue := [job 5109] })) =
      some (.ok (.serials [5108, 5109])) := by decide +kernel

theorem test_headSet_on : answer (run (.headSet 1 0 0) (withHead (headOf .off none))) = some (.ok (.headState .idle)) := by
  decide +kernel

theorem test_headRead_remaining :
    (match answer (run (.headRead 1 0) (withHead (headOf .held (some (inHand [text "ABC"] 0 1)) (.midLine 0 2)))) with
     | some (.ok (.head r)) => r.inHand.map fun j => (j.position, j.remaining)
     | _ => none) = some (1, 2) := by decide +kernel

/-! ### Windows, sheets and the store -/

theorem test_windowRead_finds_the_lot :
    (match answer (runAll [.windowSet 1 2 ⟨4400, 100, 1200, 1⟩, .windowRead 1 (some 4417)] State.reset) with
     | some (.ok (.windows _ l)) => l
     | _ => none) = some (some (2, 1217)) := by decide +kernel

theorem test_windowSet_unaligned_refused :
    answer (run (.windowSet 1 2 ⟨4410, 100, 1200, 1⟩) State.reset) = some (.refused .range) := by decide +kernel

/-- spec/07's example: with the free point at (0, 26), a sheet of 8 slots goes to page 1. -/
theorem test_sheetRequest_page_change :
    (let s := run (.sheetRequest 4417) (withSheets [] 0 26 [] (withInvoice .closing 40 (.replicate 40 (chest 1 1))))
     (s.store.freePage, s.store.freeSlot, s.store.sheets.map fun h => (h.page, h.first))) = (1, 8, [(1, 0)]) := by
  decide +kernel

/-- spec/07's example: past page 23 stands page 0, in use, so the invoice waits. -/
theorem test_sheetRequest_waits :
    (let s := run (.sheetRequest 4417)
       (withSheets [sheet 9 56 0 18 true] 23 20 [] (withInvoice .closing 120 (.replicate 120 (chest 1 1))))
     (s.store.waiting, s.transit)) = ([4417], [.noticeOffer (.invoiceWaiting 4417 18 1)]) := by decide +kernel

/-- spec/07's small sheet: its totals and giveaway. -/
theorem test_sheet_head_figures :
    (let v : Invoice := ⟨{ record .closing 3 with declaredNet := 40000 },
       [⟨1, 1, 1, 41220, 40020, .marked, false⟩, ⟨2, 2, 1, 41240, 40040, .marked, false⟩,
         ⟨3, 3, 3, 41200, 40000, .pending, false⟩]⟩
     let h := sheetHead v none
     (h.totalDeclared, h.totalGross, h.totalActual, h.giveaway)) = (120000, 123660, 120060, 60) := by decide +kernel

/-- The last entry ends the build. -/
theorem test_chestEntryWritten_ends_the_sheet :
    (let s := runAll [.sheetRequest 4417, .chestEntryWritten] (withInvoice .closing 1 [chest 1 5108])
     (s.transit, (s.invoices.find 4417).map (·.record.state))) =
      ([.event 13 ⟨none, some 4417, none⟩, .noticeOffer (.invoiceSheeted 4417 0 0 4 none)], some .sheeted) := by decide +kernel

theorem test_sheetFetch_of_a_waiting_sheet :
    answer (run (.sheetFetch 1 4417 0) (withInvoice .closing 1 [chest 1 5108])) = some (.pending 0) := by decide +kernel

theorem test_sheetRelease_frees_a_page :
    (let s := runAll [.sheetRequest 4417, .chestEntryWritten, .sheetRelease 1 4417] (withInvoice .closing 1 [chest 1 5108])
     (answer s, s.invoices.invoices)) = (some (.ok (.released 4417 0 0 4)), []) := by decide +kernel

theorem test_sheetRelease_oldest_only :
    answer (run (.sheetRelease 1 8) (withSheets [sheet 7 1 0 0 true, sheet 8 1 0 4 true] 0 8 [])) =
      some (.refused .state) := by decide +kernel

theorem test_storeRead_list :
    answer (run (.storeRead 1 1) (withSheets [sheet 7 1 0 0 true, sheet 8 1 0 4 false] 0 8 [])) =
      some (.ok (.storeList 1 [⟨7, 0, 0, 4, true⟩, ⟨8, 0, 4, 4, false⟩])) := by decide +kernel

/-! ### The clock -/

/-- The part with a running clock. -/
def withClock (r : ClockReading) : State := { State.reset with clock := ⟨some r, 999⟩ }

/-- spec/08's example: 23:59:48 on 28 February 2024 rounds to 29 February. -/
theorem test_clockRound_leap_day :
    (let s := run (.clockRound 1) (withClock ⟨⟨2024, 2, 28⟩, 23, 59, 48⟩)
     (s.clock, s.transit)) = (⟨some ⟨⟨2024, 2, 29⟩, 0, 0, 0⟩, 0⟩,
        [.event 19 ⟨none, none, none⟩, .noticeOffer (.dayRollover ⟨2024, 2, 29⟩)]) := by decide +kernel

/-- spec/08's example: at 23:59:29 the round goes back to 23:59:00. -/
theorem test_clockRound_down :
    answer (run (.clockRound 1) (withClock ⟨⟨2024, 2, 28⟩, 23, 59, 29⟩)) =
      some (.ok (.clockRounded ⟨⟨2024, 2, 28⟩, 23, 59, 0⟩)) := by decide +kernel

/-- R167 lists the reading alone: a body of 8 bytes, the kind and the form before the six of the reading. -/
theorem test_clockRound_reply_bytes :
    0x31 :: formBytes (.ok (.clockRounded ⟨⟨2024, 2, 28⟩, 23, 59, 0⟩)) = [0x31, 0, 28, 2, 24, 23, 59, 0] := by
  decide +kernel

/-- R95: part 1 lists its chests, and the accepted count stands behind them. -/
theorem test_chest_part_bytes :
    okBytes (.chests 24 [chest 17 5102]) =
      [1, 17, 0xEE, 0x13, 2, 0x10, 0xEF, 0, 0, 0x6A, 0xEA, 0, 0, 0, 0, 24] := by decide +kernel

theorem test_secondAdvance_after_2099 :
    (run .secondAdvance (withClock ⟨⟨2099, 12, 31⟩, 23, 59, 59⟩)).clock.reading = some ⟨⟨2000, 1, 1⟩, 0, 0, 0⟩ := by
  decide +kernel

theorem test_clockSet_refuses_30_february :
    answer (run (.clockSet 1 ⟨⟨2024, 2, 30⟩, 0, 0, 0⟩) State.reset) = some (.refused .range) := by decide +kernel

theorem test_clockRead_unset : answer (run (.clockRead 1) State.reset) = some (.ok (.clock none)) := by decide +kernel

/-! ### The link and the settings store -/

theorem test_status_clears_the_flags :
    (let s := run (.status 1) { State.reset with link := { State.reset.link with linkError := true } }
     (match answer s with | some (.ok (.status r)) => some (r.linkError, r.defaulted) | _ => none, s.link.linkError)) =
      (some (true, true), false) := by decide +kernel

theorem test_noticeMask : answer (run (.noticeMask 1 #v[1, 1, 1, 0, 1, 1, 1]) State.reset) =
    some (.ok (.mask #v[true, true, true, false, true, true, true])) := by decide +kernel

theorem test_linkSpeed_keeps_the_line_speed :
    answer (run (.linkSpeed 1 19200) State.reset) = some (.ok (.speeds 19200 115200)) ∧
      answer (run (.linkSpeed 1 9600) State.reset) = some (.refused .range) := by decide +kernel

/-- The bytes of a STATUS request, one by one: with the last its request is taken, and its reply is being sent. -/
theorem test_bytes_become_a_request :
    (let s := runAll ((requestBytes ⟨7, 0x33, []⟩).map fun b => .byteReceived (dataBits b) true) State.reset
     ((match s.link.sending with | some (.reply r) => some (r.tag, r.kind) | _ => none), s.transit, s.link.receiver,
       s.link.holding)) = (some (7, 0x33), [], .hunting, []) := by decide +kernel

/-- R171: 0x35 travels as start bit 0, then 1 0 1 0 1 1 0 0, then stop bit 1. -/
theorem test_character_bits :
    ((characterBits 0x35).map fun b => if b then 1 else 0) = [0, 1, 0, 1, 0, 1, 1, 0, 0, 1] ∧
      dataByte #v[true, false, true, false, true, true, false, false] = 0x35 := by decide +kernel

/-- R173: the flag is set with the faulty byte, so a STATUS behind it shows it. -/
theorem test_byte_without_stop_bit_ends_the_frame :
    (let s := runAll [.byteReceived (dataBits 0xA5) true, .byteReceived (dataBits 2) false] State.reset
     (s.link.linkError, s.link.receiver,
       match answer (run (.frameReceived ⟨7, 0x33, []⟩) s) with | some (.ok (.status r)) => some r.linkError | _ => none)) =
      (true, .hunting, some true) := by decide +kernel

/-- R175, R178: a read shows the state when it is dispatched; a sample that follows is not in it. -/
theorem test_frameReceived_is_taken_at_once :
    (match answer (runAll [.frameReceived ⟨7, 0x06, [2]⟩, .sampleWord 2 (word 4000)] (withStation 2 (stationOf .chest .empty))) with
     | some (.ok (.station r)) => some (r.q, r.filterCount)
     | _ => none) = some (0, 0) := by decide +kernel

/-- R174, R175: the first reply is being sent, the second waits, and three frames stand in the holding behind it. -/
theorem test_frameReceived_sixth_is_busy :
    (let s := runAll (.replicate 6 (.frameReceived ⟨7, 0x33, []⟩)) State.reset
     (s.link.holding.length, s.link.replies.map (·.busy), answer s)) = (3, [false, true], some (.refused .busy)) := by
  decide +kernel

/-- R176: a frame whose body does not fit its kind is answered by the link controller. -/
theorem test_frameReceived_wrong_length :
    answer (run (.frameReceived ⟨7, 0x33, [0]⟩) State.reset) = some (.refused .length) := by decide +kernel

theorem test_badFrame : (run .badFrame State.reset).link.linkError = true := by decide +kernel

theorem test_frameGapTimeout :
    (runAll [.byteReceived (dataBits 0xA5) true, .frameGapTimeout] State.reset).link.receiver = .hunting := by
  decide +kernel

theorem test_noticeOffer_is_numbered :
    (runAll [.noticeOffer (.signalLost 0), .noticeOffer (.signalLost 1)] State.reset).link.notices =
      [(1, .signalLost 1)] := by decide +kernel

theorem test_frameSent_sends_the_next :
    (runAll [.noticeOffer (.signalLost 0), .noticeOffer (.signalLost 1), .frameSent] State.reset).link.sending =
      some (.notice 1 (.signalLost 1)) := by decide +kernel

theorem test_captureWaitTimeout :
    (let s := run (.captureWaitTimeout 0) (withSlot (.waiting (.capture 3) none (some 30000)))
     (s.link.slots[0], s.transit)) =
      (.ready (.capture 3) none .timeout none 0, [.noticeOffer (.slotReady 0 (.capture 3) .timeout)]) := by decide +kernel

theorem test_slotDiscard :
    (run (.slotDiscard 0) (withSlot (.ready (.capture 3) none .timeout none 60000))).link.slots[0] = .free := by
  decide +kernel

/-- A first save goes to place 0 under generation 1, the next to place 1 under generation 2. -/
theorem test_saves_alternate :
    (let s := runAll [.saveSettings 1, .saveWriteEnd true, .frameSent, .saveSettings 2, .saveWriteEnd true] State.reset
     (answer s, s.settings.defaulted)) = (some (.ok (.saved 2 1)), false) := by decide +kernel

theorem test_failed_save :
    (let s := runAll [.saveSettings 1, .saveWriteEnd false] State.reset
     (answer s, s.settings.places[0])) = (some (.refused .storeFail), .invalid) := by decide +kernel

theorem test_warm_restart_keeps_the_clock :
    (runAll [.restart 1 0, .frameSent] (withClock ⟨⟨2024, 2, 28⟩, 23, 59, 48⟩)).clock.reading =
      some ⟨⟨2024, 2, 28⟩, 23, 59, 48⟩ := by decide +kernel

/-- R170: a midnight due when the warm restart takes effect advances the date, and its event and notice are lost. -/
theorem test_warm_restart_loses_a_due_midnight :
    (let s := runAll [.restart 1 0, .frameSent] { State.reset with clock := ⟨some ⟨⟨2024, 2, 28⟩, 23, 59, 59⟩, 1000⟩ }
     (s.clock, s.transit, s.link.notices)) = (⟨some ⟨⟨2024, 2, 29⟩, 0, 0, 0⟩, 0⟩, [], []) := by decide +kernel

/-- R191: a frame that arrived before the warm restart stood in the holding, and goes without a reply. -/
theorem test_warm_restart_empties_the_holding :
    (let s := runAll [.restart 1 0, .frameReceived ⟨7, 0x33, []⟩, .frameSent] State.reset
     (s.link.holding, s.link.sending, s.link.replies)) = ([], none, []) := by decide +kernel

theorem test_cold_restart_unsets_the_clock :
    (runAll [.restart 1 1, .frameSent] (withClock ⟨⟨2024, 2, 28⟩, 23, 59, 48⟩)).clock.reading = none := by decide +kernel

theorem test_power_lost_in_a_save :
    (let s := runAll [.saveSettings 1, .powerLoss, .powerOn] State.reset
     (s.settings.places[0], s.settings.current, s.settings.defaulted, s.powered)) = (.invalid, none, true, true) := by
  decide +kernel

theorem test_powerOn_of_a_new_part : run .powerOn State.reset = State.reset := by decide +kernel

/-! ### Witnesses: for each statement, states and operands that meet its hypotheses, clause by clause -/

theorem witness_StepRunsTheFrontCommand :
    (let s : State := { State.reset with powered := false }
     s.pending = [] ∧ s.powered = false) ∧
    (let s := State.reset.notify (.signalLost 0)
     s.pending = [] ∧ s.powered = true ∧ s.transit = .noticeOffer (.signalLost 0) :: []) ∧
    (let s := State.reset.setGate 7 (some ⟨50, 50⟩)
     s.transit = [] ∧ TimerOut s (.gatePulseEnd 7)) ∧
    TimerOut (withStation 3 { stationOf .feed .active with signalTimer := some 250 }) (.signalTimerExpiry 3) ∧
    TimerOut (State.reset.setLink { State.reset.link with receiver := .assembling [2] 21 }) .frameGapTimeout ∧
    (State.reset.pending = [] ∧ State.reset.powered = true ∧ State.reset.transit = [] ∧ ∀ c, ¬ TimerOut State.reset c) := by
  refine ⟨by decide +kernel, by decide +kernel, ⟨rfl, .pulse 7 ⟨50, 50⟩ rfl (by decide)⟩, .signal 3 250 rfl (by decide),
    .gap [2] 21 rfl (by decide), rfl, rfl, rfl, fun c h => ?_⟩
  have stations : ∀ i : Fin 4, State.reset.stations[i].signalTimer = none := by decide +kernel
  have heads : ∀ i : Fin 2, State.reset.stencils.heads[i].ackTimer = none := by decide +kernel
  have slots : ∀ i : Fin 4, State.reset.link.slots[i] = .free := by decide +kernel
  have gates : ∀ i : Fin 8, State.reset.actions.gates[i] = none := by decide +kernel
  cases h with
  | signal i n h => cases (stations i).symm.trans h
  | stall n h => cases h
  | acknowledge i n _ h => cases (heads i).symm.trans h
  | gap bytes n h => cases h
  | wait i j part n h => cases (slots i).symm.trans h
  | discard i key part o a n h => cases (slots i).symm.trans h
  | pulse i p h => cases (gates i).symm.trans h
  | second h => exact h rfl

theorem witness_ExecAnswersAndKeepsTheQueue :
    ({ State.reset with powered := false } : State).powered = false ∧ Instr.secondAdvance ≠ .powerOn := by decide

theorem witness_EveryRequestIsAnsweredOnce :
    (Instr.stationZero 1 0).requestKind = some 0x04 ∧ (0x04 : Byte) ≠ 0x36 ∧ (0x04 : Byte) ≠ 0x37 ∧
      State.reset.powered = true := by decide

theorem witness_NumbersOutOfRangeAreRefused :
    State.reset.powered = true ∧ 4 ≤ 4 ∧ 8 ≤ 8 ∧ 32 ≤ 32 ∧ 2 ≤ 2 ∧ 65535 < 65536 ∧ 99999 < 100000 ∧
    (∀ i : Fin 4, State.reset.link.slots[i].key ≠ some (.fetch 0)) ∧
    (10 * 20 ≤ 300001 ∧ 300000 < 300001 ∧ (199 : Nat) < 10 * 20 ∧ (3 : Nat) ∉ [1, 2, 4, 8, 16, 32]) ∧
    validText 12 (text "MARANGAL_EST") = false ∧ validDate ⟨2025, 2, 29⟩ = false ∧
    (let f : InvAmendFields := ⟨⟨1, text "MARANGAL_EST"⟩, ⟨2, text "BOPF  "⟩, ⟨1, 10000⟩, ⟨1, 100000⟩, ⟨1, 2⟩⟩
     f.garden.given = 1 ∧ validText 12 f.garden.value = false ∧ 2 ≤ f.grade.given ∧ 9999 < f.ceiling.value ∧
       99999 < f.allowance.value ∧ 2 ≤ f.autoClose.value) := by decide +kernel

theorem witness_RequestsRoundTrip :
    (Instr.stationCal 3 255 (-8388608) 65535).wellFormed = true ∧
      (encodeRequest (.stationCal 3 255 (-8388608) 65535)).isSome = true := by decide

theorem witness_BytesAreReadAndSent :
    (⟨0, 0x22, .replicate 248 0x20⟩ : Frame).body.length ≤ 248 ∧
    ((1 : Byte).toNat < 2 ∧ 250 < (251 : Byte).toNat) ∧
    ([0, 0] : List Byte) ≠ crcBytes [2, 7, 0x33] ∧
    (16777215 < 256 ^ 3 ∧ -(256 ^ 2 : Int) ≤ 2 * -32768 ∧ 2 * 32767 < (256 ^ 2 : Int)) ∧
    ((Reason.length, (1 : Byte)) ∈ [(Reason.length, (1 : Byte))]) ∧
    ((∀ n ∈ some 99999, n ≤ 99999) ∧ (-2147483648 : Int) ≤ -2147483648 ∧ (∀ n ∈ some 120, n ≤ 120) ∧
      (∀ n ∈ some 65535, n ≤ 65535) ∧ ∀ n ∈ (none : Option Int), -2147483648 ≤ n ∧ n < 2147483648) ∧
    (2000 ≤ 2000 ∧ 2255 ≤ 2255) ∧
    (let h := sheetHead ⟨record .closing 1, [chest 1 5108]⟩ none
     h.number ≤ 99999 ∧ h.garden.length = 12 ∧ h.grade.length = 6 ∧ h.packages ≤ 120 ∧ h.declaredNet ≤ 100000 ∧
       h.tare ≤ 65535 ∧ h.totalDeclared < 4294967296 ∧
       (∀ z ∈ [h.totalGross, h.totalActual, h.giveaway], -2147483648 ≤ z ∧ z < 2147483648) ∧ h.allowance ≤ 99999 ∧
       2000 ≤ h.date.year ∧ h.date.year ≤ 2099 ∧ h.date.month ≤ 12 ∧ h.date.day ≤ 31 ∧ (∀ n ∈ h.lot, n ≤ 99999) ∧
       ∀ n ∈ h.bulkRun, n ≤ 65535) ∧
    ((List.replicate 40 (⟨2, -35, .marked, true⟩ : SheetEntry)).length = 40 ∧ (-32768 : Int) ≤ -35) ∧
    ((List.replicate 16 (chest 120 65535)).length ≤ 16 ∧ (chest 120 65535).number ≤ 120 ∧ (chest 120 65535).serial ≤ 65535 ∧
      ∀ z ∈ [(chest 120 65535).gross, (chest 120 65535).net], -2147483648 ≤ z ∧ z < 2147483648) := by decide +kernel

theorem witness_QuantizedGross : 0 < 1 ∧ 2 * ((-30 : Int) - quantize 20 (-30)).natAbs = 20 := by decide

/-- Settings with another role or another division. -/
def otherRole : StationSettings := { settingsOf .tare with cls := 3 }

/-- Settings with a lower capacity, so a limit of 40 g. -/
def lowCapacity : StationSettings := { settingsOf .chest with c := 2000 }

theorem witness_ChangesWithoutANewRole :
    lowCapacity.zeroLimit < (-81 : Int).natAbs ∧
    (let s := withStation 2 { stationOf .chest .empty with zt := 81 }
     s.powered = true ∧ s.stations[2].settings.inRange = true ∧ lowCapacity.inRange = true ∧
       lowCapacity.role = s.stations[2].settings.role ∧ measuringDiffers s.stations[2].settings lowCapacity = true ∧
       s.stations[2].state = .empty ∧ lowCapacity.zeroLimit < s.stations[2].zt.natAbs) ∧
    (let s := withStation 2 { stationOf .chest .empty with zt := -80 }
     ((s.stations[2].zt.natAbs : Int) ≤ lowCapacity.zeroLimit ∧ s.stations[2].state = .empty)) ∧
    (let s := withStation 2 (stationOf .chest .noSignal)
     s.stations[2].state = .noSignal ∧ measuringDiffers s.stations[2].settings lowCapacity = true) ∧
    (let s := withStation 2 (stationOf .chest .loaded)
     s.stations[2].state ≠ .off ∧ s.stations[2].state ≠ .noSignal ∧ s.stations[2].state ≠ .empty ∧
       s.stations[2].state ≠ .active) := by decide +kernel

theorem witness_RoleChange :
    (let s := withStation 2 (stationOf .chest .empty)
     s.powered = true ∧ otherRole.inRange = true ∧ otherRole.role ≠ s.stations[2].settings.role ∧
       s.stations[2].state = .empty ∧ s.invoices.queues[2] = [] ∧ ¬ otherRole.role = .feed) ∧
    (let s := (withStation 2 (stationOf .chest .empty)).setQueue 2 [4417]
     s.stations[2].settings.role = .chest ∧ s.invoices.queues[2] ≠ []) ∧
    (let s := (withStation 2 (stationOf .chest .empty)).setStation 3 (stationOf .feed .active)
     (settingsOf .feed).inRange = true ∧ s.stations[2].state = .empty ∧ (3 : Fin 4) ≠ 2 ∧
       s.stations[3].settings.role = .feed) ∧
    (let s := withSlot (.waiting (.capture 2) none (some 30000)) (withStation 2 (stationOf .tare .noSignal))
     s.stations[2].state = .noSignal ∧ (settingsOf .off).role = .off ∧ (settingsOf .off).inRange = true ∧
       s.link.slots[0] = .waiting (.capture 2) none (some 30000) ∧
       (∀ i j : Fin 4, i ≠ j → s.link.slots[i].key ≠ none → s.link.slots[i].key ≠ s.link.slots[j].key)) ∧
    (let s := withStation 3 (stationOf .feed .active)
     s.stations[3].state = .active ∧ (∀ r ∈ s.bulking.records, r.state.isActive = false) ∧
       ({ settingsOf .off with c := 2000 } : StationSettings).inRange = true ∧ s.stations[3].settings.role = .feed) := by
  decide +kernel

theorem witness_CalibrationSetsZeroAndSpan :
    (let s := withStation 2 (stationOf .chest .empty)
     s.powered = true ∧ 3 < 4 ∧ ¬ ((1 : Nat) ≤ 0 ∧ (0 : Nat) ≤ 65535) ∧ (-8388608 : Int) ≤ -8388608 ∧ 65535 ≤ 65535 ∧
       s.stations[2].state = .empty) ∧
    (withStation 2 (stationOf .chest .noSignal)).stations[2].state = .noSignal ∧
      (withStation 2 (stationOf .chest .decided)).stations[2].state = .decided := by decide +kernel

theorem witness_StationsAreRestartedZeroedAndRead :
    (withStation 2 { stationOf .chest .empty with settled := true }).powered = true ∧
      (withStation 2 { stationOf .chest .empty with settled := true, zt := 6000 }).stations[2].settings.zeroLimit = 6000 := by
  decide +kernel

theorem witness_CaptureIsAnsweredOrKeepsASlot :
    (let s := withSlot (.waiting (.capture 2) none (some 30000))
     s.powered = true ∧ s.link.slots[0] = .waiting (.capture 2) none (some 30000) ∧
       (∀ i j : Fin 4, i ≠ j → s.link.slots[i].key ≠ none → s.link.slots[i].key ≠ s.link.slots[j].key)) ∧
    (let s := withSlot (.ready (.capture 2) none .gone none 60000)
     (s.link.slots[0] = .ready (.capture 2) none .gone none 60000) ∧
       (∀ i j : Fin 4, i ≠ j → s.link.slots[i].key ≠ none → s.link.slots[i].key ≠ s.link.slots[j].key)) ∧
    (∀ k : Fin 4, State.reset.link.slots[k].key ≠ some (.capture 2)) ∧ State.reset.stations[2].state = .off ∧
    (let s := withStation 2 { stationOf .chest .overload with settled := true }
     (∀ k : Fin 4, s.link.slots[k].key ≠ some (.capture 2)) ∧ s.stations[2].settled = true) ∧
    (let s := withSlot (.waiting (.capture 1) none (some 0)) (withStation 2 (stationOf .chest .loaded))
     s.stations[2].settled = false ∧ s.link.slots[1] = .free ∧ (∀ j : Fin 4, j < 1 → s.link.slots[j] ≠ .free)) ∧
    (let s := withStation 2 (stationOf .chest .loaded)
     let s : State := { s with link := { s.link with slots := #v[.waiting (.fetch 1) (some 0) none,
       .waiting (.fetch 2) (some 0) none, .waiting (.fetch 3) (some 0) none, .waiting (.capture 3) none (some 0)] } }
     (∀ k : Fin 4, s.link.slots[k] ≠ .free) ∧ ∀ k : Fin 4, s.link.slots[k].key ≠ some (.capture 2)) := by decide +kernel

theorem witness_SampleWordJoinsTheFilter :
    (let w := { word 5 with parityHigh := !(word 5).parityHigh }
     sampleValid w = false) ∧ sampleValid (word (-8388608)) = true ∧
    (let s := withStation 2 (stationOf .chest .noSignal)
     s.powered = true ∧ s.stations[2].state = .noSignal ∧ s.stations[2].settings.autoRestart = false) ∧
    (let s := withStation 2 { stationOf .chest .noSignal with settings := { settingsOf .chest with autoRestart := true } }
     s.stations[2].state ≠ .off ∧ s.stations[2].settings.autoRestart = true) ∧
    (withStation 2 (stationOf .tare .empty)).stations[2].state ≠ .off ∧
    (1 ≤ 32 ∧ (List.replicate 32 (-8388608 : Int)).length = 32 ∧ (List.replicate 31 (-8388608 : Int)).length < 32) ∧
    ({ stationOf .chest .empty with filter := [-3, -2] } : Station).filter ≠ [] := by decide +kernel

/-- R10: an average of -2.5 gives -3. -/
theorem test_filter_rounds_away_from_zero :
    ({ stationOf .chest .empty with filter := [-3, -2] } : Station).filtered = -3 := by decide

theorem witness_FeedSampleDeliversAReading :
    (let s := withStation 3 { stationOf .feed .active with settle := [150180] }
     s.powered = true ∧ sampleValid (word 300360) = true ∧ s.stations[3].settings.role = .feed ∧
       s.stations[3].state = .active ∧
       (s.stations[3].sample (word 300360).count.toInt).settings.outOfRange
         (s.stations[3].sample (word 300360).count.toInt).q = false ∧
       (s.stations[3].sample (word 300360).count.toInt).q = 150180) ∧
    ([150180, 150160] : List Int) ≠ [] := by decide +kernel

/-- A station after a sample of `grams` (beyond its Zt), the settle history it comes to, and whether that is settled. -/
def sampled (st : Station) (grams : Int) : Station × Bool :=
  let x := st.sample (word (2 * grams)).count.toInt
  let h := pushNewest x.settings.m x.settle x.q
  (x, decide (h.length = x.settings.m ∧ spread h ≤ ((x.settings.b * x.settings.d : Nat) : Int)))

theorem witness_LoadCycleFollowsItsTable :
    ([Role.chest, .tare].all fun role =>
      let s := withStation 2 (stationOf role .empty)
      let at' (state : StationState) (settle : List Int) : Station := { stationOf role state with settle := settle }
      let sound (p : Station × Bool) : Bool := !p.1.settings.outOfRange p.1.q
      let limit := 150000 * 4 / 100
      s.powered && sampleValid (word 4000) && s.stations[2].settings.role == role &&
        -- STARTING: not settled; settled below L; settled at L
        (let p := sampled (at' .starting []) 100; sound p && !p.2) &&
        (let p := sampled (at' .starting [1980]) 1980; sound p && p.2 && p.1.q == 1980) &&
        (let p := sampled (at' .starting [2000]) 2000; sound p && p.2 && p.1.q == p.1.settings.l) &&
        -- EMPTY: entering settled with q at and past two divisions, and with Zt at and past its limit
        (let p := sampled { at' .empty [40] with zt := 5960 } 6000
         sound p && p.2 && !p.1.settled && p.1.q == 40 && (p.1.zt + p.1.grams).natAbs == limit) &&
        (let p := sampled { at' .empty [40] with zt := 5980 } 6020
         sound p && p.2 && p.1.q == 40 && decide (limit < (p.1.zt + p.1.grams).natAbs)) &&
        (let p := sampled (at' .empty [60]) 60; sound p && p.2 && p.1.q == 60 && p.1.settings.d == 20) &&
        (let p := sampled { at' .empty [40] with settled := true } 40; sound p && p.2 && p.1.settled) &&
        (let p := sampled (at' .empty [2000]) 2000; sound p && p.2 && p.1.outstanding == none) &&
        (let p := sampled { at' .empty [2000] with outstanding := some (.append 1 1 1) } 2000; p.2 && p.1.outstanding != none) &&
        -- LOADED and DECIDED at L and one division below
        (let p := sampled (at' .loaded [1980]) 1980; sound p && decide (p.1.q < p.1.settings.l)) &&
        (let p := sampled (at' .loaded []) 2000; sound p && !p.2 && p.1.q == p.1.settings.l) &&
        (let p := sampled (at' .decided [1980]) 1980; sound p && decide (p.1.q < p.1.settings.l)) &&
        (let p := sampled (at' .decided [61200]) 61200; sound p && p.2 && p.1.decision.outcome == .none)) = true ∧
    ([DecisionOutcome.light, .heavy].all fun o =>
      let p := sampled { stationOf .chest .decided with
        settle := [61200], decision := ⟨o, some 4417, some 59000, some 57810, none, none⟩ } 61200
      p.2 && !p.1.settled && p.1.decision.outcome == o) = true ∧
    ([(61240, true), (61220, false)].all fun g =>
      let p := sampled { stationOf .chest .decided with
        settle := [61220], decision := ⟨.accepted, some 4417, some 61200, some 60010, some 23, some 5108⟩ } g.1
      p.2 && !p.1.disturbed && p.1.decision == ⟨.accepted, some 4417, some 61200, some 60010, some 23, some 5108⟩ &&
        decide (p.1.settings.b * p.1.settings.d < (p.1.q - 61200).natAbs) == g.2) = true := by decide +kernel

theorem witness_StationsLeaveTheirCycle :
    (let s := withStation 3 (stationOf .feed .active)
     let st := s.stations[3].sample (word 300400).count.toInt
     s.powered = true ∧ sampleValid (word 300400) = true ∧ s.stations[3].state = .active ∧
       ((st.settings.c : Int) + 9 * st.settings.d < st.q)) ∧
    (let s := withStation 2 (stationOf .chest .starting)
     let st := s.stations[2].sample (word (-840)).count.toInt
     st.q < -(20 * (st.settings.d : Int)) ∧ s.stations[2].state = .starting) ∧
    ([(300360, false), (300400, true), (-800, false), (-840, true)].all fun p =>
      let s := withStation 2 { stationOf .chest .overload with overloadReturn := true, outOfRange := true }
      let st := s.stations[2].sample (word p.1).count.toInt
      s.stations[2].state == .overload &&
        decide ((st.settings.c : Int) + 9 * st.settings.d < st.q ∨ st.q < -(20 * (st.settings.d : Int))) == p.2) = true ∧
    (let s := withStation 3 { stationOf .feed .noSignal with settings := { settingsOf .feed with autoRestart := true } }
     s.stations[3].state = .noSignal ∧ s.stations[3].settings.role ≠ .off ∧ s.stations[3].settings.autoRestart = true) ∧
    ¬ ((withStation 3 (stationOf .feed .active)).stations[3].state = .off ∨
      (withStation 3 (stationOf .feed .active)).stations[3].state = .noSignal) := by decide +kernel

theorem witness_ChestDecisionComparesTheNet :
    (withStation 2 (stationOf .chest .loaded)).invoices.queues[2] = [] ∧
    (let s := (withInvoice .opened 24 []).setQueue 2 [4417]
     s.invoices.queues[2] = [4417] ∧ s.invoices.find 4417 = some ⟨record .opened 24, []⟩ ∧
       (61180 : Int) - 1190 < 60000 - 0 ∧ (60000 : Int) + 3 * 20 < 61260 - 1190 ∧ (60000 : Int) ≤ 61250 - 1190 ∧
       (61250 : Int) - 1190 ≤ 60000 + 3 * 20) := by decide +kernel

theorem witness_AnswersAreRecorded :
    (withStation 2 { stationOf .chest .noSignal with outstanding := some (.append 4417 61240 60050) }).stations[2].outstanding =
        some (.append 4417 61240 60050) ∧
      (withStation 2 { stationOf .tare .decided with outstanding := some (.sample 5 1270) }).stations[2].outstanding =
        some (.sample 5 1270) ∧ State.reset.powered = true := by decide +kernel

theorem witness_TareSamplesAndTareValue :
    (let p : PackType := ⟨text "PLYWD 40", 1200, 60, .replicate 10 1200⟩
     let s := State.reset.setPackType 5 p
     s.powered = true ∧ s.packs.types[5] = p ∧ p.tares.length = 10 ∧ p.tares ≠ [] ∧
       (1200 : Int) - 60 ≤ 1140 ∧ (1260 : Int) ≤ 1200 + 60 ∧ ¬ ((1261 : Int) ≤ 1200 + 60)) ∧
      (⟨text "PLYWD 40", 1200, 60, [1200, 1210]⟩ : PackType).tares.sum = 2410 ∧
      State.reset.packs.types[0].tares = [] ∧ State.reset.packs.types[0].tares.length < 10 := by decide +kernel

theorem witness_TypesAndClassesAreSetWhole : State.reset.powered = true ∧ validText 8 (text "PLYWD 40") = true := by
  decide +kernel

theorem witness_TareListClearEmptiesTheList : State.reset.powered = true ∧ 7 < 8 := by decide

/-- The components of spec/03's example as BULK-DEFINE carries them. -/
def blendFields : List ComponentFields :=
  [⟨text "BATCH 0712", 400⟩, ⟨text "BATCH 0715", 350⟩, ⟨text "BATCH 0718", 250⟩]

theorem witness_BulkDefineMakesARecord :
    State.reset.powered = true ∧
    (10000 ≤ 10000 ∧ blendFields.length = 3 ∧
      (∀ c ∈ blendFields, 1 ≤ c.fraction ∧ c.fraction ≤ 1000 ∧ validText 10 c.label = true) ∧
      (blendFields.map (·.fraction)).sum = 1000) ∧
    State.reset.bulking.records.length < 4 ∧ 1 ≤ State.reset.bulking.nextRun ∧ 2 ≠ blendFields.length ∧
    4 ≤ ({ State.reset.bulking with records := .replicate 4 (blendRun .defined none []) } : Bulking).records.length ∧
    (let b := { State.reset.bulking with
       records := [{ blendRun .defined none [] with run := 1 }, { blendRun .defined none [] with run := 2 }], nextRun := 65535 }
     b.records.length < 4 ∧ 1 ≤ b.nextRun ∧ b.nextRun ≤ 65535) ∧
    ¬ (10000 ≤ 9999) := by decide +kernel

theorem witness_RunsAreArmed :
    (let s := withRun (blendRun .defined none (blend .pending .pending .pending))
     s.powered = true ∧ s.bulking.find 37 = some (blendRun .defined none (blend .pending .pending .pending)) ∧
       (∀ k ∈ s.bulking.records, k.state.isActive = false) ∧ feedIsActive s = true ∧ s.bulking.find 65535 = none ∧
       s.stations[3].settings.role = .feed ∧ ∀ j : Fin 4, j ≠ 3 → s.stations[j].settings.role ≠ .feed) ∧
    (∀ i : Fin 4, State.reset.stations[i].settings.role ≠ .feed) ∧
    (let r := blendRun .between (some 0) (blend .done .pending .pending)
     (withRun r).bulking.find 37 = some r ∧ r.state = .between ∧
       r.components[1]? = some ⟨text "BATCH 0715", 350, 210000, 0, .pending⟩ ∧ r.components[0]?.map (·.state) = some .done) ∧
    (let r := blendRun .between (some 2) (blend .done .short .done)
     (withRun r).bulking.find 37 = some r ∧ r.state = .between ∧ ∀ c ∈ r.components, c.state ≠ .pending) ∧
    (let r := blendRun .held (some 0) (blend .armed .pending .pending)
     (withRun r).bulking.find 37 = some r ∧ r.state = .held) ∧
    (blendRun .stalled (some 0) []).state = .stalled ∧ (blendRun .settling (some 0) []).state ≠ .held := by decide +kernel

/-- Run 37 feeding component 0 from 18,400 g. -/
def feedingRun : BulkRecord :=
  { blendRun .feeding (some 0) (blend .feeding .pending .pending) with start := some 18400 }

theorem witness_HoldsAndStallsCarryTheGain :
    (let s := withRun feedingRun true
     s.powered = true ∧ s.bulking.find 37 = some feedingRun ∧ s.bulking.active = some feedingRun ∧
       feedingRun.active = some 0 ∧ feedingRun.components[0]? = some ⟨text "BATCH 0712", 400, 240000, 0, .feeding⟩ ∧
       s.bulking.lastReading = some ⟨3, 20, 18400⟩ ∧ feedingRun.start = some 18400 ∧ s.bulking.stallTimer.isSome = true ∧
       s.bulking.find 65535 = none ∧ s.bulking.find 1 = none) ∧
    (let r := blendRun .defined none (blend .pending .pending .pending)
     (withRun r).bulking.find 37 = some r ∧ r.state ≠ .feeding ∧ r.state ≠ .armed) ∧
    (let r := blendRun .armed (some 0) (blend .armed .pending .pending)
     (withRun r).bulking.find 37 = some r ∧ r.state = .armed) ∧
    (let r := { feedingRun with state := .settling }
     (withRun r).bulking.active = some r ∧ r.state = .settling ∧ r.start = some 18400) ∧
    ([RunState.armed, .between, .held, .stalled].all fun st =>
      let r := blendRun st (some 0) (blend .armed .pending .pending)
      (withRun r).bulking.active == some r && r.state != .feeding && r.state != .settling && r.start == none) = true ∧
    (withRun (blendRun .held (some 0) [])).bulking.stallTimer = none ∧
    State.reset.bulking.active = none := by decide +kernel

theorem witness_BulkAbortEndsTheRun :
    (withRun feedingRun true).bulking.find 37 = some feedingRun ∧ feedingRun.state.isActive = true ∧
      feedingRun.components[0]?.map (·.state) = some .feeding ∧ feedingRun.components[1]?.map (·.state) = some .pending ∧
      (withRun feedingRun true).bulking.lastReading = some ⟨3, 20, 18400⟩ ∧ feedingRun.start = some 18400 ∧
    (let r := blendRun .complete none []
     (withRun r).bulking.find 37 = some r ∧ r.state = .complete) ∧
    (let r := { blendRun .held (some 0) (blend .armed .pending .pending) with carried := -40 }
     (withRun r).bulking.find 37 = some r ∧ r.state.isActive = true ∧ r.start = none) ∧
    (let r := blendRun .defined none (blend .pending .pending .pending)
     (withRun r).bulking.find 37 = some r ∧ r.state = .defined ∧ (∀ c ∈ r.components, c.state = .pending) ∧
       (withRun r).bulking.find 65535 = none) := by decide +kernel

theorem witness_BulkShortRescales :
    ((stalledRun.bulking.find 37).map fun r => (r.state, r.active, r.components[1]?)) =
        some (.stalled, some 1, some ⟨text "BATCH 0715", 350, 210000, 0, .armed⟩) ∧
      10000 ≤ roundNat (168000 * 1000) 350 ∧
    (let r := { blendRun .held (some 1) (blend .done .armed .pending) with carried := 3499 }
     (withRun r).bulking.find 37 = some r ∧ r.state = .held ∧ roundNat (3499 * 1000) 350 < 10000) ∧
    (let r := blendRun .between (some 1) (blend .done .short .pending)
     (withRun r).bulking.find 37 = some r ∧ r.components[1]?.map (·.state) = some .short) ∧
    (withRun feedingRun true).bulking.find 37 = some feedingRun ∧ feedingRun.state ≠ .held ∧
    (withRun feedingRun true).bulking.find 1 = none := by decide +kernel

theorem witness_BulkRecordsAreReadConfiguredAndRetired :
    State.reset.powered = true ∧ (withRun feedingRun true).bulking.find 37 = some feedingRun ∧
      (withRun feedingRun true).bulking.lastReading = some ⟨3, 20, 18400⟩ ∧ feedingRun.start = some 18400 ∧
      (withRun (blendRun .aborted none [])).bulking.find 37 = some (blendRun .aborted none []) ∧
      State.reset.bulking.find 65535 = none := by decide +kernel

theorem witness_ReadingsMoveTheActiveRun :
    State.reset.bulking.active = none ∧ State.reset.powered = true ∧
    (let r := blendRun .armed (some 0) (blend .armed .pending .pending)
     (withRun r).bulking.active = some r ∧ r.active = some 0 ∧
       r.components[0]? = some ⟨text "BATCH 0712", 400, 240000, 0, .armed⟩ ∧ r.carried < (240000 : Int) - 500 ∧
       (let r := { r with carried := 239500 }
        (withRun r).bulking.active = some r ∧ (240000 : Int) - 500 ≤ r.carried)) ∧
    ((withRun feedingRun true).bulking.active = some feedingRun ∧ feedingRun.start = some 18400 ∧
      (240000 : Int) - 500 ≤ 0 + (257900 - 18400) ∧ (0 : Int) + (257899 - 18400) < 240000 - 500 ∧
      (withRun feedingRun true).bulking.stallReference + 20 ≤ 0 + (18420 - 18400)) ∧
    (let r := { feedingRun with state := .settling, components := blend .settling .pending .pending }
     (withRun r).bulking.active = some r ∧ r.state = .settling ∧ r.start = some 18400) ∧
    ([RunState.between, .held, .stalled].all fun st =>
      let r := blendRun st (some 0) (blend .done .pending .pending)
      (withRun r).bulking.active == some r && r.state == st) = true := by decide +kernel

/-- INV-OPEN fields in range. -/
def openFields (bulkRun : Option Nat) (date : Option Date) : InvOpenFields :=
  ⟨4420, text "MARANGAL EST", text "BOPF  ", 5, 60000, 120, 2, 0, 0, 0, bulkRun, date⟩

theorem witness_InvOpenIsCheckedThenMadeWhole :
    (openInRange (openFields none none) = true ∧ openInRange (openFields (some 37) (some ⟨2025, 3, 14⟩)) = true ∧
      (openFields none none).packType < 8 ∧ (openFields none none).cls < 4 ∧ (openFields none none).autoClose < 2) ∧
    (∃ v ∈ (withInvoices [⟨{ record .opened 24 with number := 4420 }, []⟩]).invoices.invoices, v.record.number = 4420) ∧
    (∃ h ∈ (withSheets [sheet 4420 1 0 0 true] 0 4 []).store.sheets, h.invoice = 4420) ∧
    16 ≤ (withInvoices (.replicate 16 ⟨record .opened 24, []⟩)).invoices.invoices.length ∧
    State.reset.clock.reading = none ∧ State.reset.powered = true ∧
    completeRun37.clock.reading ≠ none ∧ completeRun37.bulking.find 38 = none ∧
    ((completeRun37.bulking.find 37).map fun r => (r.state, r.uncommitted, r.date)) =
      some (.complete, 528200, some ⟨2025, 3, 14⟩) ∧ 60000 ≤ 528200 ∧
    (∀ v ∈ completeRun37.invoices.invoices, v.record.number ≠ 4420) ∧
    (∀ h ∈ completeRun37.store.sheets, h.invoice ≠ 4420) ∧ completeRun37.invoices.invoices.length < 16 ∧
    (((withRun { blendRun .complete none [] with uncommitted := 59999 }).bulking.find 37).map (·.uncommitted)) =
      some 59999 ∧ (withRun feedingRun).bulking.find 37 = some feedingRun ∧ feedingRun.state ≠ .complete := by decide +kernel

theorem witness_AppendsAreAcceptedAndTallied :
    (lastPackage.powered = true ∧ (lastPackage.invoices.find 4417).map (·.record) = some (record .opened 24) ∧
      ((lastPackage.invoices.find 4417).map fun v => v.chests.length + 1) = some 24 ∧
      ((withInvoice .opened 24 []).invoices.find 4417 = some ⟨record .opened 24, []⟩) ∧ 0 + 1 ≠ 24 ∧
      (310 : Int) + 9690 > 9999 ∧ (310 : Int) - 10310 < -9999 ∧ (310 : Int) + 91 > 400) ∧
    (∀ v, (withInvoice .full 1 []).invoices.find 4417 = some v → v.record.state ≠ .opened) ∧
    State.reset.invoices.find 4417 = none ∧
    (withInvoices [⟨{ record .opened 24 with overrun := true }, []⟩]).invoices.find 4417 =
      some ⟨{ record .opened 24 with overrun := true }, []⟩ ∧
    (withInvoices [⟨{ record .opened 24 with tightened := true }, []⟩]).invoices.find 4417 =
      some ⟨{ record .opened 24 with tightened := true }, []⟩ ∧
    (let v : Invoice := ⟨{ record .opened 24 with ceiling := 9999 }, []⟩
     let w := (run (.append 0 4417 82000 80000) (withInvoices [v])).invoices.find 4417
     (withInvoices [v]).invoices.find 4417 = some v ∧
       w.map (fun k => (k.record.tally, k.record.overrun, k.record.ceiling, k.record.tightened)) =
         some (9999, true, 9999, true)) ∧
    ((lastPackage.invoices.invoices.map fun k => k.record.number).Nodup ∧ lastPackage.invoices.nextSerial = 5109 ∧
      (5109 :: ((lastPackage.invoices.invoices.flatMap fun k => k.chests.map fun c => c.serial) ++
        lastPackage.stencils.jobs.map fun j => j.serial)).length < 65535) ∧
    exec (.append 0 4417 61240 60050) lastPackage = .next (run (.append 0 4417 61240 60050) lastPackage) := by
  refine ⟨by decide +kernel, ?_, by decide +kernel, by decide +kernel, by decide +kernel,
    by decide +kernel, by decide +kernel, rfl⟩
  intro v h
  cases h
  decide

theorem witness_StationQueuesAreFirstInFirstOut :
    State.reset.powered = true ∧ State.reset.invoices.find 99999 = none ∧
      (withInvoice .opened 24 []).invoices.find 4417 = some ⟨record .opened 24, []⟩ := by decide +kernel

theorem witness_VoidRemovesTheNewestChest :
    (let c := chest 2 5109 .pending
     (withInvoice .full 2 [chest 1 5108, c]).invoices.find 4417 = some ⟨record .full 2, [chest 1 5108] ++ [c]⟩ ∧
       c.status ≠ .marking ∧ c.serial = 5109 ∧ 65535 ≠ c.serial ∧ 65535 ≤ 65535) ∧
    (withInvoice .full 1 [chest 1 5108 .marking]).invoices.find 4417 = some ⟨record .full 1, [] ++ [chest 1 5108 .marking]⟩ ∧
    (withInvoice .opened 2 []).invoices.find 4417 = some ⟨record .opened 2, []⟩ ∧
    (withInvoice .sheeted 2 []).invoices.find 4417 = some ⟨record .sheeted 2, []⟩ ∧
    State.reset.invoices.find 1 = none ∧ State.reset.invoices.find 99999 = none := by decide +kernel

theorem witness_InvoicesCloseOrAreCancelled :
    (withInvoice .full 1 [chest 1 1]).invoices.find 4417 = some ⟨record .full 1, [chest 1 1]⟩ ∧
      (withInvoice .opened 24 [chest 1 1]).invoices.find 4417 = some ⟨record .opened 24, [chest 1 1]⟩ ∧
      (withInvoice .opened 24 []).invoices.find 4417 = some ⟨record .opened 24, []⟩ ∧
      State.reset.invoices.find 1 = none ∧ State.reset.invoices.find 99999 = none ∧ State.reset.powered = true := by
  decide +kernel

theorem witness_InvAmendSetsTheGivenFields :
    (withInvoice .full 1 [chest 1 1]).invoices.find 4417 = some ⟨record .full 1, [chest 1 1]⟩ ∧
      (withInvoice .opened 24 []).invoices.find 4417 = some ⟨record .opened 24, []⟩ ∧
      (withInvoice .closing 1 [chest 1 1]).invoices.find 4417 = some ⟨record .closing 1, [chest 1 1]⟩ ∧
      State.reset.invoices.find 99999 = none ∧
      (∀ t ∈ some (text "MARANGAL EST"), validText 12 t = true) ∧ (∀ t ∈ some (text "BOPF  "), validText 6 t = true) ∧
      (∀ c ∈ some 309, c ≤ 9999) ∧ (∀ a ∈ some 99999, a ≤ 99999) ∧
      ({ record .full 1 with ceiling := 309 } : InvoiceRecord).exceedsCeiling = true ∧
      ({ record .full 1 with ceiling := 310 } : InvoiceRecord).exceedsCeiling = false := by decide +kernel

theorem witness_InvReadReports :
    lastPackage.powered = true ∧ (lastPackage.invoices.find 4417).isSome = true ∧ State.reset.invoices.find 99999 = none ∧
      255 ≠ 0 := by decide +kernel

theorem witness_StatusesAndSampleMarksReachTheChest :
    (∀ v ∈ State.reset.invoices.invoices, ∀ c ∈ v.chests, c.serial ≠ 1) ∧ State.reset.powered = true ∧
      (withInvoice .full 1 [chest 1 5108]).invoices.findSerial 5108 = some (⟨record .full 1, [chest 1 5108]⟩, chest 1 5108) ∧
      (withInvoice .closing 1 [chest 1 5108]).invoices.findSerial 5108 =
        some (⟨record .closing 1, [chest 1 5108]⟩, chest 1 5108) ∧
      (StatusArrival.dropped, StencilStatus.abandoned) ∈ [(StatusArrival.queued, StencilStatus.pending),
        (.refused, .missed), (.started, .marking), (.lineAcknowledged, .marked), (.skipped, .abandoned),
        (.dropped, .abandoned)] := by decide +kernel

theorem witness_ActionTablesAreSetAndRead :
    (Action.gate 7 2000).inRange ∧ (Action.sample 1).inRange ∧ 1 ≤ 256 ∧ 256 ≤ 256 ∧ State.reset.powered = true ∧
      20 ≤ 20 ∧ 31 < 32 ∧ ((31 : Fin 32) = 31 → false = false) ∧
    (let w : WrittenSet := ⟨true, .notice 255, .every, .normal, 1, false, false⟩
     let f : ActionSetFields := { setFields w with second := 65535 }
     w.action.inRange ∧ f = { setFields w with
       first := if f.kind = 3 then f.first else (setFields w).first
       second := if f.kind = 2 then f.second else (setFields w).second }) ∧
    (let w : WrittenSet := ⟨true, .sample 2000, .every, .normal, 1, false, false⟩
     let f : ActionSetFields := { setFields w with first := 255 }
     w.action.inRange ∧ f = { setFields w with
       first := if f.kind = 3 then f.first else (setFields w).first
       second := if f.kind = 2 then f.second else (setFields w).second }) := by
  refine ⟨?_, ?_, ?_⟩ <;> simp [Action.inRange, Action.codes, setFields, State.reset]

/-- Eight sets in a chain from set 0, each a live NOTICE set with its chain flag set. -/
def longChain (chain : Bool) : State :=
  { State.reset with
    actions := { State.reset.actions with
      vectors := State.reset.actions.vectors.set 19 (some 0)
      sets := State.reset.actions.sets.mapFinIdx fun i a _ =>
        if i < 7 then ⟨{ a.written with enabled := true, chain := true }, true, 1⟩
        else if i = 7 then ⟨{ a.written with enabled := true, chain := chain }, true, 1⟩ else a } }

theorem witness_EventsRunTheirChains :
    State.reset.powered = true ∧ State.reset.actions.vectors[19] = none ∧
    (let front : List (Fin 32) := [0, 1, 2, 3, 4, 5, 6]
     front.length = 7 ∧ ([true, false].all fun flag =>
       let s := longChain flag
       s.actions.vectors[19] == (front ++ [7]).head? && (front ++ [7]).all (fun i => s.actions.sets[i].live) &&
         front.all (fun i => s.actions.sets[i].written.chain) && (s.actions.sets[7].written.chain == flag)) = true ∧
       (∀ k : Fin 7, ((front ++ [7])[k.val + 1]?).map Fin.val = ((front ++ [7])[k.val]?).map fun a => a.val + 1)) ∧
    (let s : State := { State.reset with actions := { State.reset.actions with vectors := State.reset.actions.vectors.set 0 (some 31) } }
     s.actions.vectors[0] = some 31 ∧ s.actions.sets[31].live = false) ∧
    (let s := runAll [.actionSetWrite 1 31 ⟨1, 0, 1, 7, 1, 0, 1, 0, 0⟩, .actionSetWrite 1 30 ⟨1, 1, 0, 50, 0, 1, 2, 1, 1⟩]
       State.reset
     (s.actions.sets[31].written.action = .stencil 1 7 ∧ s.actions.sets[31].count = 1 ∧
       s.actions.sets[31].written.mode = .normal) ∧
     s.actions.sets[30].count = 2 ∧ s.actions.sets[30].written.action = .gate 0 50) := by decide +kernel

theorem witness_TemplatesAreReadAndComposed :
    templateValid templateOne ∧ (templateBytes templateOne).length ≤ 246 ∧ readTemplate (templateBytes templateOne) = some templateOne ∧
      readTemplate [33] = none ∧ 32 < 33 ∧ (∀ lot, (record .opened 24).lot ≠ .bound lot) ∧
      ({ record .opened 24 with lot := .bound 1217 } : InvoiceRecord).lot = .bound 1217 ∧ State.reset.powered = true ∧
      ((text "BOPF").getLast? ≠ some 0x20 ∧ (record .opened 24).grade = text "BOPF" ++ .replicate 2 0x20 ∧
        (text "MARANGAL EST").getLast? ≠ some 0x20 ∧ (record .opened 24).garden = text "MARANGAL EST" ++ .replicate 0 0x20) ∧
      99999 < 10 ^ 16 ∧ (record .opened 24).date.year < 10000 := by
  refine ⟨⟨by decide +kernel, ?_⟩, by decide +kernel, by decide +kernel, by decide +kernel, by decide, ?_, rfl, rfl,
    by decide +kernel, by decide, by decide⟩
  · simp only [templateOne, List.forall_mem_cons, List.not_mem_nil, false_implies, implies_true, Item.valid, and_true]
    decide +kernel
  · intro lot
    simp [record]

/-- The part with template 1 loaded, chest 5108 in its table, and head 0 idle with that chest's job in its queue. -/
def jobReady (snapshot : Option Snapshot) (chests : List Chest) : State :=
  let s := withHead { headOf .idle none with queue := [{ job 5108 with snapshot := snapshot }] } (withInvoice .full 1 chests)
  { s with stencils := { s.stencils with templates := s.stencils.templates.set 1 templateOne } }

theorem witness_JobsJoinAndStart :
    (let s := withHead (headOf .streaming (some (inHand [text "AB"] 0 0)))
     s.powered = true ∧ s.stencils.hasJob 5108 = true ∧ s.stencils.hasJob 5109 = false ∧
       s.stencils.heads[0].queue.length < 8 ∧ s.stencils.heads[0].state ≠ .idle) ∧
    8 ≤ (withHead { headOf .held none with queue := .replicate 8 (job 1) }).stencils.heads[0].queue.length ∧
    120 < 121 ∧ State.reset.invoices.find 99999 = none ∧
    (withInvoice .full 1 [chest 1 5108]).invoices.find 4417 = some ⟨record .full 1, [chest 1 5108]⟩ ∧
    (State.reset.stencils.heads[0].state = .idle ∧ State.reset.stencils.heads[0].queue = [] ∧
      State.reset.stencils.templates[1] = []) ∧
    (let s := jobReady (some ⟨1, 61200, 60010⟩) [chest 1 5108]
     s.stencils.heads[0].state = .idle ∧ s.stencils.heads[0].queue.length = 1 ∧ s.stencils.templates[1] ≠ [] ∧
       s.invoices.find 4417 = some ⟨record .full 1, [chest 1 5108]⟩ ∧ (chest 1 5108).serial = (job 5108).serial) ∧
    (jobReady none [chest 1 5108]).stencils.heads[0].queue = [{ job 5108 with snapshot := none }] ∧
    (jobReady (some ⟨1, 61200, 60010⟩) []).invoices.find 4417 = some ⟨record .full 1, []⟩ := by decide +kernel

theorem witness_HeadArrivalsMoveTheChannel :
    State.reset.powered = true ∧ State.reset.stencils.heads[0].state = .idle ∧
    ([HeadState.streaming, .lineWait, .stopped].all fun st =>
      let h := (withHead (headOf st (some (inHand [text "AB", []] 0 1)))).stencils.heads[0]
      h.state == st && h.inHand == some (inHand [text "AB", []] 0 1)) = true ∧
    (inHand [text "AB", []] 0 1).lines[0]? = some (text "AB") ∧ (text "AB")[1]? = some 0x42 ∧
    (inHand [text "AB", []] 0 1).lines[1]? = some [] ∧ (inHand [text "AB"] 0 2).lines[1]? = none ∧
    (inHand [text "AB"] 0 2).job.snapshot = some ⟨23, 61200, 60010⟩ ∧ (headOf .held none).state = .held := by decide +kernel

theorem witness_HeadRequestsRecover :
    State.reset.powered = true ∧
    (let h := (withHead (headOf .held (some (inHand [text "AB"] 0 1)) (.midLine 0 1))).stencils.heads[0]
     h.state = .held ∧ h.inHand = some (inHand [text "AB"] 0 1) ∧ h.resume = .midLine 0 1 ∧ 1 < (text "AB").length) ∧
    (let h := (withHead (headOf .held (some (inHand [text "AB"] 0 2)) (.atLineEnd 0))).stencils.heads[0]
     h.state = .held ∧ h.resume = .atLineEnd 0) ∧
    (let h := (withHead (headOf .held none)).stencils.heads[0]
     h.state = .held ∧ h.inHand = none) ∧
    (let h := (withHead { headOf .off none with queue := [job 5109] }).stencils.heads[0]
     h.state = .off ∧ h.queue ≠ []) ∧
    (withHead (headOf .off none)).stencils.heads[0].queue = [] ∧
    (withHead (headOf .stopped (some (inHand [text "AB"] 0 2)))).stencils.heads[0].state = .stopped := by decide +kernel

theorem witness_WindowsGiveTheLot :
    (let s := run (.windowSet 1 2 ⟨99000, 1000, 99000, 1⟩) State.reset
     s.powered = true ∧ (s.store.windows[2].enabled = true ∧ s.store.windows[2].base ≤ 99999 ∧
       99999 < s.store.windows[2].base + s.store.windows[2].span) ∧
       (∀ j : Fin 4, j < 2 → ¬ (s.store.windows[j].enabled = true)) ∧
       ∀ i : Fin 4, ¬ (s.store.windows[i].enabled = true ∧ s.store.windows[i].base ≤ 98999)) ∧
      (⟨0, 10, 1, 1⟩ : WindowFields).enabled = flagCode true ∧ 3 < 4 ∧ 2 ≤ 2 := by decide +kernel

/-- A head of invoice 4417's sheet. -/
def headOfSheet : SheetHead := sheetHead ⟨record .closing 1, [chest 1 5108]⟩ none

/-- The part with invoice 4417 CLOSING and its sheet at the front of the build line, behind a written one. -/
def building (head : Option SheetHead) : State :=
  withSheets [sheet 7 1 0 0 true, { sheet 4417 1 0 4 false with head := head }] 0 8 [] (withInvoice .closing 1 [chest 1 5108])

theorem witness_SheetsAreReservedAndBegun :
    (let s := withSheets [] 0 28 [] (withInvoice .closing 1 [chest 1 5108])
     s.powered = true ∧ s.invoices.find 4417 = some ⟨record .closing 1, [chest 1 5108]⟩ ∧ 4417 ∉ s.store.waiting ∧
       (∀ h ∈ s.store.sheets, h.invoice = 4417 → h.written = true) ∧ s.store.freePage < 24 ∧ s.store.waiting = [] ∧
       s.store.freeSlot + 4 ≤ 32) ∧
    (let s := withSheets [] 23 29 [] (withInvoice .closing 1 [chest 1 5108])
     32 < s.store.freeSlot + 4 ∧ ∀ h ∈ s.store.sheets, h.page ≠ 0) ∧
    (let s := withSheets [sheet 7 1 0 0 true] 23 29 [] (withInvoice .closing 1 [chest 1 5108])
     32 < s.store.freeSlot + 4 ∧ ∃ h ∈ s.store.sheets, h.page = 0) ∧
    (withSheets [] 0 0 [9] (withInvoice .closing 1 [chest 1 5108])).store.waiting ≠ [] ∧
    ((building none).store.sheets = [sheet 7 1 0 0 true] ++ sheet 4417 1 0 4 false :: [] ∧
      (∀ h ∈ [sheet 7 1 0 0 true], h.written = true) ∧ (sheet 4417 1 0 4 false).written = false ∧
      (sheet 4417 1 0 4 false).head = none ∧
      (building none).invoices.find 4417 = some ⟨record .closing 1, [chest 1 5108]⟩) ∧
    ({ sheet 4417 1 0 4 false with head := some headOfSheet } : Sheet).head ≠ none := by decide +kernel

theorem witness_EntriesEndTheSheet :
    State.reset.powered = true ∧ (∀ h ∈ State.reset.store.sheets, h.written = true) ∧
    (let h := { sheet 4417 1 0 4 false with head := some headOfSheet }
     let s := building (some headOfSheet)
     s.store.sheets = [sheet 7 1 0 0 true] ++ h :: [] ∧ h.written = false ∧ h.head = some headOfSheet ∧
       s.invoices.find 4417 = some ⟨record .closing 1, [chest 1 5108]⟩ ∧
       [chest 1 5108][h.entries.length]? = some (chest 1 5108) ∧ h.entries.length + 1 = h.chests ∧
       (∀ i : Fin 4, s.link.slots[i].key ≠ some (.fetch 4417))) ∧
    (let s := withSlot (.waiting (.fetch 4417) (some 1) none) (building (some headOfSheet))
     s.link.slots[0] = .waiting (.fetch 4417) (some 1) none ∧
       (∀ i j : Fin 4, i ≠ j → s.link.slots[i].key ≠ none → s.link.slots[i].key ≠ s.link.slots[j].key)) ∧
    (let h := { sheet 4417 2 0 4 false with head := some headOfSheet }
     h.entries.length + 1 ≠ h.chests) := by decide +kernel

theorem witness_FetchesAreAnsweredOrKeepASlot :
    (let s := withSlot (.waiting (.fetch 99999) (some 1) none)
     s.powered = true ∧ s.link.slots[0] = .waiting (.fetch 99999) (some 1) none ∧
       (∀ i j : Fin 4, i ≠ j → s.link.slots[i].key ≠ none → s.link.slots[i].key ≠ s.link.slots[j].key)) ∧
    (withSlot (.ready (.fetch 1) (some 0) .gone none 0)).link.slots[0] = .ready (.fetch 1) (some 0) .gone none 0 ∧
    (let h := { sheet 7 1 0 0 true with head := some headOfSheet }
     let s := withSheets [h] 0 4 []
     (∀ i : Fin 4, s.link.slots[i].key ≠ some (.fetch 7)) ∧ h ∈ s.store.sheets ∧ h.written = true ∧
       (∀ g ∈ s.store.sheets, g.invoice = 7 → g = h) ∧ (h.chests + 39) / 40 < 2) ∧
    (let s := withInvoice .waiting 1 [chest 1 5108]
     (∀ h ∈ s.store.sheets, h.invoice = 4417 → h.written = false) ∧
       s.invoices.find 4417 = some ⟨record .waiting 1, [chest 1 5108]⟩ ∧ (1 + 39) / 40 < 2 ∧ 1 ≤ (1 + 39) / 40 ∧
       s.link.slots[0] = .free) ∧
    (withInvoice .full 1 [chest 1 5108]).invoices.find 4417 = some ⟨record .full 1, [chest 1 5108]⟩ ∧
    (∀ h ∈ State.reset.store.sheets, h.invoice ≠ 1) ∧ State.reset.invoices.find 1 = none := by decide +kernel

theorem witness_ReleasesFreeTheOldestSheet :
    State.reset.powered = true ∧ (∀ h ∈ State.reset.store.sheets, h.invoice ≠ 99999) ∧
    (let s := withSheets [sheet 7 1 0 0 true, sheet 8 1 0 4 false] 0 8 []
     sheet 7 1 0 0 true ∈ s.store.sheets ∧ (∀ g ∈ s.store.sheets, g.invoice = 7 → g = sheet 7 1 0 0 true) ∧
       s.store.sheets.head? = some (sheet 7 1 0 0 true) ∧ (∀ j ∈ s.stencils.jobs, j.invoice ≠ 7) ∧
       (∃ g ∈ s.store.sheets.filter fun g => g.invoice != 7, g.page = 0) ∧
       (∀ g ∈ s.store.sheets, g.invoice = 8 → g = sheet 8 1 0 4 false) ∧ (sheet 8 1 0 4 false).written = false) ∧
    (∃ j ∈ (withHead { headOf .held none with queue := [job 1] }).stencils.jobs, j.invoice = 4417) ∧
    (let s := withSheets [sheet 7 1 0 0 true] 23 20 [] (withInvoice .waiting 1 [chest 1 5108])
     s.invoices.find 4417 = some ⟨record .waiting 1, [chest 1 5108]⟩ ∧ s.store.freePage < 24 ∧ s.store.freeSlot + 4 ≤ 32) ∧
    (let s := withSheets [sheet 7 1 0 0 true] 23 29 [] (withInvoice .waiting 1 [chest 1 5108])
     32 < s.store.freeSlot + 4 ∧ ∃ h ∈ s.store.sheets, h.page = 0) ∧
    (let s := withSheets [sheet 7 1 5 0 true] 23 32 [] (withInvoice .waiting 1 [chest 1 5108])
     32 < s.store.freeSlot + 4 ∧ ∀ h ∈ s.store.sheets, h.page ≠ 0) := by decide +kernel

theorem witness_TheClockFollowsTheCalendar :
    State.reset.powered = true ∧ State.reset.clock.reading = none ∧
    ([(⟨⟨2024, 2, 29⟩, 23, 59, 59⟩ : ClockReading), ⟨⟨2099, 12, 31⟩, 23, 59, 30⟩, ⟨⟨2000, 1, 1⟩, 0, 0, 0⟩,
      ⟨⟨2025, 4, 30⟩, 22, 59, 59⟩, ⟨⟨2025, 12, 31⟩, 23, 58, 29⟩].all fun r =>
        (withClock r).clock.reading == some r && validReading r) = true ∧
    validReading ⟨⟨2025, 2, 29⟩, 0, 0, 0⟩ = false := by decide +kernel

theorem witness_TheLineIsServed :
    (let l : Link := { State.reset.link with replies := [⟨1, 3, .ok .done, false⟩] }
     l.sending = none ∧ l.replies = [⟨1, 3, .ok .done, false⟩]) ∧
    (let l : Link := { State.reset.link with notices := [(255, .signalLost 0)], sending := some (.notice 0 (.signalLost 1)) }
     l.sending = some (.notice 0 (.signalLost 1)) ∧ l.notices = [(255, .signalLost 0)]) ∧
    (let l : Link := { State.reset.link with notices := [(255, .signalLost 0)] }
     l.sending = none ∧ l.replies = [] ∧ l.notices = [(255, .signalLost 0)]) ∧
    State.reset.link.holding = [] ∧
    (let s := State.reset.setLink { State.reset.link with
       holding := .replicate 3 ⟨7, 0x33, []⟩, replies := [⟨1, 3, .refused .busy, true⟩, ⟨2, 3, .refused .busy, true⟩] }
     s.link.holding = ⟨7, 0x33, []⟩ :: .replicate 2 ⟨7, 0x33, []⟩ ∧ s.link.inHand = none ∧
       (∀ r ∈ s.link.beginSend.replies, r.busy = true) ∧ s.powered = true ∧ s.settings.save = none) ∧
    (decodeRequest ⟨7, 0x33, []⟩ = .ok (.status 7) ∧ decodeRequest ⟨7, 0x38, []⟩ = .error .unknown ∧
      decodeRequest ⟨7, 0x33, [0]⟩ = .error .length) ∧
    (let s := runAll (.replicate 3 (.frameReceived ⟨7, 0x33, []⟩)) State.reset
     s.link.holding ≠ [] ∧ ∃ r ∈ s.link.beginSend.replies, r.busy = false) ∧
    (run (.saveSettings 1) State.reset).link.inHand ≠ none := by
  refine ⟨by decide +kernel, by decide +kernel, by decide +kernel, rfl, by decide +kernel, ⟨rfl, rfl, rfl⟩, by decide +kernel,
    by decide +kernel⟩

theorem witness_TheLinkAnswersAndKeepsCount :
    State.reset.powered = true ∧ (2 ≤ (#v[0, 0, 0, 0, 0, 0, 2] : Vector Nat 7)[6]) ∧
      State.reset.link.mask[maskPlace (noticeClass (.signalLost 0))] = true ∧ State.reset.link.notices.length < 32 ∧
      (run (.noticeMask 1 #v[0, 1, 1, 1, 1, 1, 1]) State.reset).link.mask[maskPlace (noticeClass (.signalLost 0))] = false ∧
      32 ≤ ({ State.reset.link with notices := .replicate 32 (0, .signalLost 0) } : Link).notices.length ∧
      (withSlot (.waiting (.capture 3) none (some 30000))).link.slots[0] = .waiting (.capture 3) none (some 30000) ∧
      (withSlot (.ready (.fetch 5) (some 0) .answer none 60000)).link.slots[0] =
        .ready (.fetch 5) (some 0) .answer none 60000 := by decide +kernel

theorem witness_FramesAreReceivedAndHeld :
    State.reset.powered = true ∧ State.reset.link.receiver = .hunting ∧ State.reset.link.holding.length < 3 ∧
    (let bytes := (requestBytes ⟨7, 0x33, []⟩).tail
     assembly (bytes.take 2 ++ [0x33]) = .more ∧ assembly ([] ++ [1]) = .bad ∧ assembly ([] ++ [251]) = .bad ∧
       assembly (bytes.dropLast ++ [bytes.getLast?.getD 0]) = .arrived ⟨7, 0x33, []⟩) ∧
    (let s := State.reset.setLink { State.reset.link with receiver := .assembling [2, 7] 21 }
     s.link.receiver = .assembling [2, 7] 21 ∧ 20 < 21 ∧ ¬ 20 < 20) ∧
    (let s := runAll (.replicate 5 (.frameReceived ⟨7, 0x33, []⟩)) State.reset
     3 ≤ s.link.holding.length ∧ (s.link.replies.filter fun r => r.busy).length < 3) ∧
    (let s := runAll (.replicate 8 (.frameReceived ⟨7, 0x33, []⟩)) State.reset
     3 ≤ s.link.holding.length ∧ 3 ≤ (s.link.replies.filter fun r => r.busy).length) := by decide +kernel

theorem witness_SavesGoToTheOtherPlace :
    State.reset.powered = true ∧ State.reset.settings.save = none ∧ State.reset.settings.current = none ∧
    (let s := run (.saveSettings 1) State.reset
     s.settings.save ≠ none ∧ s.settings.save.isSome = true ∧ s.link.inHand = some ⟨1, 0x36⟩) ∧
    (let s : State := { State.reset with settings :=
       { State.reset.settings with places := State.reset.settings.places.set 1 (.valid 65535 Image.default), current := some 1 } }
     s.settings.current = some 1 ∧ s.settings.places[1] = .valid 65535 Image.default ∧ s.settings.save = none) := by
  decide +kernel

theorem witness_PowerOnStartsEveryBlock :
    State.reset.powered = true ∧ State.reset.settings.places[0] = .invalid ∧ State.reset.settings.places[1] = .invalid ∧
    (let s : State := { State.reset with settings :=
       { State.reset.settings with places := #v[.valid 65535 Image.default, .valid 0 Image.default] } }
     s.settings.places[0] = .valid 65535 Image.default ∧ s.settings.places[1] = .valid 0 Image.default) ∧
    ([(7, 7), (9, 7), (65535, 1)].all fun p =>
      let s : State := { State.reset with settings :=
        { State.reset.settings with places := #v[.valid p.1 Image.default, .valid p.2 Image.default] } }
      s.settings.places[0] == .valid p.1 Image.default && s.settings.places[1] == .valid p.2 Image.default &&
        decide (p.1 ≤ 65535) && !decide (p.2 = p.1 + 1 ∨ (p.2 = 0 ∧ p.1 = 65535))) = true := by decide +kernel

theorem witness_RestartsWaitForTheirReply :
    State.reset.powered = true ∧ 1 < 2 ∧ State.reset.link.sending = none ∧
    ([(0, RestartForm.warm), (1, .cold)].all fun p =>
      let s := run (.restart 1 p.1) State.reset
      s.link.sending == some (.reply ⟨1, 0x37, .ok (.restart p.2), false⟩) && s.settings.restart == some p.2) = true ∧
    (let s := run (.noticeOffer (.signalLost 0)) State.reset
     s.link.sending = some (.notice 0 (.signalLost 0)) ∧ s.settings.restart = none) ∧
    (let s := runAll [.clockRead 1, .restart 2 1] State.reset
     s.link.sending = some (.reply ⟨1, 0x32, .ok (.clock none), false⟩) ∧ s.settings.restart = some .cold) ∧
    (let s := withSheets [sheet 7 1 0 0 true, sheet 8 1 0 4 false] 0 8 []
     s.store.sheets = [sheet 7 1 0 0 true] ++ sheet 8 1 0 4 false :: [] ∧
       (∀ k ∈ [sheet 7 1 0 0 true], k.written = true) ∧ (sheet 8 1 0 4 false).written = false) ∧
    (∀ h ∈ State.reset.store.sheets, h.written = true) ∧
    (let s := runAll [.noticeOffer (.signalLost 0), .restart 1 0] State.reset
     s.link.sending = some (.notice 0 (.signalLost 0)) ∧ s.settings.restart = some .warm) ∧
    (let s : State := { State.reset with clock := ⟨some ⟨⟨2024, 2, 28⟩, 23, 59, 59⟩, 1000⟩ }
     s.clock.reading ≠ none ∧ 1000 ≤ s.clock.phase ∧ (run .secondAdvance s).clock = ⟨some ⟨⟨2024, 2, 29⟩, 0, 0, 0⟩, 0⟩) := by
  decide +kernel

theorem witness_ClockFeedAndClassesStayLegal :
    (∀ r, (withClock ⟨⟨2024, 2, 29⟩, 23, 59, 59⟩).clock.reading = some r → validReading r = true) ∧
    (let s := withStation 3 (stationOf .feed .active)
     feedCount (s.stations.map (·.settings)) ≤ 1 ∧ (∀ m ∈ s.settings.images, feedCount m.stations ≤ 1) ∧
       classesInRange s.packs.classes = true ∧ classesOrdered s.packs.classes = true ∧
       (∀ m ∈ s.settings.images, classesInRange m.classes = true ∧ classesOrdered m.classes = true)) ∧
    step (withClock ⟨⟨2024, 2, 29⟩, 23, 59, 59⟩) = .next (idle (withClock ⟨⟨2024, 2, 29⟩, 23, 59, 59⟩)) := by
  refine ⟨?_, by decide +kernel, rfl⟩
  rintro r ⟨⟩
  decide

theorem witness_TheLinkStaysBounded :
    (let s := withSlot (.waiting (.capture 3) none (some 0)) (runAll (.replicate 8 (.frameReceived ⟨7, 0x33, []⟩)) State.reset)
     (s.link.holding.length = 3 ∧ s.link.busyCount = 3 ∧ s.link.notices.length ≤ 32 ∧ s.link.counter < 256) ∧
       (∀ i j : Fin 4, i ≠ j → s.link.slots[i].key ≠ none → s.link.slots[i].key ≠ s.link.slots[j].key) ∧
       (s.link.sending ≠ none ∧ ∃ r ∈ s.link.replies, r.busy = false) ∧ step s = .next (after (step s))) :=
  ⟨by decide +kernel, by decide +kernel, by decide +kernel, rfl⟩

theorem witness_TheBulkTableStaysSound :
    BulkSound (withRun feedingRun true).bulking ∧
      step (withRun feedingRun true) = .next (after (step (withRun feedingRun true))) :=
  ⟨⟨by decide +kernel, by decide +kernel, by decide +kernel, by decide +kernel, by decide +kernel, by decide +kernel,
    by decide +kernel⟩, rfl⟩

theorem witness_TheInvoiceTableStaysSound :
    (let v : Invoice := ⟨{ record .full 1 with tally := 10 }, [chest 1 5108]⟩
     let s := withHead { headOf .streaming (some (inHand [text "AB"] 0 0)) with queue := [job 5105, job 5106] }
       ((withInvoices [v]).setQueue 0 [1, 2, 3, 4])
     TableSound s.invoices ∧ QueuesBounded s ∧ step s = .next (after (step s))) := by
  refine ⟨⟨by decide +kernel, by decide +kernel, by decide +kernel, by decide +kernel, ?_⟩,
    ⟨by decide +kernel, by decide +kernel, by decide +kernel⟩, rfl⟩
  intro v hv
  obtain rfl : v = _ := by simpa [withInvoices, State.setQueue, withHead, State.setHead] using hv
  exact ⟨by decide +kernel, by decide +kernel, by decide +kernel, by decide +kernel, by decide +kernel, by decide +kernel⟩

/-- Invoice 7 SHEETED with its sheet written, and invoice 4417 CLOSING with its sheet being built behind it. -/
def sheeting : State :=
  withSheets [sheet 7 1 0 0 true, sheet 4417 1 0 4 false] 0 8 []
    (withInvoices [⟨{ record .sheeted 1 with number := 7, tally := 10 }, [chest 1 5107]⟩,
      ⟨{ record .closing 1 with tally := 10 }, [chest 1 5108]⟩])

theorem witness_TheRecordStoreStaysSound :
    TableSound sheeting.invoices ∧ StoreSound sheeting ∧ step sheeting = .next (after (step sheeting)) := by
  refine ⟨⟨by decide +kernel, by decide +kernel, by decide +kernel, by decide +kernel, ?_⟩,
    ⟨by decide +kernel, by decide +kernel, ?_, by decide +kernel, ?_, by decide +kernel, ?_⟩, rfl⟩
  · simp only [sheeting, withSheets, withInvoices, List.forall_mem_cons, List.not_mem_nil, false_implies, implies_true,
      and_true]
    exact ⟨⟨by decide +kernel, by decide +kernel, by decide +kernel, by decide +kernel, by decide +kernel, by decide +kernel⟩,
      ⟨by decide +kernel, by decide +kernel, by decide +kernel, by decide +kernel, by decide +kernel, by decide +kernel⟩⟩
  · simp [sheeting, withSheets, sheet, sheetSlots, ceilDiv]
  · simp [sheeting, withSheets, sheet]
  · decide +kernel

end Sys2Proof.Tests
end

