-- ==== Sys2Proof/Proofs/Range.lean ====
section
/-! SUPPORT. The checks of a request that refuse with RANGE and nothing else, what a value that passes one satisfies, and how
a request whose checks end in such a refusal is answered. -/

namespace Sys2Proof.Machine

/-! ### Checks in a row -/

/-- A check that, if it refuses, refuses with RANGE. -/
def RefusesRangeOnly {α : Type} (x : Except Reason α) : Prop := ∀ r, x = .error r → r = .range

/-- Behind a check that refuses with RANGE only, an answer is RANGE when it is so for every value the check passes. -/
theorem RefusesRangeOnly.bind_range {α β : Type} {x : Except Reason α} {f : α → Except Reason β}
    (hx : RefusesRangeOnly x) (hf : ∀ a, x = .ok a → f a = .error .range) : (x >>= f) = .error .range := by
  cases x with
  | error r => rw [hx r rfl, error_bind]
  | ok a => exact hf a rfl

/-- The refusal of the first check is the answer. -/
theorem bind_of_error {α β : Type} {x : Except Reason α} {r : Reason} (f : α → Except Reason β) (h : x = .error r) :
    (x >>= f) = .error r := by
  rw [h, error_bind]

theorem require_refusesRangeOnly (c : Prop) [Decidable c] : RefusesRangeOnly (require c .range) := by
  intro r h
  by_cases hc : c
  · rw [require_pos hc] at h; contradiction
  · rw [require_neg hc] at h; exact (Except.error.inj h).symm

theorem require_ok {c : Prop} [Decidable c] {r : Reason} {u : Unit} (h : require c r = .ok u) : c := by
  by_contra hc
  rw [require_neg hc] at h
  contradiction

theorem index_refusesRangeOnly (n x : Nat) : RefusesRangeOnly (index n x) := by
  intro r h
  unfold index at h
  split at h
  · contradiction
  · exact (Except.error.inj h).symm

theorem index_ok {n x : Nat} {i : Fin n} (h : index n x = .ok i) : x < n := by
  by_contra hx
  rw [index_out_of_range n x (Nat.le_of_not_lt hx)] at h
  contradiction

theorem flag_refusesRangeOnly (n : Nat) : RefusesRangeOnly (flag n) := by
  intro r h
  unfold flag at h
  split at h
  · contradiction
  · split at h
    · contradiction
    · exact (Except.error.inj h).symm

theorem flag_ok {n : Nat} {b : Bool} (h : flag n = .ok b) : n < 2 := by
  by_contra hn
  rw [flag_out_of_range n (Nat.le_of_not_lt hn)] at h
  contradiction

theorem roleOf_refusesRangeOnly (n : Nat) : RefusesRangeOnly (roleOf n) := by
  intro r h
  unfold roleOf at h
  split at h
  case h_5 => exact (Except.error.inj h).symm
  all_goals contradiction

theorem roleOf_ok {n : Nat} {role : Role} (h : roleOf n = .ok role) : n < 4 := by
  unfold roleOf at h
  split at h
  case h_5 => contradiction
  all_goals decide

theorem keepOr_refusesRangeOnly {α : Type} (f : KeepField α) (valid : α → Bool) : RefusesRangeOnly (keepOr f valid) := by
  intro r h
  unfold keepOr at h
  split at h
  · contradiction
  · split at h
    · contradiction
    · exact (Except.error.inj h).symm
  · exact (Except.error.inj h).symm

/-- A field passed is marked KEEP, or given with a value in its range (R203). -/
theorem keepOr_ok {α : Type} {f : KeepField α} {valid : α → Bool} {o : Option α} (h : keepOr f valid = .ok o) :
    f.given < 2 ∧ (f.given = 1 → valid f.value = true) := by
  unfold keepOr at h
  split at h
  · omega
  · split at h
    · exact ⟨by omega, fun _ => ‹_›⟩
    · contradiction
  · contradiction

theorem keepFlag_refusesRangeOnly (f : KeepField Nat) : RefusesRangeOnly (keepFlag f) := by
  intro r h
  unfold keepFlag at h
  cases hk : keepOr f (within 0 1) with
  | error e =>
    rw [hk, error_bind] at h
    exact Except.error.inj h ▸ keepOr_refusesRangeOnly f _ e hk
  | ok o => rw [hk] at h; contradiction

theorem keepFlag_ok {f : KeepField Nat} {o : Option Bool} (h : keepFlag f = .ok o) :
    f.given < 2 ∧ (f.given = 1 → within 0 1 f.value = true) := by
  unfold keepFlag at h
  cases hk : keepOr f (within 0 1) with
  | error e => rw [hk] at h; contradiction
  | ok g => exact keepOr_ok hk

/-! ### Ranges, and numbers of runs, invoices and slots -/

theorem within_eq_true {lo hi n : Nat} : within lo hi n = true ↔ lo ≤ n ∧ n ≤ hi := decide_eq_true_iff

theorem within_eq_false {lo hi n : Nat} (h : n < lo ∨ hi < n) : within lo hi n = false :=
  decide_eq_false (by omega)

theorem validRun_eq_false {n : Nat} (h : n = 0 ∨ 65535 < n) : validRun n = false :=
  within_eq_false (by omega)

theorem validInvoice_eq_false {n : Nat} (h : n = 0 ∨ 99999 < n) : validInvoice n = false :=
  within_eq_false (by omega)

theorem require_validInvoice_out_of_range {n : Nat} (h : n = 0 ∨ 99999 < n) :
    require (validInvoice n = true) .range = .error .range :=
  require_neg (by simp [validInvoice_eq_false h]) _

theorem bulkNamed_out_of_range {n : Nat} (s : State) (h : n = 0 ∨ 65535 < n) : bulkNamed n s = .error .range :=
  bind_of_error _ (require_neg (by simp [validRun_eq_false h]) _)

theorem invoiceNamed_out_of_range {n : Nat} (s : State) (h : n = 0 ∨ 99999 < n) : invoiceNamed n s = .error .range :=
  bind_of_error _ (require_validInvoice_out_of_range h)

theorem Link.findSlot_eq_none {l : Link} {k : SlotKey} (h : ∀ i : Fin 4, l.slots[i].key ≠ some k) :
    l.findSlot k = none := by
  simpa [Link.findSlot, List.find?_eq_none] using h

/-! ### Requests refused with RANGE -/

/-- The request is answered REFUSED with RANGE and changes nothing but the reply line and what is served behind it. -/
def RefusedWithRange (tag : Byte) (s : State) (c : Instr) : Prop :=
  ∃ k, c.requestKind = some k ∧ exec c s = .next (s.reply tag k (.refused .range))

/-- A request is refused with RANGE when its owner refuses it so. -/
theorem refused_of_owner {tag k : Byte} {s : State} {c : Instr} {owner : State → Answer} (hp : s.powered = true)
    (hk : c.requestKind = some k) (he : exec c s = onRequest tag k s owner) (h : owner s = .error .range) :
    RefusedWithRange tag s c :=
  ⟨k, hk, he.trans (onRequest_refused hp h)⟩

/-- A request is refused with RANGE when the first check of its owner refuses it so. -/
theorem refused_of_first {tag k : Byte} {s : State} {c : Instr} {owner : State → Answer} {α : Type}
    {first : Except Reason α} {rest : α → Answer} (hp : s.powered = true) (hk : c.requestKind = some k)
    (he : exec c s = onRequest tag k s owner) (ho : owner s = (first >>= rest)) (h : first = .error .range) :
    RefusedWithRange tag s c :=
  refused_of_owner hp hk he (ho.trans (bind_of_error rest h))

/-- A request is refused with RANGE when the first check of its owner refuses with RANGE only, and whatever that check passes
the rest refuses so. -/
theorem refused_of_rest {tag k : Byte} {s : State} {c : Instr} {owner : State → Answer} {α : Type}
    {first : Except Reason α} {rest : α → Answer} (hp : s.powered = true) (hk : c.requestKind = some k)
    (he : exec c s = onRequest tag k s owner) (ho : owner s = (first >>= rest)) (hx : RefusesRangeOnly first)
    (h : ∀ a, first = .ok a → rest a = .error .range) : RefusedWithRange tag s c :=
  refused_of_owner hp hk he (ho.trans (hx.bind_range h))

end Sys2Proof.Machine
end

