-- ==== Sys2Proof/Proofs/Scope.lean ====
section
/-! PROOF. The requests with a value outside its range, block by block, and the statement that each is refused with RANGE. -/

namespace Sys2Proof.Machine

/-! ### Stations, types and sets -/

theorem station_out_of_range_refused (tag : Byte) {s : State} (hp : s.powered = true) {n : Nat} (m : Nat) (h : 4 ≤ n) :
    ∀ c ∈ [Instr.stationRestart tag n, .stationZero tag n, .weighCapture tag n, .stationRead tag n,
      .stationQueueAdd tag n m, .stationQueueRemove tag n m], RefusedWithRange tag s c := by
  have hn : stationNumber n = .error .range := stationNumber_out_of_range n h
  simp only [List.forall_mem_cons]
  refine ⟨?_, ?_, ?_, ?_, ?_, ?_, List.forall_mem_nil _⟩ <;> exact refused_of_first hp rfl rfl rfl hn

theorem type_out_of_range_refused (tag : Byte) {s : State} (hp : s.powered = true) {n : Nat} (h : 8 ≤ n) :
    ∀ c ∈ [Instr.tareListClear tag n, .tareListRead tag n, .templateRead tag n], RefusedWithRange tag s c := by
  have hn : index 8 n = .error .range := index_out_of_range 8 n h
  simp only [List.forall_mem_cons]
  refine ⟨?_, ?_, ?_, List.forall_mem_nil _⟩ <;> exact refused_of_first hp rfl rfl rfl hn

theorem packtypeSet_type_out_of_range_refused (tag : Byte) {s : State} (hp : s.powered = true) {n : Nat} (d : Text)
    (nominal band : Int) (h : 8 ≤ n) : RefusedWithRange tag s (.packtypeSet tag n d nominal band) :=
  refused_of_first hp rfl rfl rfl (index_out_of_range 8 n h)

theorem set_out_of_range_refused (tag : Byte) {s : State} (hp : s.powered = true) {n : Nat} (h : 32 ≤ n) :
    RefusedWithRange tag s (.actionSetRead tag n) :=
  refused_of_first hp rfl rfl rfl (index_out_of_range 32 n h)

/-! ### Heads and restart forms -/

/-- The setting of HEAD-SET is 0 or 1 (R138, R201). -/
theorem headSet_setting_out_of_range_refused (tag : Byte) {s : State} (hp : s.powered = true) (head : Nat) {n : Nat}
    (h : 2 ≤ n) : RefusedWithRange tag s (.headSet tag head n) := by
  obtain ⟨n, rfl⟩ := Nat.exists_eq_add_of_le' h
  exact refused_of_rest hp rfl rfl rfl (index_refusesRangeOnly 2 head) fun _ _ => rfl

theorem restart_form_out_of_range_refused (tag : Byte) {s : State} (hp : s.powered = true) {n : Nat} (h : 2 ≤ n) :
    RefusedWithRange tag s (.restart tag n) := by
  obtain ⟨n, rfl⟩ := Nat.exists_eq_add_of_le' h
  exact ⟨0x37, rfl, exec_request _ 0x37 s rfl (by decide) hp⟩

theorem head_out_of_range_refused (tag : Byte) {s : State} (hp : s.powered = true) {n : Nat} (setting : Nat)
    (h : 2 ≤ n) :
    ∀ c ∈ [Instr.headResume tag n, .headReline tag n, .headSkip tag n, .headReset tag n, .headSet tag n setting,
      .headSet tag 0 n, .headSet tag 1 n, .headRead tag n, .restart tag n], RefusedWithRange tag s c := by
  have hn : index 2 n = .error .range := index_out_of_range 2 n h
  simp only [List.forall_mem_cons]
  exact ⟨refused_of_first hp rfl rfl rfl hn, refused_of_first hp rfl rfl rfl hn, refused_of_first hp rfl rfl rfl hn,
    refused_of_first hp rfl rfl rfl hn, refused_of_first hp rfl rfl rfl hn,
    headSet_setting_out_of_range_refused tag hp 0 h, headSet_setting_out_of_range_refused tag hp 1 h,
    refused_of_first hp rfl rfl rfl hn, restart_form_out_of_range_refused tag hp h, List.forall_mem_nil _⟩

/-! ### Runs -/

theorem run_out_of_range_refused (tag : Byte) {s : State} (hp : s.powered = true) {n : Nat} (h : n = 0 ∨ 65535 < n) :
    ∀ c ∈ [Instr.bulkStart tag n, .bulkNext tag n, .bulkHold tag n, .bulkResume tag n, .bulkShort tag n,
      .bulkAbort tag n, .bulkRetire tag n], RefusedWithRange tag s c := by
  have hn : bulkNamed n s = .error .range := bulkNamed_out_of_range s h
  simp only [List.forall_mem_cons]
  refine ⟨?_, ?_, ?_, ?_, ?_, ?_, ?_, List.forall_mem_nil _⟩ <;> exact refused_of_first hp rfl rfl rfl hn

/-- Run number 0 asks BULK-READ for the summary, so only a number above 65,535 is out of range (R66). -/
theorem bulkRead_run_out_of_range_refused (tag : Byte) {s : State} (hp : s.powered = true) {n : Nat} (h : 65535 < n) :
    RefusedWithRange tag s (.bulkRead tag n) := by
  have hn : n ≠ 0 := by omega
  exact refused_of_first hp rfl rfl (if_neg hn) (bulkNamed_out_of_range s (.inr h))

/-! ### Invoices -/

/-- What STENCIL-REQUEST names in front of its chest: a head and a template (R125). -/
theorem stencilRequest_out_of_range_refused (tag : Byte) {s : State} (hp : s.powered = true)
    {head template n : Nat} (chest : Nat) (h : 2 ≤ head ∨ 8 ≤ template ∨ n = 0 ∨ 99999 < n) :
    RefusedWithRange tag s (.stencilRequest tag head template n chest) := by
  refine refused_of_rest hp rfl rfl rfl (index_refusesRangeOnly 2 head) fun _ hhead => ?_
  refine (index_refusesRangeOnly 8 template).bind_range fun _ htemplate => ?_
  refine (require_refusesRangeOnly _).bind_range fun _ _ => bind_of_error _ (invoiceNamed_out_of_range s ?_)
  have := index_ok hhead
  have := index_ok htemplate
  omega

/-- INV-VOID-LAST names an invoice and an expected serial, 0 for none (R85). -/
theorem invVoidLast_out_of_range_refused (tag : Byte) {s : State} (hp : s.powered = true) {n expected : Nat}
    (h : 65535 < expected ∨ n = 0 ∨ 99999 < n) : RefusedWithRange tag s (.invVoidLast tag n expected) := by
  refine refused_of_rest hp rfl rfl rfl (require_refusesRangeOnly _) fun _ hexp => ?_
  have := within_eq_true.mp (require_ok hexp)
  exact bind_of_error _ (invoiceNamed_out_of_range s (by omega))

/-- INV-CLOSE names an invoice and the short option, a flag (R86). -/
theorem invClose_out_of_range_refused (tag : Byte) {s : State} (hp : s.powered = true) {n short : Nat}
    (h : 2 ≤ short ∨ n = 0 ∨ 99999 < n) : RefusedWithRange tag s (.invClose tag n short) := by
  refine refused_of_rest hp rfl rfl rfl (flag_refusesRangeOnly short) fun _ hshort => ?_
  have := flag_ok hshort
  exact bind_of_error _ (invoiceNamed_out_of_range s (by omega))

theorem invoice_out_of_range_refused (tag : Byte) {s : State} (hp : s.powered = true) {n : Nat} (m : Nat) (i : Fin 4)
    (head : Fin 2) (t : Fin 8) (f : InvAmendFields) (h : n = 0 ∨ 99999 < n) :
    ∀ c ∈ [Instr.invVoidLast tag n m, .invClose tag n m, .invCancel tag n, .invAmend tag n f, .sheetRelease tag n,
      .stationQueueAdd tag i n, .stationQueueRemove tag i n, .windowRead tag (some n), .stencilRequest tag head t n m],
      RefusedWithRange tag s c := by
  have hn := require_validInvoice_out_of_range h
  have hv : invoiceNamed n s = .error .range := invoiceNamed_out_of_range s h
  have hi := index_refusesRangeOnly 4 i
  simp only [List.forall_mem_cons]
  exact ⟨invVoidLast_out_of_range_refused tag hp (.inr h), invClose_out_of_range_refused tag hp (.inr h),
    refused_of_first hp rfl rfl rfl hv, refused_of_first hp rfl rfl rfl hn, refused_of_first hp rfl rfl rfl hn,
    refused_of_rest hp rfl rfl rfl hi fun _ _ => bind_of_error _ hv,
    refused_of_rest hp rfl rfl rfl hi fun _ _ => bind_of_error _ hn,
    refused_of_first hp rfl rfl rfl hn, stencilRequest_out_of_range_refused tag hp m (.inr (.inr h)),
    List.forall_mem_nil _⟩

/-- Invoice number 0 asks INV-READ for the table summary, so only a number above 99,999 is out of range (R96). -/
theorem invRead_invoice_out_of_range_refused (tag : Byte) {s : State} (hp : s.powered = true) {n : Nat} (part : Nat)
    (h : 99999 < n) : RefusedWithRange tag s (.invRead tag n part) := by
  have hn : n ≠ 0 := by omega
  exact refused_of_first hp rfl rfl (if_neg hn) (invoiceNamed_out_of_range s (.inr h))

/-- A fetch whose key holds a slot is answered by the slot; any other reaches the sheet builder (R184, R155). -/
theorem sheetFetch_invoice_out_of_range_refused (tag : Byte) {s : State} (hp : s.powered = true) {n : Nat}
    (part : Nat) (h : n = 0 ∨ 99999 < n) (hslot : ∀ i : Fin 4, s.link.slots[i].key ≠ some (.fetch n)) :
    RefusedWithRange tag s (.sheetFetch tag n part) := by
  have reaches : ownSheetFetch n part s = ownFetch n part s := by
    simp only [ownSheetFetch, Link.findSlot_eq_none hslot]
  exact refused_of_owner hp rfl rfl (reaches.trans (bind_of_error _ (require_validInvoice_out_of_range h)))

/-! ### STATION-CONFIG, INV-OPEN and INV-AMEND, field by field -/

/-- The settings of STATION-CONFIG, the station number aside (R3). -/
theorem configured_out_of_range (f : StationConfigFields) (old : StationSettings)
    (h : 4 ≤ f.role ∨ f.w ∉ [1, 2, 4, 8, 16, 32] ∨ f.m < 2 ∨ 16 < f.m ∨ 8 < f.b ∨ f.d ∉ [1, 2, 5, 10, 20, 50, 100] ∨
      f.c < 1000 ∨ 300000 < f.c ∨ f.l < 10 * f.d ∨ f.c < f.l ∨ 4 ≤ f.cls ∨ 2 ≤ f.autoRestart ∨ 8 ≤ f.tareTarget) :
    configured f old = .error .range := by
  refine (roleOf_refusesRangeOnly _).bind_range fun _ hrole => ?_
  refine (require_refusesRangeOnly _).bind_range fun _ hmeasuring => ?_
  refine (index_refusesRangeOnly 4 _).bind_range fun _ hcls => ?_
  refine (flag_refusesRangeOnly _).bind_range fun _ hrestart => ?_
  refine (index_refusesRangeOnly 8 _).bind_range fun _ htarget => False.elim ?_
  have hmeasuring := require_ok hmeasuring
  simp only [validWindow, validDivision, within_eq_true, Bool.and_eq_true, List.contains_iff_mem] at hmeasuring
  obtain ⟨⟨⟨⟨⟨hw, hm⟩, hb⟩, hd⟩, hc⟩, hl⟩ := hmeasuring
  have := roleOf_ok hrole
  have := index_ok hcls
  have := flag_ok hrestart
  have := index_ok htarget
  simp only [hw, hd, not_true_eq_false, false_or] at h
  omega

theorem stationConfig_out_of_range_refused (tag : Byte) {s : State} (hp : s.powered = true) (f : StationConfigFields)
    (h : 4 ≤ f.station ∨ 4 ≤ f.role ∨ f.w ∉ [1, 2, 4, 8, 16, 32] ∨ f.m < 2 ∨ 16 < f.m ∨ 8 < f.b ∨
      f.d ∉ [1, 2, 5, 10, 20, 50, 100] ∨ f.c < 1000 ∨ 300000 < f.c ∨ f.l < 10 * f.d ∨ f.c < f.l ∨ 4 ≤ f.cls ∨
      2 ≤ f.autoRestart ∨ 8 ≤ f.tareTarget) : RefusedWithRange tag s (.stationConfig tag f) := by
  refine refused_of_rest hp rfl rfl rfl (index_refusesRangeOnly 4 f.station) fun i hi => ?_
  have hstation : ¬ 4 ≤ f.station := Nat.not_le.mpr (index_ok hi)
  exact bind_of_error _ (configured_out_of_range f _ (h.resolve_left hstation))

theorem invOpen_out_of_range_refused (tag : Byte) {s : State} (hp : s.powered = true) (f : InvOpenFields)
    (h : f.number = 0 ∨ 99999 < f.number ∨ validText 12 f.garden = false ∨ validText 6 f.grade = false ∨
      8 ≤ f.packType ∨ f.declaredNet < 1000 ∨ 100000 < f.declaredNet ∨ f.packages = 0 ∨ 120 < f.packages ∨ 4 ≤ f.cls ∨
      9999 < f.ceiling ∨ 99999 < f.allowance ∨ 2 ≤ f.autoClose ∨
      (∃ n, f.bulkRun = some n ∧ (n = 0 ∨ 65535 < n)) ∨ (∃ d, f.date = some d ∧ validDate d = false)) :
    RefusedWithRange tag s (.invOpen tag f) := by
  refine refused_of_rest hp rfl rfl rfl (require_refusesRangeOnly _) fun _ hopen => ?_
  refine (index_refusesRangeOnly 8 _).bind_range fun _ htype => ?_
  refine (index_refusesRangeOnly 4 _).bind_range fun _ hcls => ?_
  refine (flag_refusesRangeOnly _).bind_range fun _ hclose => False.elim ?_
  have hopen := require_ok hopen
  simp only [openInRange, Bool.and_eq_true] at hopen
  obtain ⟨⟨⟨⟨⟨⟨⟨⟨hnumber, hgarden⟩, hgrade⟩, hnet⟩, hpackages⟩, hceiling⟩, hallowance⟩, hrun⟩, hdate⟩ := hopen
  have hruns : ¬ ∃ n, f.bulkRun = some n ∧ (n = 0 ∨ 65535 < n) := by
    rintro ⟨n, e, hn⟩
    simp [e, validRun_eq_false hn] at hrun
  have hdates : ¬ ∃ d, f.date = some d ∧ validDate d = false := by
    rintro ⟨d, e, hd⟩
    simp [e, hd] at hdate
  simp only [validInvoice, within_eq_true, Config.allowanceLimit] at hnumber hnet hpackages hceiling hallowance
  have := index_ok htype
  have := index_ok hcls
  have := flag_ok hclose
  simp only [hgarden, hgrade, hruns, hdates, Bool.true_eq_false, false_or, or_false] at h
  omega

theorem invAmend_out_of_range_refused (tag : Byte) {s : State} (hp : s.powered = true) (n : Nat) (f : InvAmendFields)
    (h : (f.garden.given = 1 ∧ validText 12 f.garden.value = false) ∨
      (f.grade.given = 1 ∧ validText 6 f.grade.value = false) ∨ (f.ceiling.given = 1 ∧ 9999 < f.ceiling.value) ∨
      (f.allowance.given = 1 ∧ 99999 < f.allowance.value) ∨ (f.autoClose.given = 1 ∧ 2 ≤ f.autoClose.value) ∨
      2 ≤ f.garden.given ∨ 2 ≤ f.grade.given ∨ 2 ≤ f.ceiling.given ∨ 2 ≤ f.allowance.given ∨ 2 ≤ f.autoClose.given) :
    RefusedWithRange tag s (.invAmend tag n f) := by
  refine refused_of_rest hp rfl rfl rfl (require_refusesRangeOnly _) fun _ _ => ?_
  refine (keepOr_refusesRangeOnly f.garden _).bind_range fun _ hgarden => ?_
  refine (keepOr_refusesRangeOnly f.grade _).bind_range fun _ hgrade => ?_
  refine (keepOr_refusesRangeOnly f.ceiling _).bind_range fun _ hceiling => ?_
  refine (keepOr_refusesRangeOnly f.allowance _).bind_range fun _ hallowance => ?_
  refine (keepFlag_refusesRangeOnly f.autoClose).bind_range fun _ hclose => False.elim ?_
  obtain ⟨hgarden, gardenValid⟩ := keepOr_ok hgarden
  obtain ⟨hgrade, gradeValid⟩ := keepOr_ok hgrade
  obtain ⟨hceiling, ceilingValid⟩ := keepOr_ok hceiling
  obtain ⟨hallowance, allowanceValid⟩ := keepOr_ok hallowance
  obtain ⟨hclose, closeValid⟩ := keepFlag_ok hclose
  simp only [within_eq_true, Config.allowanceLimit] at ceilingValid allowanceValid closeValid
  rcases h with ⟨given, bad⟩ | ⟨given, bad⟩ | h
  · exact absurd (gardenValid given) (by simp [bad])
  · exact absurd (gradeValid given) (by simp [bad])
  · omega

/-- Settles O4, block by block: behind checks that refuse with RANGE only, the check of the value out of range refuses. -/
theorem numbersOutOfRangeAreRefused : Obligations.NumbersOutOfRangeAreRefused := by
  unfold Obligations.NumbersOutOfRangeAreRefused
  intro tag s hp
  exact ⟨fun _ m h => station_out_of_range_refused tag hp m h,
    fun _ h => type_out_of_range_refused tag hp h,
    fun _ d nominal band h => packtypeSet_type_out_of_range_refused tag hp d nominal band h,
    fun _ h => set_out_of_range_refused tag hp h,
    fun _ setting h => head_out_of_range_refused tag hp setting h,
    fun _ h => run_out_of_range_refused tag hp h,
    fun _ h => bulkRead_run_out_of_range_refused tag hp h,
    fun _ m i head t f h => invoice_out_of_range_refused tag hp m i head t f h,
    fun _ part h => invRead_invoice_out_of_range_refused tag hp part h,
    fun _ part h hslot => sheetFetch_invoice_out_of_range_refused tag hp part h hslot,
    fun _ _ _ chest h => stencilRequest_out_of_range_refused tag hp chest (h.imp_right .inl),
    fun _ _ h => invVoidLast_out_of_range_refused tag hp (.inl h),
    fun _ _ h => invClose_out_of_range_refused tag hp (.inl h),
    fun f h => stationConfig_out_of_range_refused tag hp f h,
    fun f h => invOpen_out_of_range_refused tag hp f h,
    fun n f h => invAmend_out_of_range_refused tag hp n f h⟩

end Sys2Proof.Machine
end

section
/-! SUPPORT. The package type table (spec/02): rounding, tare values and tare lists, the class table's check against every
pair of classes, and what a request that ends in one check or in RANGE answers. -/

namespace Sys2Proof.Machine

/-! ### Rounding -/

/-- `roundNat n m` is the quotient of `2 * n + m` by `2 * m`, so it lies within half of `m` of the exact one. -/
theorem roundNat_bounds (n : Nat) {m : Nat} (hm : 0 < m) :
    2 * (m * roundNat n m) ≤ 2 * n + m ∧ 2 * n < 2 * (m * roundNat n m) + m := by
  have hdiv : 2 * m * roundNat n m + (2 * n + m) % (2 * m) = 2 * n + m := Nat.div_add_mod _ _
  have hmod : (2 * n + m) % (2 * m) < 2 * m := Nat.mod_lt _ (by omega)
  rw [Nat.mul_assoc] at hdiv
  omega

/-- The rounded quotient is a nearest one. -/
theorem roundNat_nearest (n : Nat) {m : Nat} (hm : 0 < m) : 2 * ((n : Int) - (m * roundNat n m : Nat)).natAbs ≤ m := by
  have := roundNat_bounds n hm
  omega

/-- Of two nearest quotients the rounded one is the higher. -/
theorem roundNat_half_up (n : Nat) {m : Nat} (hm : 0 < m)
    (half : 2 * ((n : Int) - (m * roundNat n m : Nat)).natAbs = m) : n < m * roundNat n m := by
  have := roundNat_bounds n hm
  omega

/-! ### Tare values and tare lists -/

theorem PackType.tare_of_empty {p : PackType} (h : p.tares = []) : p.tare = p.nominal := by simp [PackType.tare, h]

theorem PackType.tare_of_samples {p : PackType} (h : p.tares ≠ []) :
    p.tare = 10 * roundNat p.tares.sum (10 * p.tares.length) := by simp [PackType.tare, h]

theorem PackType.admits_iff {p : PackType} {gross : Int} :
    p.admits gross = true ↔ (p.nominal : Int) - p.band ≤ gross ∧ gross ≤ (p.nominal : Int) + p.band ∧ 1 ≤ gross :=
  decide_eq_true_iff

theorem pushNewest_of_lt {α : Type} {n : Nat} {l : List α} (x : α) (h : l.length < n) : pushNewest n l x = l ++ [x] := by
  have keepsAll : l.length + 1 - n = 0 := by omega
  rw [pushNewest, keepsAll, List.drop_zero]

theorem pushNewest_of_full {α : Type} {n : Nat} {l : List α} (x : α) (hn : 0 < n) (h : l.length = n) :
    pushNewest n l x = l.drop 1 ++ [x] := by
  have dropsOne : l.length + 1 - n = 1 := by omega
  rw [pushNewest, dropsOne, List.drop_append_of_le_length (by omega)]

theorem exec_tareSample_admitted {s : State} (hp : s.powered = true) (i : Fin 4) (t : Fin 8) (g : Int)
    (h : s.packs.types[t].admits g = true) :
    exec (.tareSample i t g) s = .next (((s.taken (.tareSample i t g)).setPackType t
      (s.packs.types[t].addSample g)).send (.tareAnswer i t true)) :=
  (onPower_powered hp fun s => takeTareSample i t g (s.taken (.tareSample i t g))).trans
    (congrArg Host.Outcome.next (if_pos h))

theorem exec_tareSample_rejected {s : State} (hp : s.powered = true) (i : Fin 4) (t : Fin 8) (g : Int)
    (h : ¬ s.packs.types[t].admits g = true) :
    exec (.tareSample i t g) s = .next ((s.taken (.tareSample i t g)).send (.tareAnswer i t false)) :=
  (onPower_powered hp fun s => takeTareSample i t g (s.taken (.tareSample i t g))).trans
    (congrArg Host.Outcome.next (if_neg h))

/-! ### The class table -/

theorem classesInRange_iff {cs : Vector Allowance 4} :
    classesInRange cs = true ↔ ∀ i : Fin 4, cs[i].under ≤ 4 ∧ cs[i].overBy ≤ 15 := by
  simp [classesInRange, Vector.all_eq_true, within, Fin.forall_iff]

/-- A table ordered from each class to the next is ordered from each class to every later one (R40). -/
theorem classesOrdered_iff {cs : Vector Allowance 4} :
    classesOrdered cs = true ↔ ∀ i j : Fin 4, i ≤ j → cs[j].under ≤ cs[i].under ∧ cs[j].overBy ≤ cs[i].overBy := by
  constructor
  · intro h
    obtain ⟨u1, u2, u3, o1, o2, o3⟩ := decide_eq_true_iff.mp h
    have hnext : ∀ i : Fin 3, cs[i.succ].under ≤ cs[i.castSucc].under ∧ cs[i.succ].overBy ≤ cs[i.castSucc].overBy
      | 0 => ⟨u1, o1⟩
      | 1 => ⟨u2, o2⟩
      | 2 => ⟨u3, o3⟩
    have hunder : Antitone fun i : Fin 4 => cs[i].under := Fin.antitone_iff_succ_le.mpr fun i => (hnext i).1
    have hover : Antitone fun i : Fin 4 => cs[i].overBy := Fin.antitone_iff_succ_le.mpr fun i => (hnext i).2
    exact fun i j hij => ⟨hunder hij, hover hij⟩
  · intro h
    have h1 := h 0 1 (by decide)
    have h2 := h 1 2 (by decide)
    have h3 := h 2 3 (by decide)
    exact decide_eq_true ⟨h1.1, h2.1, h3.1, h1.2, h2.2, h3.2⟩

/-! ### Requests that end in one check or in RANGE -/

theorem withinInt_eq_true {lo hi z : Int} : withinInt lo hi z = true ↔ lo ≤ z ∧ z ≤ hi := decide_eq_true_iff

/-- A request whose owner makes one check is taken when it is passed and refused when it is not. -/
theorem onRequest_checked {s t : State} {tag kind : Byte} {form : Form} {r : Reason} {owner : State → Answer} {c : Prop}
    [Decidable c] (hp : s.powered = true) (h : owner s = if c then .ok (t, form) else .error r) :
    onRequest tag kind s owner = if c then .next (t.reply tag kind form) else .next (s.reply tag kind (.refused r)) := by
  by_cases hc : c
  · rw [if_pos hc] at h ⊢
    exact onRequest_ok hp h
  · rw [if_neg hc] at h ⊢
    exact onRequest_refused hp h

/-- A request refused with RANGE is answered under its own kind. -/
theorem RefusedWithRange.exec_eq {tag k : Byte} {s : State} {c : Instr} (h : RefusedWithRange tag s c)
    (hk : c.requestKind = some k) : exec c s = .next (s.reply tag k (.refused .range)) := by
  obtain ⟨kind, hkind, hexec⟩ := h
  obtain rfl : kind = k := Option.some.inj (hkind.symm.trans hk)
  exact hexec

end Sys2Proof.Machine
end

section
/-! PROOF. Tare samples and tare values (R31 to R33), and the requests to the package type table (R36 to R41). -/

namespace Sys2Proof.Machine

/-! ### Tare samples and tare values -/

/-- The samples admitted and those rejected, with what becomes of the type's list (R31, R32). -/
theorem tareSample_judged {s : State} (hp : s.powered = true) (i : Fin 4) (t : Fin 8) (g : Int) :
    let p := s.packs.types[t]
    let u := s.taken (.tareSample i t g)
    ((p.nominal : Int) - p.band ≤ g ∧ g ≤ (p.nominal : Int) + p.band ∧ 1 ≤ g →
      ∃ tares : List Nat, exec (.tareSample i t g) s =
          .next ((u.setPackType t { p with tares := tares }).send (.tareAnswer i t true)) ∧
        (p.tares.length < 10 → tares = p.tares ++ [g.toNat]) ∧
        (p.tares.length = 10 → tares = p.tares.drop 1 ++ [g.toNat])) ∧
    (¬ ((p.nominal : Int) - p.band ≤ g ∧ g ≤ (p.nominal : Int) + p.band ∧ 1 ≤ g) →
      exec (.tareSample i t g) s = .next (u.send (.tareAnswer i t false))) := by
  intro p u
  refine ⟨fun h => ⟨pushNewest 10 p.tares g.toNat, ?_, pushNewest_of_lt _, pushNewest_of_full _ (by decide)⟩, fun h => ?_⟩
  · exact exec_tareSample_admitted hp i t g (PackType.admits_iff.mpr h)
  · exact exec_tareSample_rejected hp i t g (mt PackType.admits_iff.mp h)

/-- With samples in the list the tare value is ten times the quotient nearest to their sum by ten times their count, the
higher of two (R33). -/
theorem PackType.tare_nearest {p : PackType} (h : p.tares ≠ []) :
    ∃ k : Nat, p.tare = 10 * k ∧
      2 * ((p.tares.sum : Int) - 10 * p.tares.length * k).natAbs ≤ 10 * p.tares.length ∧
      (2 * ((p.tares.sum : Int) - 10 * p.tares.length * k).natAbs = 10 * p.tares.length →
        p.tares.sum < 10 * p.tares.length * k) := by
  have hcount : 0 < 10 * p.tares.length := Nat.mul_pos (by decide) (List.length_pos_iff.mpr h)
  have nearest := roundNat_nearest p.tares.sum hcount
  have half := roundNat_half_up p.tares.sum hcount
  rw [Nat.cast_mul, Nat.cast_mul] at nearest half
  exact ⟨_, PackType.tare_of_samples h, nearest, half⟩

/-- Settles O19: the two judgements of a sample, and the tare value as the nearest multiple. -/
theorem tareSamplesAndTareValue : Obligations.TareSamplesAndTareValue := by
  unfold Obligations.TareSamplesAndTareValue
  exact ⟨fun _ i t g hp => tareSample_judged hp i t g, fun _ => PackType.tare_of_empty, fun _ => PackType.tare_nearest,
    fun _ _ _ => by simp [PackType.tare_of_samples, roundNat]⟩

/-! ### Requests -/

theorem ownPacktypeSet_eq (t : Fin 8) (d : Text) (nom band : Int) (s : State) :
    ownPacktypeSet t d nom band s =
      if 100 ≤ nom ∧ nom ≤ 20000 ∧ 10 ≤ band ∧ band ≤ 2000 ∧ validText 8 d = true then
        .ok (s.setPackType t ⟨d, nom.toNat, band.toNat, []⟩, .ok (.packType t nom.toNat))
      else .error .range := by
  simp only [ownPacktypeSet, index_fin, ok_bind, require_bind, Bool.and_eq_true, withinInt_eq_true, and_assoc]
  rfl

theorem exec_packtypeSet {tag : Byte} {s : State} (hp : s.powered = true) (t : Fin 8) (d : Text) (nom band : Int) :
    exec (.packtypeSet tag t d nom band) s =
      if 100 ≤ nom ∧ nom ≤ 20000 ∧ 10 ≤ band ∧ band ≤ 2000 ∧ validText 8 d = true then
        .next ((s.setPackType t ⟨d, nom.toNat, band.toNat, []⟩).reply tag 0x07 (.ok (.packType t nom.toNat)))
      else .next (s.reply tag 0x07 (.refused .range)) :=
  onRequest_checked hp (ownPacktypeSet_eq t d nom band s)

theorem exec_tareListRead {tag : Byte} {s : State} (hp : s.powered = true) (t : Fin 8) :
    exec (.tareListRead tag t) s =
      .next (s.reply tag 0x09 (.ok (.tareList t s.packs.types[t] s.packs.types[t].tare))) :=
  onRequest_ok hp (by rw [ownTareListRead, index_fin, ok_bind, okWith])

theorem exec_classRead {tag : Byte} {s : State} (hp : s.powered = true) :
    exec (.classRead tag) s = .next (s.reply tag 0x0B (.ok (.classes s.packs.classes))) :=
  onRequest_ok hp rfl

theorem ownClassSet_eq (ps : Vector (Nat × Nat) 4) (s : State) :
    ownClassSet ps s =
      if (∀ i : Fin 4, ps[i].1 ≤ 4 ∧ ps[i].2 ≤ 15) ∧
          (∀ i j : Fin 4, i ≤ j → ps[j].1 ≤ ps[i].1 ∧ ps[j].2 ≤ ps[i].2) then
        .ok ({ s with packs := { s.packs with classes := ps.map fun p => ⟨p.1, p.2⟩ } },
          .ok (.classes (ps.map fun p => ⟨p.1, p.2⟩)))
      else .error .range := by
  simp only [ownClassSet, require_bind, Bool.and_eq_true, classesInRange_iff, classesOrdered_iff, Fin.getElem_fin,
    Vector.getElem_map, okWith]

theorem exec_classSet {tag : Byte} {s : State} (hp : s.powered = true) (ps : Vector (Nat × Nat) 4) :
    exec (.classSet tag ps) s =
      if (∀ i : Fin 4, ps[i].1 ≤ 4 ∧ ps[i].2 ≤ 15) ∧
          (∀ i j : Fin 4, i ≤ j → ps[j].1 ≤ ps[i].1 ∧ ps[j].2 ≤ ps[i].2) then
        .next (State.reply { s with packs := { s.packs with classes := ps.map fun p => ⟨p.1, p.2⟩ } } tag 0x0A
          (.ok (.classes (ps.map fun p => ⟨p.1, p.2⟩))))
      else .next (s.reply tag 0x0A (.refused .range)) :=
  onRequest_checked hp (ownClassSet_eq ps s)

/-- Settles O20, request by request: what its owner checks and answers decides what the command does. -/
theorem typesAndClassesAreSetWhole : Obligations.TypesAndClassesAreSetWhole := by
  unfold Obligations.TypesAndClassesAreSetWhole
  intro tag s hp
  exact ⟨exec_packtypeSet hp,
    fun _ d nom band h => (packtypeSet_type_out_of_range_refused tag hp d nom band h).exec_eq rfl,
    exec_tareListRead hp, exec_classRead hp, exec_classSet hp⟩

theorem exec_tareListClear {tag : Byte} {s : State} (hp : s.powered = true) (t : Fin 8) :
    exec (.tareListClear tag t) s =
      .next ((s.setPackType t { s.packs.types[t] with tares := [] }).reply tag 0x08
        (.ok (.packType t s.packs.types[t].nominal))) :=
  onRequest_ok hp (by rw [ownTareListClear, index_fin, ok_bind]; rfl)

/-- Settles O21: the tare value of an emptied list is the nominal tare. -/
theorem tareListClearEmptiesTheList : Obligations.TareListClearEmptiesTheList := by
  unfold Obligations.TareListClearEmptiesTheList
  intro tag s hp
  exact ⟨fun _ h => (type_out_of_range_refused tag hp h _ List.mem_cons_self).exec_eq rfl, exec_tareListClear hp⟩

end Sys2Proof.Machine
end

section
/-! SUPPORT. RESTART and the starts (spec/10): when a frame's end is the restart's, and what the clock and the record store
are behind a warm restart. -/

namespace Sys2Proof.Machine

/-! ### The request and its reply -/

@[simp] theorem restartForm_ctorIdx (form : RestartForm) : restartForm form.ctorIdx = .ok form := by cases form <;> rfl

theorem takeRestart_ctorIdx (tag : Byte) (form : RestartForm) (s : State) :
    takeRestart tag form.ctorIdx s = acceptRestart tag form s := by rw [takeRestart, restartForm_ctorIdx]

/-- With a request in hand nothing is dispatched: serving the line is the transmitter's next frame (R175). -/
theorem State.serve_inHand {s : State} {h : InHand} (hh : s.link.inHand = some h) : s.serve = s.transmit :=
  s.serve_idle (.inr (by simp [Link.mayDispatch, hh]))

/-- RESTART in a form there is: its OK reply joins the line and the request stays in hand (R191, R192). -/
theorem exec_restart_accepted {s : State} (hp : s.powered = true) (tag : Byte) (form : RestartForm) :
    exec (.restart tag form.ctorIdx) s = .next (acceptRestart tag form s).transmit := by
  rw [exec_request _ 0x37 s rfl (by decide) hp, takeRequest, takeRestart_ctorIdx, State.serve_inHand rfl]

/-! ### The end of a frame -/

theorem OutFrame.isRestart_iff {f : OutFrame} :
    f.isRestart = true ↔ ∃ r g, f = .reply r ∧ r.form = .ok (.restart g) := by
  constructor
  · intro h
    unfold OutFrame.isRestart at h
    split at h
    · split at h
      · exact ⟨_, _, rfl, ‹_›⟩
      · contradiction
    · contradiction
  · rintro ⟨r, g, rfl, h⟩
    simp [OutFrame.isRestart, h]

theorem takeFrameSent_idle {s : State} (h : s.link.sending = none) : takeFrameSent s = s := by simp [takeFrameSent, h]

/-- A frame that no restart waits for lets the next begin (R179). -/
theorem takeFrameSent_next {s : State} {f : OutFrame} (hf : s.link.sending = some f)
    (h : s.settings.restart = none ∨ f.isRestart = false) : takeFrameSent s = sendNext s := by
  cases hr : s.settings.restart with
  | none => simp [takeFrameSent, hf, hr]
  | some form =>
    have other : f.isRestart = false := h.resolve_left (by simp [hr])
    simp [takeFrameSent, hf, hr, other]

/-- The end of the reply a restart waits for starts the part in its form (R191, R192). -/
theorem takeFrameSent_restart {s : State} {f : OutFrame} {form : RestartForm} (hf : s.link.sending = some f)
    (hi : f.isRestart = true) (hr : s.settings.restart = some form) : takeFrameSent s = startIn form s := by
  simp [takeFrameSent, hf, hr, hi]

theorem exec_frameSent {s : State} (hp : s.powered = true) : exec .frameSent s = .next (takeFrameSent s) :=
  onPower_powered hp takeFrameSent

/-! ### The clock -/

@[simp] theorem moveClock_clock (next : ClockReading × Bool) (s : State) : (moveClock next s).clock = ⟨some next.1, 0⟩ := by
  obtain ⟨r, midnight⟩ := next
  cases midnight <;> rfl

theorem Clock.throughRestart_not_due {k : Clock} (h : k.reading = none ∨ k.phase < 1000) : k.throughRestart = k := by
  cases hr : k.reading with
  | none => simp [Clock.throughRestart, hr]
  | some r =>
    have notDue : ¬ Config.secondLength ≤ k.phase := Nat.not_le.mpr (h.resolve_left (by simp [hr]))
    simp [Clock.throughRestart, hr, notDue]

/-- A second due in a warm restart moves the clock as SECOND_ADVANCE does (R164, R170; log 43). -/
theorem throughRestart_of_secondAdvance {s u : State} (hp : s.powered = true) (hset : s.clock.reading ≠ none)
    (hdue : 1000 ≤ s.clock.phase) (h : exec .secondAdvance s = .next u) : s.clock.throughRestart = u.clock := by
  obtain ⟨r, hr⟩ := Option.ne_none_iff_exists'.mp hset
  obtain rfl : takeSecond s = u := Host.Outcome.next.inj ((onPower_powered hp takeSecond).symm.trans h)
  have due : Config.secondLength ≤ s.clock.phase := hdue
  simp [Clock.throughRestart, takeSecond, hr, due]

/-! ### The record store -/

/-- With every sheet written the free point stays through a warm restart (R162). -/
theorem Store.warm_free_of_written {t : Store} (m : Image) (h : ∀ k ∈ t.sheets, k.written = true) :
    (t.warm m).freePage = t.freePage ∧ (t.warm m).freeSlot = t.freeSlot := by
  have noneReserved : t.building = none := by simpa [Store.building] using h
  simp [Store.warm, noneReserved]

/-- The free point returns to where the earliest discarded sheet began (R162). -/
theorem Store.warm_free_of_reserved {t : Store} (m : Image) {front back : List Sheet} {h : Sheet}
    (hsheets : t.sheets = front ++ h :: back) (hfront : ∀ k ∈ front, k.written = true) (hh : h.written = false) :
    (t.warm m).freePage = h.page ∧ (t.warm m).freeSlot = h.first := by
  have atFront : t.building = some h :=
    List.find?_eq_some_iff_append.mpr ⟨by simp [hh], front, back, hsheets, fun k hk => by simp [hfront k hk]⟩
  simp [Store.warm, atFront]

end Sys2Proof.Machine
end

section
/-! PROOF. RESTART takes effect when its reply has been sent, and a warm one keeps what its rules name (R191 to R193). -/

namespace Sys2Proof.Machine

theorem restart_accepted {s : State} (hp : s.powered = true) (tag : Byte) (form : RestartForm) :
    exec (.restart tag form.ctorIdx) s = .next { s with
      settings := { s.settings with restart := some form }
      link := ({ s.link with
        inHand := some ⟨tag, 0x37⟩
        replies := s.link.replies ++ [⟨tag, 0x37, .ok (.restart form), false⟩] } : Link).beginSend } :=
  exec_restart_accepted hp tag form

/-- A frame that is not the reply of the restart asked for lets the next begin (R179). -/
theorem frameSent_of_other {s : State} (hp : s.powered = true) {f : OutFrame} (hf : s.link.sending = some f)
    (h : s.settings.restart = none ∨ (∀ r g, f = .reply r → r.form ≠ .ok (.restart g))) :
    exec .frameSent s = .next ({ s with link := { s.link with sending := none } } : State).serve := by
  have other : s.settings.restart = none ∨ f.isRestart = false := h.imp_right fun h =>
    Bool.eq_false_iff.mpr fun hi => by
      obtain ⟨r, g, hr, hform⟩ := OutFrame.isRestart_iff.mp hi
      exact h r g hr hform
  rw [exec_frameSent hp, takeFrameSent_next hf other]
  rfl

/-- The end of a restart's reply starts the part in the form asked for. -/
theorem frameSent_of_restart {s : State} (hp : s.powered = true) {r : Reply} {g form : RestartForm}
    (hf : s.link.sending = some (.reply r)) (hform : r.form = .ok (.restart g)) (hr : s.settings.restart = some form) :
    exec .frameSent s = .next (startIn form s) := by
  rw [exec_frameSent hp, takeFrameSent_restart hf (OutFrame.isRestart_iff.mpr ⟨r, g, rfl, hform⟩) hr]

/-- Settles O54: the reply's wait is decided at each frame's end, and the warm start is compared with the power-on. -/
theorem restartsWaitForTheirReply : Obligations.RestartsWaitForTheirReply := by
  unfold Obligations.RestartsWaitForTheirReply
  intro s hp
  refine ⟨restart_accepted hp, fun tag _ h => (restart_form_out_of_range_refused tag hp h).exec_eq rfl, fun h => ?_,
    fun f hf h => frameSent_of_other hp hf h, fun r g hf hform => ⟨fun hr => ?_, fun hr => ?_⟩⟩
  · rw [exec_frameSent hp, takeFrameSent_idle h]
  · exact frameSent_of_restart hp hf hform hr
  · exact ⟨warmStart s, coldStart s, frameSent_of_restart hp hf hform hr, rfl, rfl, rfl, rfl, rfl, rfl, rfl, rfl, rfl,
      Clock.throughRestart_not_due, fun _ hset hdue h => throughRestart_of_secondAdvance hp hset hdue h, rfl, rfl, rfl, rfl,
      rfl, rfl, Store.warm_free_of_written _, fun _ _ _ hsheets hfront hh => Store.warm_free_of_reserved _ hsheets hfront hh⟩

end Sys2Proof.Machine
end

section
/-! SUPPORT. The bulk table (spec/03 3.1): the record of a run and the active one, what an update of a run leaves, and the
first number of the circle 1..65,535 that is not in use (R45). -/

namespace Sys2Proof.Machine

/-! ### The record of a run, and the active one -/

theorem Bulking.find_eq_some {b : Bulking} {n : Nat} {r : BulkRecord} (h : b.find n = some r) :
    r ∈ b.records ∧ r.run = n :=
  ⟨List.mem_of_find?_eq_some h, by simpa using List.find?_some h⟩

theorem Bulking.active_eq_some {b : Bulking} {r : BulkRecord} (h : b.active = some r) :
    r ∈ b.records ∧ r.state.isActive = true :=
  ⟨List.mem_of_find?_eq_some h, List.find?_some (p := fun k : BulkRecord => k.state.isActive) h⟩

theorem Bulking.active_eq_none_iff {b : Bulking} : b.active = none ↔ ∀ k ∈ b.records, k.state.isActive = false := by
  simp [Bulking.active, List.find?_eq_none]

/-- Two updates of one run are one, where the first leaves its number. -/
theorem Bulking.update_update (b : Bulking) (n : Nat) {f g : BulkRecord → BulkRecord} (hf : ∀ r, (f r).run = r.run) :
    (b.update n f).update n g = b.update n fun r => g (f r) := by
  simp only [Bulking.update, List.map_map, Bulking.mk.injEq, List.map_inj_left, and_true]
  intro r _
  by_cases hr : r.run = n <;> simp [hr, hf]

/-- A request that names a run goes on with its record. -/
theorem bulkNamed_found {n : Nat} {s : State} {r : BulkRecord} (h1 : 1 ≤ n) (h2 : n ≤ 65535)
    (h : s.bulking.find n = some r) : bulkNamed n s = .ok r := by
  simp [bulkNamed, validRun, within, h1, h2, h]

theorem bulkNamed_notFound {n : Nat} {s : State} (h1 : 1 ≤ n) (h2 : n ≤ 65535) (h : s.bulking.find n = none) :
    bulkNamed n s = .error .notFound := by
  simp [bulkNamed, validRun, within, h1, h2, h]

/-- What passes a check and goes on to an answer. -/
theorem bind_eq_ok {α β : Type} {x : Except Reason α} {f : α → Except Reason β} {b : β} (h : (x >>= f) = .ok b) :
    ∃ a, x = .ok a ∧ f a = .ok b := by
  cases x with
  | error r => contradiction
  | ok a => exact ⟨a, rfl, h⟩

theorem find_of_bulkNamed {n : Nat} {s : State} {r : BulkRecord} (h : bulkNamed n s = .ok r) :
    s.bulking.find n = some r := by
  obtain ⟨_, -, h⟩ := bind_eq_ok h
  cases hf : s.bulking.find n with
  | none => rw [hf] at h; contradiction
  | some k => rw [hf] at h; exact congrArg some (Except.ok.inj h)

/-! ### The next number that is not in use -/

/-- The number `k + 1` places after `run` on the circle 1..65,535. -/
def numberAfter (run k : Nat) : Nat := (run + k) % 65535 + 1

theorem wrapNext_eq_numberAfter {run : Nat} (h1 : 1 ≤ run) (h2 : run ≤ 65535) : wrapNext run = numberAfter run 0 := by
  unfold wrapNext numberAfter
  split <;> omega

theorem wrapNext_numberAfter (run k : Nat) : wrapNext (numberAfter run k) = numberAfter run (k + 1) := by
  unfold wrapNext numberAfter
  split <;> omega

theorem numberAfter_inj {run j k : Nat} (hj : j < 65535) (hk : k < 65535) (h : numberAfter run j = numberAfter run k) :
    j = k := by
  unfold numberAfter at h
  omega

theorem numberAfter_range (run k : Nat) : 1 ≤ numberAfter run k ∧ numberAfter run k ≤ 65535 := by
  unfold numberAfter
  omega

/-- The search passes over numbers in use and ends at one that is not, or with its fuel. -/
theorem nextFree_numberAfter (used : Nat → Bool) (run fuel k : Nat) :
    ∃ m, k ≤ m ∧ m ≤ k + fuel ∧ nextFree used fuel (numberAfter run k) = numberAfter run m ∧
      (∀ j, k ≤ j → j < m → used (numberAfter run j) = true) ∧ (m < k + fuel → used (numberAfter run m) = false) := by
  induction fuel generalizing k with
  | zero => exact ⟨k, le_rfl, le_rfl, rfl, fun _ _ _ => by omega, fun _ => by omega⟩
  | succ fuel ih =>
    by_cases hu : used (numberAfter run k) = true
    · obtain ⟨m, hkm, hmf, hm, hpassed, hfree⟩ := ih (k + 1)
      refine ⟨m, by omega, by omega, ?_, fun j hkj hjm => ?_, fun hlt => hfree (by omega)⟩
      · rw [nextFree, if_pos hu, wrapNext_numberAfter, hm]
      · rcases Nat.eq_or_lt_of_le hkj with rfl | hlt
        · exact hu
        · exact hpassed j hlt hjm
    · refine ⟨k, le_rfl, by omega, by rw [nextFree, if_neg hu], fun _ _ _ => by omega, fun _ => by simpa using hu⟩

/-- With fuel for every number in use the search ends at the first that is not: were they all passed, one number more than
there are would be in use (R45, R72). -/
theorem nextFree_first {used : Nat → Bool} {held : List Nat} (hused : ∀ n, used n = true ↔ n ∈ held)
    (hheld : held.length < 65535) (run : Nat) :
    ∃ k, nextFree used held.length (numberAfter run 0) = numberAfter run k ∧ numberAfter run k ∉ held ∧
      ∀ j, j < k → numberAfter run j ∈ held := by
  obtain ⟨k, -, hk, he, hpassed, hfree⟩ := nextFree_numberAfter used run held.length 0
  have passed : ∀ j, j < k → numberAfter run j ∈ held := fun j hj => (hused _).mp (hpassed j (Nat.zero_le j) hj)
  refine ⟨k, he, fun hin => ?_, passed⟩
  have distinct : ((List.range (k + 1)).map (numberAfter run)).Nodup :=
    List.Nodup.map_on (fun i hi j hj e =>
      numberAfter_inj (by have := List.mem_range.mp hi; omega) (by have := List.mem_range.mp hj; omega) e) List.nodup_range
  have inside : (List.range (k + 1)).map (numberAfter run) ⊆ held := by
    intro n hn
    obtain ⟨j, hj, rfl⟩ := List.mem_map.mp hn
    rcases Nat.lt_succ_iff_lt_or_eq.mp (List.mem_range.mp hj) with hlt | rfl
    · exact passed j hlt
    · exact hin
  have count := (distinct.subperm inside).length_le
  rw [List.length_map, List.length_range] at count
  have free := hfree (by omega)
  rw [(hused _).mpr hin] at free
  contradiction

/-- BULK-DEFINE's search ends at the first number after `run` that no record holds (R45). -/
theorem nextRun_first (records : List BulkRecord) (hlen : records.length < 65535) {run : Nat} (h1 : 1 ≤ run)
    (h2 : run ≤ 65535) :
    ∃ k, nextFree (fun n => records.any fun r => r.run == n) records.length (wrapNext run) = numberAfter run k ∧
      numberAfter run k ∉ records.map (·.run) ∧ ∀ j, j < k → numberAfter run j ∈ records.map (·.run) := by
  have first := nextFree_first (used := fun n => records.any fun r => r.run == n) (held := records.map (·.run))
    (fun n => by simp) (by rwa [List.length_map]) run
  rwa [List.length_map, ← wrapNext_eq_numberAfter h1 h2] at first

end Sys2Proof.Machine
end

section
/-! SUPPORT. A sound bulk table (R44 to R48): what an update of one run must keep for the table to stay sound, and the
operations of the bulking controller that keep it so. -/

namespace Sys2Proof.Machine

/-! ### A record changed in place -/

/-- The record of the same run: its number and the fractions of its components are those of `k` (R44). -/
structure SameRun (k k' : BulkRecord) : Prop where
  run : k'.run = k.run
  fractions : k'.components.map (·.fraction) = k.components.map (·.fraction)

theorem map_fraction_modify (l : List Component) (i : Nat) {f : Component → Component}
    (hf : ∀ c, (f c).fraction = c.fraction) : (l.modify i f).map (·.fraction) = l.map (·.fraction) := by
  refine List.ext_getElem? fun j => ?_
  simp only [List.getElem?_map, List.getElem?_modify]
  by_cases hij : i = j <;> cases l[j]? <;> simp [hij, hf]

theorem map_fraction_map (l : List Component) {f : Component → Component} (hf : ∀ c, (f c).fraction = c.fraction) :
    (l.map f).map (·.fraction) = l.map (·.fraction) := by
  simp [hf]

/-- A component that takes another state leaves the run the same. -/
theorem SameRun.modify {k k' : BulkRecord} {i : Nat} {f : Component → Component} (hr : k'.run = k.run)
    (hc : k'.components = k.components.modify i f) (hf : ∀ c, (f c).fraction = c.fraction) : SameRun k k' :=
  ⟨hr, by rw [hc, map_fraction_modify _ _ hf]⟩

theorem SameRun.of_components {k k' : BulkRecord} (hr : k'.run = k.run) (hc : k'.components = k.components) : SameRun k k' :=
  ⟨hr, by rw [hc]⟩

theorem SameRun.trans {j k l : BulkRecord} (h : SameRun j k) (h' : SameRun k l) : SameRun j l :=
  ⟨h'.run.trans h.run, h'.fractions.trans h.fractions⟩

theorem SameRun.abort (r : BulkRecord) (gain : Int) : SameRun r (r.abort gain) :=
  ⟨rfl, map_fraction_map _ fun c => by unfold Component.abort; split <;> rfl⟩

theorem SameRun.shorten (r : BulkRecord) (tolerance i fed fraction : Nat) :
    SameRun r (r.shorten tolerance i fed fraction) := by
  refine ⟨rfl, (map_fraction_map _ fun c => ?_).trans (map_fraction_modify _ _ fun c => rfl)⟩
  unfold Component.rescale
  split <;> rfl

/-! ### Soundness under an update -/

/-- Soundness looks at the records, the next number, the gate and whether the stall timer runs. -/
theorem BulkSound.congr {b c : Bulking} (h : BulkSound b) (hrecords : c.records = b.records)
    (hnext : c.nextRun = b.nextRun) (hgate : c.gateOpen = b.gateOpen)
    (htimer : c.stallTimer.isSome = b.stallTimer.isSome) : BulkSound c := by
  obtain ⟨places, next, numbers, fractions, oneActive, gate, timer⟩ := h
  constructor <;> simpa only [hrecords, hnext, hgate, htimer]

theorem RunState.feeding_isActive {st : RunState} (h : st = .feeding) : st.isActive = true := h ▸ rfl

/-- Under distinct numbers, at most one active record means that two active records are one. -/
theorem oneActive_iff {l : List BulkRecord} (h : (l.map (·.run)).Nodup) :
    (l.filter fun r => r.state.isActive).length ≤ 1 ↔
      ∀ j ∈ l, ∀ k ∈ l, j.state.isActive = true → k.state.isActive = true → j = k := by
  rw [← List.toFinset_card_of_nodup (h.of_map.filter _), Finset.card_le_one]
  simp only [List.mem_toFinset, List.mem_filter]
  exact ⟨fun hall j hj k hk aj ak => hall j ⟨hj, aj⟩ k ⟨hk, ak⟩, fun hall j hj k hk => hall j hj.1 k hk.1 hj.2 hk.2⟩

section
variable {b c : Bulking} {n : Nat} {f : BulkRecord → BulkRecord}

theorem BulkSound.runs_nodup (h : BulkSound b) : (b.records.map (·.run)).Nodup := (List.nodup_cons.mp h.numbers).2

theorem BulkSound.eq_of_run (h : BulkSound b) {j k : BulkRecord} (hj : j ∈ b.records) (hk : k ∈ b.records)
    (e : j.run = k.run) : j = k :=
  List.inj_on_of_nodup_map h.runs_nodup hj hk e

theorem BulkSound.eq_of_active (h : BulkSound b) {j k : BulkRecord} (hj : j ∈ b.records) (hk : k ∈ b.records)
    (aj : j.state.isActive = true) (ak : k.state.isActive = true) : j = k :=
  (oneActive_iff h.runs_nodup).mp h.oneActive j hj k hk aj ak

/-- A record behind an update is one of the run updated, or another's as it was. -/
theorem Bulking.mem_update {k' : BulkRecord} :
    k' ∈ (b.update n f).records ↔
      (∃ k ∈ b.records, k.run = n ∧ k' = f k) ∨ (k' ∈ b.records ∧ k'.run ≠ n) := by
  simp only [Bulking.update, List.mem_map, beq_iff_eq]
  constructor
  · rintro ⟨k, hk, rfl⟩
    by_cases hr : k.run = n
    · exact .inl ⟨k, hk, hr, if_pos hr⟩
    · rw [if_neg hr]
      exact .inr ⟨hk, hr⟩
  · rintro (⟨k, hk, hr, rfl⟩ | ⟨hk, hr⟩)
    · exact ⟨k, hk, if_pos hr⟩
    · exact ⟨k', hk, if_neg hr⟩

theorem Bulking.map_run_update (hf : ∀ k ∈ b.records, k.run = n → (f k).run = k.run) :
    (b.update n f).records.map (·.run) = b.records.map (·.run) := by
  rw [Bulking.update, List.map_map]
  refine List.map_congr_left fun k hk => ?_
  simp only [Function.comp_apply, beq_iff_eq]
  split
  · exact hf k hk ‹_›
  · rfl

/-- An update of one run that keeps it the same, and makes it active only from active or with no run active, keeps the
table sound, with the gate and the stall timer as the records behind it have them. -/
theorem BulkSound.update (h : BulkSound b) (hrecords : c.records = (b.update n f).records) (hnext : c.nextRun = b.nextRun)
    (hf : ∀ k ∈ b.records, k.run = n → SameRun k (f k))
    (hactive : ∀ k ∈ b.records, k.run = n → (f k).state.isActive = true → k.state.isActive = true ∨ b.active = none)
    (hgate : c.gateOpen = true ↔ ∃ r ∈ c.records, r.state = .feeding)
    (htimer : c.stallTimer.isSome = true ↔ ∃ r ∈ c.records, r.state = .feeding) : BulkSound c := by
  have runs : c.records.map (·.run) = b.records.map (·.run) := by
    rw [hrecords, Bulking.map_run_update fun k hk hr => (hf k hk hr).run]
  refine ⟨?_, hnext ▸ h.next, ?_, fun k' hk' => ?_, ?_, hgate, htimer⟩
  · rw [← List.length_map (f := (·.run)), runs, List.length_map]
    exact h.places
  · rw [hnext, runs]
    exact h.numbers
  · rw [hrecords, Bulking.mem_update] at hk'
    rcases hk' with ⟨k, hk, hr, rfl⟩ | ⟨hk, -⟩
    · rw [(hf k hk hr).fractions]
      exact h.fractions k hk
    · exact h.fractions k' hk
  · -- an active record of the run updated was active already, or nothing was
    have apart : ∀ j ∈ b.records, j.run = n → (f j).state.isActive = true → ∀ k ∈ b.records, k.run ≠ n →
        k.state.isActive = true → False := by
      intro j hj hr aj k hk hk' ak
      rcases hactive j hj hr aj with aj | none
      · exact hk' (h.eq_of_active hj hk aj ak ▸ hr)
      · exact absurd ak (by simp [Bulking.active_eq_none_iff.mp none k hk])
    rw [oneActive_iff (runs ▸ h.runs_nodup)]
    intro j' hj' k' hk' aj ak
    rw [hrecords, Bulking.mem_update] at hj' hk'
    rcases hj' with ⟨j, hj, hjr, rfl⟩ | ⟨hj, hjr⟩ <;> rcases hk' with ⟨k, hk, hkr, rfl⟩ | ⟨hk, hkr⟩
    · exact congrArg f (h.eq_of_run hj hk (hjr.trans hkr.symm))
    · exact (apart j hj hjr aj k' hk hkr ak).elim
    · exact (apart k hk hkr ak j' hj hjr aj).elim
    · exact h.eq_of_active hj hk aj ak

/-- An update that feeds as before leaves the gate and the timer right. -/
theorem BulkSound.update_quiet (h : BulkSound b) (hrecords : c.records = (b.update n f).records)
    (hnext : c.nextRun = b.nextRun) (hgate : c.gateOpen = b.gateOpen) (htimer : c.stallTimer = b.stallTimer)
    (hf : ∀ k ∈ b.records, k.run = n → SameRun k (f k))
    (hactive : ∀ k ∈ b.records, k.run = n → (f k).state.isActive = true → k.state.isActive = true ∨ b.active = none)
    (hfeeding : ∀ k ∈ b.records, k.run = n → ((f k).state = .feeding ↔ k.state = .feeding)) : BulkSound c := by
  have feeds : (∃ r ∈ c.records, r.state = .feeding) ↔ ∃ r ∈ b.records, r.state = .feeding := by
    simp only [hrecords, Bulking.mem_update]
    constructor
    · rintro ⟨_, ⟨k, hk, hr, rfl⟩ | ⟨hk, -⟩, fk⟩
      · exact ⟨k, hk, (hfeeding k hk hr).mp fk⟩
      · exact ⟨_, hk, fk⟩
    · rintro ⟨k, hk, fk⟩
      by_cases hr : k.run = n
      · exact ⟨f k, .inl ⟨k, hk, hr, rfl⟩, (hfeeding k hk hr).mpr fk⟩
      · exact ⟨k, .inr ⟨hk, hr⟩, fk⟩
  exact h.update hrecords hnext hf hactive (by rw [hgate, feeds]; exact h.gate) (by rw [htimer, feeds]; exact h.timer)

/-- An update that takes the active run out of FEEDING goes with the gate closed and the timer stopped (R48). -/
theorem BulkSound.update_closed (h : BulkSound b) {r : BulkRecord} (hr : r ∈ b.records) (hn : r.run = n)
    (har : r.state.isActive = true) (hrecords : c.records = (b.update n f).records) (hnext : c.nextRun = b.nextRun)
    (hgate : c.gateOpen = false) (htimer : c.stallTimer = none) (hf : SameRun r (f r)) (hstops : (f r).state ≠ .feeding) :
    BulkSound c := by
  have only : ∀ k ∈ b.records, k.run = n → k = r := fun k hk hkn => h.eq_of_run hk hr (hkn.trans hn.symm)
  have none : ¬ ∃ k ∈ c.records, k.state = .feeding := by
    simp only [hrecords, Bulking.mem_update]
    rintro ⟨_, ⟨k, hk, hkn, rfl⟩ | ⟨hk, hkn⟩, fk⟩
    · exact hstops (only k hk hkn ▸ fk)
    · exact hkn (h.eq_of_active hk hr (RunState.feeding_isActive fk) har ▸ hn)
  refine h.update hrecords hnext (fun k hk hkn => only k hk hkn ▸ hf) (fun k hk hkn _ => .inl (only k hk hkn ▸ har)) ?_ ?_
  · simp [hgate, none]
  · simp [htimer, none]

/-- An update that takes the active run into FEEDING goes with the gate open and the timer running (R48). -/
theorem BulkSound.update_open (h : BulkSound b) {r : BulkRecord} (hr : r ∈ b.records) (hn : r.run = n)
    (har : r.state.isActive = true) (hrecords : c.records = (b.update n f).records) (hnext : c.nextRun = b.nextRun)
    (hgate : c.gateOpen = true) (htimer : c.stallTimer.isSome = true) (hf : SameRun r (f r))
    (hfeeds : (f r).state = .feeding) : BulkSound c := by
  have only : ∀ k ∈ b.records, k.run = n → k = r := fun k hk hkn => h.eq_of_run hk hr (hkn.trans hn.symm)
  have feeds : ∃ k ∈ c.records, k.state = .feeding :=
    ⟨f r, hrecords ▸ Bulking.mem_update.mpr (.inl ⟨r, hr, hn, rfl⟩), hfeeds⟩
  exact h.update hrecords hnext (fun k hk hkn => only k hk hkn ▸ hf) (fun k hk hkn _ => .inl (only k hk hkn ▸ har))
    (iff_of_true hgate feeds) (iff_of_true htimer feeds)

/-- An update of the one record found under a number that neither starts nor ends feeding. -/
theorem BulkSound.update_found (h : BulkSound b) {r : BulkRecord} (hr : b.find n = some r)
    (hrecords : c.records = (b.update n f).records) (hnext : c.nextRun = b.nextRun) (hgate : c.gateOpen = b.gateOpen)
    (htimer : c.stallTimer = b.stallTimer) (hf : SameRun r (f r))
    (hactive : (f r).state.isActive = true → r.state.isActive = true ∨ b.active = none)
    (hfeeding : (f r).state = .feeding ↔ r.state = .feeding) : BulkSound c := by
  obtain ⟨hmem, hn⟩ := Bulking.find_eq_some hr
  have only : ∀ k ∈ b.records, k.run = n → k = r := fun k hk hkn => h.eq_of_run hk hmem (hkn.trans hn.symm)
  exact h.update_quiet hrecords hnext hgate htimer (fun k hk hkn => only k hk hkn ▸ hf)
    (fun k hk hkn => only k hk hkn ▸ hactive) (fun k hk hkn => only k hk hkn ▸ hfeeding)

/-- A DEFINED run added under the next number, with a new next number that no record holds (R44, R45). -/
theorem BulkSound.define (h : BulkSound b) {r : BulkRecord} (hplace : b.records.length < 4) (hrun : r.run = b.nextRun)
    (hstate : r.state = .defined) (hsum : (r.components.map (·.fraction)).sum = 1000)
    (hrecords : c.records = b.records ++ [r]) (hnext : 1 ≤ c.nextRun ∧ c.nextRun ≤ 65535)
    (hfree : c.nextRun ∉ c.records.map (·.run)) (hgate : c.gateOpen = b.gateOpen)
    (htimer : c.stallTimer = b.stallTimer) : BulkSound c := by
  have feeds : (∃ k ∈ c.records, k.state = .feeding) ↔ ∃ k ∈ b.records, k.state = .feeding := by
    simp [hrecords, or_and_right, exists_or, hstate]
  refine ⟨?_, hnext, List.nodup_cons.mpr ⟨hfree, ?_⟩, fun k hk => ?_, ?_, ?_, ?_⟩
  · rw [hrecords, List.length_append]
    exact hplace
  · rw [hrecords, List.map_append, List.map_singleton, hrun]
    exact (List.perm_append_singleton _ _).nodup_iff.mpr h.numbers
  · rw [hrecords, List.mem_append, List.mem_singleton] at hk
    rcases hk with hk | rfl
    · exact h.fractions k hk
    · exact hsum
  · rw [hrecords, List.filter_append, List.length_append]
    simpa [hstate, RunState.isActive] using h.oneActive
  · rw [hgate, feeds]
    exact h.gate
  · rw [htimer, feeds]
    exact h.timer

/-- A run that does not feed leaves the table (R65). -/
theorem BulkSound.retire (h : BulkSound b) {r : BulkRecord} (hr : b.find n = some r) (hst : r.state ≠ .feeding)
    (hrecords : c.records = b.records.filter fun k => k.run != n) (hnext : c.nextRun = b.nextRun)
    (hgate : c.gateOpen = b.gateOpen) (htimer : c.stallTimer = b.stallTimer) : BulkSound c := by
  obtain ⟨hmem, hn⟩ := Bulking.find_eq_some hr
  have sub : c.records.Sublist b.records := hrecords ▸ List.filter_sublist
  have feeds : (∃ k ∈ c.records, k.state = .feeding) ↔ ∃ k ∈ b.records, k.state = .feeding := by
    refine ⟨fun ⟨k, hk, fk⟩ => ⟨k, sub.subset hk, fk⟩, fun ⟨k, hk, fk⟩ => ⟨k, ?_, fk⟩⟩
    rw [hrecords, List.mem_filter, bne_iff_ne]
    exact ⟨hk, fun e => hst (h.eq_of_run hk hmem (e.trans hn.symm) ▸ fk)⟩
  refine ⟨sub.length_le.trans h.places, hnext ▸ h.next, hnext ▸ h.numbers.sublist ((sub.map _).cons_cons _),
    fun k hk => h.fractions k (sub.subset hk), (sub.filter _).length_le.trans h.oneActive, ?_, ?_⟩
  · rw [hgate, feeds]
    exact h.gate
  · rw [htimer, feeds]
    exact h.timer

end

end Sys2Proof.Machine
end

section
/-! SUPPORT. The operations of the bulking controller keep the bulk table sound (R44 to R69): the arrivals it takes, the
requests it owns, and the commitments and returns of the invoice table. -/

namespace Sys2Proof.Machine

/-! ### Readings, holds and stalls -/

theorem startReading_sound {s : State} {r : BulkRecord} (h : BulkSound s.bulking) (hr : r ∈ s.bulking.records)
    (hst : r.state = .armed) (i : Nat) (c : Component) (q : Int) : BulkSound (startReading r i c q s).bulking := by
  have har : r.state.isActive = true := by rw [hst]; rfl
  unfold startReading
  split
  · refine h.update_quiet rfl rfl rfl rfl (fun k _ _ => .modify rfl rfl fun _ => rfl) (fun k hk hn _ => .inl ?_)
      fun k hk hn => ?_
    · exact h.eq_of_run hk hr hn ▸ har
    · rw [h.eq_of_run hk hr hn, hst]
      exact ⟨nofun, nofun⟩
  · exact h.update_open hr rfl har rfl rfl rfl rfl (.modify rfl rfl fun _ => rfl) rfl

theorem feedingReading_sound {s : State} {r : BulkRecord} (h : BulkSound s.bulking) (hr : r ∈ s.bulking.records)
    (hst : r.state = .feeding) (i : Nat) (c : Component) (q : Int) (d : Nat) :
    BulkSound (feedingReading r i c q d s).bulking := by
  unfold feedingReading
  split
  · exact h.update_closed hr rfl (RunState.feeding_isActive hst) rfl rfl rfl rfl (.modify rfl rfl fun _ => rfl) nofun
  · split
    · exact h.congr rfl rfl rfl (h.timer.mpr ⟨r, hr, hst⟩).symm
    · exact h

theorem settlingReading_sound {s : State} {r : BulkRecord} (h : BulkSound s.bulking) (hr : r ∈ s.bulking.records)
    (hst : r.state = .settling) (i : Nat) (c : Component) (station : Fin 4) (q : Int) :
    BulkSound (settlingReading r i c station q s).bulking := by
  refine h.update_quiet (n := r.run) rfl rfl rfl rfl (fun k _ _ => .modify rfl rfl fun _ => rfl)
    (fun k hk hn _ => .inl ?_) fun k hk hn => ?_
  · rw [h.eq_of_run hk hr hn, hst]; rfl
  · rw [h.eq_of_run hk hr hn, hst]
    exact ⟨nofun, nofun⟩

theorem takeReading_sound {s : State} (h : BulkSound s.bulking) (station : Fin 4) (q : Int) (settled : Bool) (d : Nat) :
    BulkSound (takeReading station q settled d s).bulking := by
  have hkept : BulkSound { s.bulking with lastReading := some ⟨station, d, q⟩ } := h.congr rfl rfl rfl rfl
  simp only [takeReading]
  split
  · exact hkept
  · rename_i r hactive
    obtain ⟨hr, -⟩ := Bulking.active_eq_some hactive
    split
    · exact hkept
    · rename_i i c _
      split
      · split
        · refine startReading_sound ?_ ?_ ‹_› i c q
          exacts [hkept, hr]
        · exact hkept
      · refine feedingReading_sound ?_ ?_ ‹_› i c q d
        exacts [hkept, hr]
      · split
        · refine settlingReading_sound ?_ ?_ ‹_› i c station q
          exacts [hkept, hr]
        · exact hkept
      · exact hkept

theorem carryGain_sound {s : State} {r : BulkRecord} (h : BulkSound s.bulking) (hr : r ∈ s.bulking.records)
    (har : r.state.isActive = true) (i : Nat) {st : RunState} (hst : st ≠ .feeding) :
    BulkSound (carryGain r i st s).bulking :=
  h.update_closed hr rfl har rfl rfl rfl rfl (.modify rfl rfl fun _ => rfl) hst

theorem stallRun_sound {s : State} {r : BulkRecord} (h : BulkSound s.bulking) (hr : r ∈ s.bulking.records)
    (har : r.state.isActive = true) (reason : StallReason) : BulkSound (stallRun reason r s).bulking := by
  unfold stallRun
  split
  · exact h
  · exact carryGain_sound h hr har _ nofun

theorem takeLeaveReport_sound {s : State} (h : BulkSound s.bulking) : BulkSound (takeLeaveReport s).bulking := by
  unfold takeLeaveReport
  split
  · exact h
  · rename_i r hactive
    obtain ⟨hr, har⟩ := Bulking.active_eq_some hactive
    split
    · exact stallRun_sound h hr har _
    · exact stallRun_sound h hr har _
    · exact h

theorem takeStallExpiry_sound {s : State} (h : BulkSound s.bulking) : BulkSound (takeStallExpiry s).bulking := by
  unfold takeStallExpiry
  split
  · rename_i r _ hactive
    obtain ⟨hr, har⟩ := Bulking.active_eq_some hactive
    split
    · exact stallRun_sound h hr har _
    · exact h
  · exact h

/-! ### Requests -/

/-- A run completes from a state in which it does not feed. -/
theorem completeRun_sound {s : State} {n : Nat} {k r : BulkRecord} (h : BulkSound s.bulking)
    (hk : s.bulking.find n = some k) (hsame : SameRun k r) (hst : k.state ≠ .feeding) :
    BulkSound (completeRun r s).bulking := by
  obtain ⟨-, rfl⟩ := Bulking.find_eq_some hk
  rw [← hsame.run] at hk
  exact h.update_found hk rfl rfl rfl rfl ⟨hsame.run, hsame.fractions⟩ nofun ⟨nofun, fun e => absurd e hst⟩

theorem ownBulkDefine_sound {total count : Nat} {cs : List ComponentFields} {s u : State} {form : Form}
    (h : BulkSound s.bulking) (e : ownBulkDefine total count cs s = .ok (u, form)) : BulkSound u.bulking := by
  obtain ⟨_, hrange, e⟩ := bind_eq_ok e
  obtain ⟨_, hplaces, e⟩ := bind_eq_ok e
  obtain ⟨rfl, -⟩ := Prod.mk.inj (Except.ok.inj e)
  have hrange := require_ok hrange
  have hplaces : s.bulking.records.length < 4 := of_decide_eq_true (require_ok hplaces)
  simp only [defineInRange, Bool.and_eq_true, beq_iff_eq] at hrange
  obtain ⟨-, hsum⟩ := hrange
  obtain ⟨k, hk, hfree, -⟩ := nextRun_first (s.bulking.records ++ [newRun s.bulking.nextRun total cs])
    (by simp; omega) h.next.1 h.next.2
  refine h.define hplaces rfl rfl ?_ rfl ?_ ?_ rfl rfl
  · rw [newRun, List.map_map]
    exact hsum
  · exact hk ▸ numberAfter_range _ k
  · exact hk ▸ hfree

theorem ownBulkStart_sound {n : Nat} {s u : State} {form : Form} (h : BulkSound s.bulking)
    (e : ownBulkStart n s = .ok (u, form)) : BulkSound u.bulking := by
  obtain ⟨r, hr, e⟩ := bind_eq_ok e
  obtain ⟨_, hstate, e⟩ := bind_eq_ok e
  obtain ⟨rfl, -⟩ := Prod.mk.inj (Except.ok.inj e)
  have hstate := require_ok hstate
  simp only [Bool.and_eq_true, beq_iff_eq, Option.isNone_iff_eq_none] at hstate
  obtain ⟨⟨hdefined, hnone⟩, -⟩ := hstate
  exact h.update_found (find_of_bulkNamed hr) rfl rfl rfl rfl (.modify rfl rfl fun _ => rfl) (fun _ => .inr hnone)
    ⟨nofun, fun e => by simp [hdefined] at e⟩

theorem ownBulkNext_sound {n : Nat} {s u : State} {form : Form} (h : BulkSound s.bulking)
    (e : ownBulkNext n s = .ok (u, form)) : BulkSound u.bulking := by
  obtain ⟨r, hr, e⟩ := bind_eq_ok e
  obtain ⟨_, hstate, e⟩ := bind_eq_ok e
  have hbetween : r.state = .between := beq_iff_eq.mp (require_ok hstate)
  have hr := find_of_bulkNamed hr
  split at e <;> obtain ⟨rfl, -⟩ := Prod.mk.inj (Except.ok.inj e)
  · exact h.update_found hr rfl rfl rfl rfl (.modify rfl rfl fun _ => rfl) (fun _ => .inl (by rw [hbetween]; rfl))
      ⟨nofun, fun e => by simp [hbetween] at e⟩
  · exact completeRun_sound h hr (.of_components rfl rfl) (by simp [hbetween])

theorem ownBulkHold_sound {n : Nat} {s u : State} {form : Form} (h : BulkSound s.bulking)
    (e : ownBulkHold n s = .ok (u, form)) : BulkSound u.bulking := by
  obtain ⟨r, hr, e⟩ := bind_eq_ok e
  obtain ⟨_, hstate, e⟩ := bind_eq_ok e
  obtain ⟨⟨i, _⟩, -, e⟩ := bind_eq_ok e
  have hr := find_of_bulkNamed hr
  have hstate := require_ok hstate
  simp only [Bool.or_eq_true, beq_iff_eq] at hstate
  dsimp only at e
  by_cases hfeeding : (r.state == .feeding) = true
  · rw [if_pos hfeeding] at e
    obtain ⟨rfl, -⟩ := Prod.mk.inj (Except.ok.inj e)
    exact carryGain_sound h (Bulking.find_eq_some hr).1 (RunState.feeding_isActive (beq_iff_eq.mp hfeeding)) i nofun
  · rw [if_neg hfeeding] at e
    obtain ⟨rfl, -⟩ := Prod.mk.inj (Except.ok.inj e)
    have harmed : r.state = .armed := hstate.resolve_left (mt beq_iff_eq.mpr hfeeding)
    exact h.update_found hr rfl rfl rfl rfl (.modify rfl rfl fun _ => rfl) (fun _ => .inl (by rw [harmed]; rfl))
      ⟨nofun, fun e => by simp [harmed] at e⟩

theorem ownBulkResume_sound {n : Nat} {s u : State} {form : Form} (h : BulkSound s.bulking)
    (e : ownBulkResume n s = .ok (u, form)) : BulkSound u.bulking := by
  obtain ⟨r, hr, e⟩ := bind_eq_ok e
  obtain ⟨_, hstate, e⟩ := bind_eq_ok e
  obtain ⟨rfl, -⟩ := Prod.mk.inj (Except.ok.inj e)
  have hstate := require_ok hstate
  simp only [Bool.or_eq_true, beq_iff_eq] at hstate
  refine h.update_found (find_of_bulkNamed hr) rfl rfl rfl rfl (.of_components rfl rfl) (fun _ => .inl ?_) ⟨nofun, ?_⟩
  · rcases hstate with e | e <;> rw [e] <;> rfl
  · rcases hstate with e | e <;> simp [e]

theorem ownBulkAbort_sound {n : Nat} {s u : State} {form : Form} (h : BulkSound s.bulking)
    (e : ownBulkAbort n s = .ok (u, form)) : BulkSound u.bulking := by
  obtain ⟨r, hr, e⟩ := bind_eq_ok e
  obtain ⟨_, -, e⟩ := bind_eq_ok e
  obtain ⟨rfl, -⟩ := Prod.mk.inj (Except.ok.inj e)
  have hr := find_of_bulkNamed hr
  obtain ⟨hmem, hn⟩ := Bulking.find_eq_some hr
  dsimp only
  split
  · exact h.update_closed hmem hn ‹_› rfl rfl rfl rfl (.abort _ _) nofun
  · rename_i hidle
    exact h.update_found hr rfl rfl rfl rfl (.abort _ _) nofun
      ⟨nofun, fun e => absurd (RunState.feeding_isActive e) hidle⟩

theorem ownBulkShort_sound {n : Nat} {s u : State} {form : Form} (h : BulkSound s.bulking)
    (e : ownBulkShort n s = .ok (u, form)) : BulkSound u.bulking := by
  obtain ⟨r, hr, e⟩ := bind_eq_ok e
  obtain ⟨_, hstate, e⟩ := bind_eq_ok e
  obtain ⟨⟨i, c⟩, -, e⟩ := bind_eq_ok e
  obtain ⟨_, -, e⟩ := bind_eq_ok e
  have hr := find_of_bulkNamed hr
  have hstate := require_ok hstate
  simp only [Bool.or_eq_true, beq_iff_eq] at hstate
  have hactive : r.state.isActive = true := by rcases hstate with (e | e) | e <;> rw [e] <;> rfl
  have hidle : r.state ≠ .feeding := by rcases hstate with (e | e) | e <;> simp [e]
  have hsame := SameRun.shorten r s.bulking.tolerance i (shortFed r c) c.fraction
  dsimp only at e
  split at e <;> obtain ⟨rfl, -⟩ := Prod.mk.inj (Except.ok.inj e)
  · refine completeRun_sound h hr (hsame.trans ⟨rfl, map_fraction_map _ fun k => ?_⟩) hidle
    split <;> rfl
  · exact h.update_found hr rfl rfl rfl rfl ⟨hsame.run, hsame.fractions⟩ (fun _ => .inl hactive) ⟨nofun, fun e => absurd e hidle⟩

theorem ownBulkRetire_sound {n : Nat} {s u : State} {form : Form} (h : BulkSound s.bulking)
    (e : ownBulkRetire n s = .ok (u, form)) : BulkSound u.bulking := by
  obtain ⟨r, hr, e⟩ := bind_eq_ok e
  obtain ⟨_, hstate, e⟩ := bind_eq_ok e
  obtain ⟨rfl, -⟩ := Prod.mk.inj (Except.ok.inj e)
  have hstate := require_ok hstate
  simp only [Bool.and_eq_true, Bool.or_eq_true, beq_iff_eq] at hstate
  refine h.retire (find_of_bulkNamed hr) ?_ rfl rfl rfl rfl
  rcases hstate.1 with e | e <;> simp [e]

theorem ownBulkConfig_sound {preactStart : Int} {tolerance : Nat} {preact : KeepField Int} {s u : State} {form : Form}
    (h : BulkSound s.bulking) (e : ownBulkConfig preactStart tolerance preact s = .ok (u, form)) :
    BulkSound u.bulking := by
  obtain ⟨_, -, e⟩ := bind_eq_ok e
  obtain ⟨_, -, e⟩ := bind_eq_ok e
  obtain ⟨_, -, e⟩ := bind_eq_ok e
  obtain ⟨rfl, -⟩ := Prod.mk.inj (Except.ok.inj e)
  exact h.congr rfl rfl rfl rfl

/-! ### Commitments and returns (R62, R63) -/

/-- A run whose weights alone change. -/
theorem BulkSound.update_weights {b c : Bulking} {n : Nat} {f : BulkRecord → BulkRecord} (h : BulkSound b)
    (hc : c = b.update n f) (hf : ∀ r, (f r).run = r.run ∧ (f r).components = r.components ∧ (f r).state = r.state) :
    BulkSound c := by
  subst hc
  refine h.update_quiet rfl rfl rfl rfl (fun r _ _ => .of_components (hf r).1 (hf r).2.1) (fun r _ _ ha => .inl ?_)
    fun r _ _ => by rw [(hf r).2.2]
  rwa [(hf r).2.2] at ha

theorem returnWeight_sound {s : State} (h : BulkSound s.bulking) (run : Option Nat) (weight : Nat) :
    BulkSound (returnWeight run weight s).bulking := by
  cases run with
  | none => exact h
  | some n => exact h.update_weights rfl fun _ => ⟨rfl, rfl, rfl⟩

theorem invoiceLeaves_sound {s : State} (h : BulkSound s.bulking) (run : Option Nat) :
    BulkSound (invoiceLeaves run s).bulking := by
  cases run with
  | none => exact h
  | some n => exact h.update_weights rfl fun _ => ⟨rfl, rfl, rfl⟩

theorem commitWeight_sound {run packages net : Nat} {s u : State} {g : Grant} (h : BulkSound s.bulking)
    (e : commitWeight run packages net s = .ok (u, g)) : BulkSound u.bulking := by
  obtain ⟨_, -, e⟩ := bind_eq_ok e
  obtain ⟨_, -, e⟩ := bind_eq_ok e
  obtain ⟨_, -, e⟩ := bind_eq_ok e
  obtain ⟨rfl, -⟩ := Prod.mk.inj (Except.ok.inj e)
  exact h.update_weights rfl fun _ => ⟨rfl, rfl, rfl⟩

theorem openCommitment_sound {r : InvOpenFields} {s u : State} {g : Grant} (h : BulkSound s.bulking)
    (e : openCommitment r s = .ok (u, g)) : BulkSound u.bulking := by
  unfold openCommitment at e
  split at e
  · obtain ⟨rfl, -⟩ := Prod.mk.inj (Except.ok.inj e)
    exact h
  · exact commitWeight_sound h e

theorem ownInvOpen_sound {r : InvOpenFields} {s u : State} {form : Form} (h : BulkSound s.bulking)
    (e : ownInvOpen r s = .ok (u, form)) : BulkSound u.bulking := by
  obtain ⟨_, -, e⟩ := bind_eq_ok e
  obtain ⟨_, -, e⟩ := bind_eq_ok e
  obtain ⟨_, -, e⟩ := bind_eq_ok e
  obtain ⟨_, -, e⟩ := bind_eq_ok e
  obtain ⟨_, -, e⟩ := bind_eq_ok e
  obtain ⟨_, -, e⟩ := bind_eq_ok e
  obtain ⟨_, -, e⟩ := bind_eq_ok e
  obtain ⟨⟨v, g⟩, hcommit, e⟩ := bind_eq_ok e
  obtain ⟨_, -, e⟩ := bind_eq_ok e
  obtain ⟨rfl, -⟩ := Prod.mk.inj (Except.ok.inj e)
  have hv : BulkSound v.bulking := openCommitment_sound h hcommit
  exact hv

theorem closeShort_sound {s : State} (h : BulkSound s.bulking) (v : Invoice) : BulkSound (closeShort v s).bulking := by
  simp only [closeShort, beginClosing_keeps, State.leaveQueues_bulking]
  refine returnWeight_sound ?_ _ _
  exact h

theorem ownInvClose_sound {n short : Nat} {s u : State} {form : Form} (h : BulkSound s.bulking)
    (e : ownInvClose n short s = .ok (u, form)) : BulkSound u.bulking := by
  obtain ⟨_, -, e⟩ := bind_eq_ok e
  obtain ⟨v, -, e⟩ := bind_eq_ok e
  split at e
  · obtain ⟨rfl, -⟩ := Prod.mk.inj (Except.ok.inj e)
    exact h
  · obtain ⟨_, -, e⟩ := bind_eq_ok e
    obtain ⟨rfl, -⟩ := Prod.mk.inj (Except.ok.inj e)
    exact closeShort_sound h v
  · contradiction

theorem ownInvCancel_sound {n : Nat} {s u : State} {form : Form} (h : BulkSound s.bulking)
    (e : ownInvCancel n s = .ok (u, form)) : BulkSound u.bulking := by
  obtain ⟨v, -, e⟩ := bind_eq_ok e
  obtain ⟨_, -, e⟩ := bind_eq_ok e
  obtain ⟨rfl, -⟩ := Prod.mk.inj (Except.ok.inj e)
  refine invoiceLeaves_sound (returnWeight_sound ?_ _ _) _
  exact h

theorem sheetReleased_sound {s : State} (h : BulkSound s.bulking) (n : Nat) : BulkSound (sheetReleased n s).bulking := by
  unfold sheetReleased
  split
  · exact h
  · refine invoiceLeaves_sound ?_ _
    exact h

theorem ownSheetRelease_sound {n : Nat} {s u : State} {form : Form} (h : BulkSound s.bulking)
    (e : ownSheetRelease n s = .ok (u, form)) : BulkSound u.bulking := by
  obtain ⟨_, -, e⟩ := bind_eq_ok e
  obtain ⟨t, -, e⟩ := bind_eq_ok e
  obtain ⟨_, -, e⟩ := bind_eq_ok e
  obtain ⟨_, -, e⟩ := bind_eq_ok e
  obtain ⟨_, -, e⟩ := bind_eq_ok e
  obtain ⟨rfl, -⟩ := Prod.mk.inj (Except.ok.inj e)
  simp only [releaseSheet]
  split
  · rw [(tryWaiting_keeps _ _).2.2.2.2.2.1]
    refine sheetReleased_sound ?_ _
    exact h
  · refine sheetReleased_sound ?_ _
    exact h

end Sys2Proof.Machine
end

section
/-! PROOF. Every step keeps the bulk table sound (R44, R45, R46, R48): request by request and arrival by arrival, most of
them writing nothing of the table. -/

namespace Sys2Proof.Machine

/-! ### Requests, taken and served -/

/-- A request keeps the table sound when its owner does. -/
theorem answerRequest_sound {tag kind : Byte} {s : State} {a : Answer} (h : BulkSound s.bulking)
    (ha : ∀ u form, a = .ok (u, form) → BulkSound u.bulking) : BulkSound (answerRequest tag kind s a).bulking := by
  cases a with
  | error r => exact h
  | ok p => exact ha p.1 p.2 rfl

/-- A request whose owner leaves the bulk table as it is keeps it sound. -/
theorem answerRequest_sound_of_kept {tag kind : Byte} {s : State} {a : Answer} (h : BulkSound s.bulking)
    (ha : ∀ u form, a = .ok (u, form) → u.bulking = s.bulking) : BulkSound (answerRequest tag kind s a).bulking :=
  answerRequest_sound h fun u form e => (ha u form e).symm ▸ h

theorem takeRestart_bulking (tag : Byte) (form : Nat) (s : State) : (takeRestart tag form s).bulking = s.bulking := by
  unfold takeRestart
  split <;> rfl

theorem takeRequest_sound {s : State} (h : BulkSound s.bulking) : ∀ i, BulkSound (takeRequest i s).bulking
  | .bulkDefine .. => answerRequest_sound h fun _ _ e => ownBulkDefine_sound h e
  | .bulkStart .. => answerRequest_sound h fun _ _ e => ownBulkStart_sound h e
  | .bulkNext .. => answerRequest_sound h fun _ _ e => ownBulkNext_sound h e
  | .bulkHold .. => answerRequest_sound h fun _ _ e => ownBulkHold_sound h e
  | .bulkResume .. => answerRequest_sound h fun _ _ e => ownBulkResume_sound h e
  | .bulkShort .. => answerRequest_sound h fun _ _ e => ownBulkShort_sound h e
  | .bulkAbort .. => answerRequest_sound h fun _ _ e => ownBulkAbort_sound h e
  | .bulkRetire .. => answerRequest_sound h fun _ _ e => ownBulkRetire_sound h e
  | .bulkConfig .. => answerRequest_sound h fun _ _ e => ownBulkConfig_sound h e
  | .invOpen .. => answerRequest_sound h fun _ _ e => ownInvOpen_sound h e
  | .invClose .. => answerRequest_sound h fun _ _ e => ownInvClose_sound h e
  | .invCancel .. => answerRequest_sound h fun _ _ e => ownInvCancel_sound h e
  | .sheetRelease .. => answerRequest_sound h fun _ _ e => ownSheetRelease_sound h e
  | .bulkRead .. => answerRequest_sound_of_kept h fun _ _ e => by simp [ownBulkRead_keeps _ _ e]
  | .stationConfig .. => answerRequest_sound_of_kept h fun _ _ e => by simp [ownStationConfig_keeps _ _ e]
  | .stationCal .. => answerRequest_sound_of_kept h fun _ _ e => by simp [ownStationCal_keeps _ _ _ _ e]
  | .stationRestart .. => answerRequest_sound_of_kept h fun _ _ e => by simp [ownStationRestart_keeps _ _ e]
  | .stationZero .. => answerRequest_sound_of_kept h fun _ _ e => by simp [ownStationZero_keeps _ _ e]
  | .weighCapture .. => answerRequest_sound_of_kept h fun _ _ e => by simp [ownWeighCapture_keeps _ _ e]
  | .stationRead .. => answerRequest_sound_of_kept h fun _ _ e => by simp [ownStationRead_keeps _ _ e]
  | .packtypeSet .. => answerRequest_sound_of_kept h fun _ _ e => by simp [ownPacktypeSet_keeps _ _ _ _ _ e]
  | .tareListClear .. => answerRequest_sound_of_kept h fun _ _ e => by simp [ownTareListClear_keeps _ _ e]
  | .tareListRead .. => answerRequest_sound_of_kept h fun _ _ e => by simp [ownTareListRead_keeps _ _ e]
  | .classSet .. => answerRequest_sound_of_kept h fun _ _ e => by simp [ownClassSet_keeps _ _ e]
  | .invAmend .. => answerRequest_sound_of_kept h fun _ _ e => by simp [ownInvAmend_keeps _ _ _ e]
  | .invRead .. => answerRequest_sound_of_kept h fun _ _ e => by simp [ownInvRead_keeps _ _ _ e]
  | .invVoidLast .. => answerRequest_sound_of_kept h fun _ _ e => by simp [ownInvVoidLast_keeps _ _ _ e]
  | .stationQueueAdd .. => answerRequest_sound_of_kept h fun _ _ e => by simp [ownStationQueueAdd_keeps _ _ _ e]
  | .stationQueueRemove .. => answerRequest_sound_of_kept h fun _ _ e => by simp [ownStationQueueRemove_keeps _ _ _ e]
  | .vectorSet .. => answerRequest_sound_of_kept h fun _ _ e => by simp [ownVectorSet_keeps _ _ _ e]
  | .actionSetWrite .. => answerRequest_sound_of_kept h fun _ _ e => by simp [ownActionSetWrite_keeps _ _ _ e]
  | .actionSetRead .. => answerRequest_sound_of_kept h fun _ _ e => by simp [ownActionSetRead_keeps _ _ e]
  | .templateLoad .. => answerRequest_sound_of_kept h fun _ _ e => by simp [ownTemplateLoad_keeps _ _ _ e]
  | .templateRead .. => answerRequest_sound_of_kept h fun _ _ e => by simp [ownTemplateRead_keeps _ _ e]
  | .stencilRequest .. => answerRequest_sound_of_kept h fun _ _ e => by simp [ownStencilRequest_keeps _ _ _ _ _ e]
  | .headResume .. => answerRequest_sound_of_kept h fun _ _ e => by simp [ownHeadResume_keeps _ _ e]
  | .headReline .. => answerRequest_sound_of_kept h fun _ _ e => by simp [ownHeadReline_keeps _ _ e]
  | .headSkip .. => answerRequest_sound_of_kept h fun _ _ e => by simp [ownHeadSkip_keeps _ _ e]
  | .headReset .. => answerRequest_sound_of_kept h fun _ _ e => by simp [ownHeadReset_keeps _ _ e]
  | .headSet .. => answerRequest_sound_of_kept h fun _ _ e => by simp [ownHeadSet_keeps _ _ _ e]
  | .headRead .. => answerRequest_sound_of_kept h fun _ _ e => by simp [ownHeadRead_keeps _ _ e]
  | .windowSet .. => answerRequest_sound_of_kept h fun _ _ e => by simp [ownWindowSet_keeps _ _ _ e]
  | .windowRead .. => answerRequest_sound_of_kept h fun _ _ e => by simp [ownWindowRead_keeps _ _ e]
  | .sheetFetch .. => answerRequest_sound_of_kept h fun _ _ e => by simp [ownSheetFetch_keeps _ _ _ e]
  | .storeRead .. => answerRequest_sound_of_kept h fun _ _ e => by simp [ownStoreRead_keeps _ _ e]
  | .clockSet .. => answerRequest_sound_of_kept h fun _ _ e => by simp [ownClockSet_keeps _ _ e]
  | .clockRound .. => answerRequest_sound_of_kept h fun _ _ e => by simp [ownClockRound_keeps _ e]
  | .noticeMask .. => answerRequest_sound_of_kept h fun _ _ e => by simp [ownNoticeMask_keeps _ _ e]
  | .linkSpeed .. => answerRequest_sound_of_kept h fun _ _ e => by simp [ownLinkSpeed_keeps _ _ e]
  | .saveSettings tag => by rw [takeRequest, (takeSaveSettings_keeps tag s).2.2.2.2.2.1]; exact h
  | .restart tag form => by rw [takeRequest, takeRestart_bulking]; exact h
  | .classRead .. | .vectorRead .. | .clockRead .. | .status .. => h
  | .sampleWord .. | .signalTimerExpiry .. | .append .. | .appendAnswer .. | .tareSample .. | .tareAnswer ..
  | .reading .. | .leaveReport | .stallTimerExpiry | .sampleMark .. | .event .. | .gatePulseEnd ..
  | .stencilJobRequest .. | .stencilStatus .. | .jobRemoval .. | .characterSent .. | .lineAcknowledge ..
  | .ackTimerExpiry .. | .headFault .. | .sheetRequest .. | .chestEntryWritten | .secondAdvance | .frameReceived ..
  | .badFrame | .frameGapTimeout | .frameSent | .noticeOffer .. | .captureWaitTimeout .. | .slotDiscard ..
  | .saveWriteEnd .. | .powerOn | .powerLoss | .byteReceived .. => h

theorem serve_sound {s : State} (h : BulkSound s.bulking) : BulkSound s.serve.bulking := by
  refine State.serve_keeps (fun s => BulkSound s.bulking) (fun _ h => h) (fun s f rest h _ => ?_) s h
  unfold takeFrame
  split
  · exact h
  · refine takeRequest_sound ?_ _
    exact h

/-! ### Starts -/

/-- The bulk table of a start is empty (R68, R69). -/
theorem BulkSound.start (m : Image) (preact : Int) {n : Nat} (h : 1 ≤ n ∧ n ≤ 65535) :
    BulkSound (Bulking.start m preact n) := by
  constructor <;> simp [Bulking.start, h]

theorem startIn_sound {s : State} (h : BulkSound s.bulking) (form : RestartForm) :
    BulkSound (startIn form s).bulking := by
  cases form with
  | warm => exact .start _ _ h.next
  | cold => exact .start _ _ (by decide)

theorem takeFrameSent_sound {s : State} (h : BulkSound s.bulking) : BulkSound (takeFrameSent s).bulking := by
  have next : BulkSound (sendNext s).bulking := by
    refine serve_sound ?_
    exact h
  unfold takeFrameSent
  split
  · exact h
  · split
    · split
      · exact startIn_sound h _
      · exact next
    · exact next

/-! ### Arrivals and expiries -/

theorem frameArrives_sound {s : State} (h : BulkSound s.bulking) (f : Frame) : BulkSound (frameArrives f s).bulking := by
  refine serve_sound ?_
  exact h

theorem takeByte_sound {s : State} (h : BulkSound s.bulking) (b : Byte) (stopBit : Bool) :
    BulkSound (takeByte b stopBit s).bulking := by
  unfold takeByte
  split
  · exact h
  · split
    · exact h
    · split
      · exact h
      · unfold assembleByte
        split
        · exact h
        · exact h
        · exact frameArrives_sound h _

theorem takeSaveWriteEnd_sound {s : State} (h : BulkSound s.bulking) (verified : Bool) :
    BulkSound (takeSaveWriteEnd verified s).bulking := by
  unfold takeSaveWriteEnd
  split
  · exact h
  · dsimp only
    split
    · refine serve_sound ?_
      exact h
    · refine serve_sound ?_
      exact h

theorem tick_sound {s : State} (h : BulkSound s.bulking) : BulkSound (tick s).bulking := by
  refine h.congr rfl rfl rfl ?_
  show (runTimer _).isSome = _
  rw [runTimer, Option.isSome_map]

/-! ### Commands and steps -/

/-- A command that a powered part takes by an operation that keeps the table sound. -/
theorem onPower_sound {f : State → State} {s t : State} (h : BulkSound s.bulking) (hf : BulkSound (f s).bulking)
    (e : onPower s f = .next t) : BulkSound t.bulking := by
  obtain rfl := Host.Outcome.next.inj e
  split
  · exact hf
  · exact h

/-- A command that a powered part takes by an operation that leaves the table as it is. -/
theorem onPower_sound_of_kept {f : State → State} {s t : State} (h : BulkSound s.bulking)
    (hf : (f s).bulking = s.bulking) (e : onPower s f = .next t) : BulkSound t.bulking :=
  onPower_sound h (hf.symm ▸ h) e

theorem exec_arrival_sound {c : Instr} {s t : State} (hc : c.requestKind = none) (h : BulkSound s.bulking)
    (e : exec c s = .next t) : BulkSound t.bulking := by
  unfold exec at e
  cases c with
  | reading station q settled d =>
    refine onPower_sound h ?_ e
    refine takeReading_sound ?_ station q settled d
    exact h
  | leaveReport =>
    refine onPower_sound h ?_ e
    refine takeLeaveReport_sound ?_
    exact h
  | stallTimerExpiry => exact onPower_sound h (takeStallExpiry_sound h) e
  | frameReceived f => exact onPower_sound h (frameArrives_sound h f) e
  | byteReceived b stopBit => exact onPower_sound h (takeByte_sound h (dataByte b) stopBit) e
  | frameSent => exact onPower_sound h (takeFrameSent_sound h) e
  | saveWriteEnd verified => exact onPower_sound h (takeSaveWriteEnd_sound h verified) e
  | powerOn =>
    obtain rfl := Host.Outcome.next.inj e
    exact .start _ _ (by decide)
  | powerLoss => exact onPower_sound h (.start _ _ (by decide)) e
  | sampleWord i w => exact onPower_sound_of_kept h (by split <;> simp) e
  | frameGapTimeout => exact onPower_sound_of_kept h (by split <;> rfl) e
  | signalTimerExpiry => exact onPower_sound_of_kept h (by simp) e
  | append => exact onPower_sound_of_kept h (by simp) e
  | appendAnswer => exact onPower_sound_of_kept h (by simp) e
  | tareSample => exact onPower_sound_of_kept h (by simp) e
  | tareAnswer => exact onPower_sound_of_kept h (by simp) e
  | sampleMark => exact onPower_sound_of_kept h (by simp) e
  | event => exact onPower_sound_of_kept h (by simp) e
  | stencilJobRequest => exact onPower_sound_of_kept h (by simp) e
  | stencilStatus => exact onPower_sound_of_kept h (by simp) e
  | lineAcknowledge => exact onPower_sound_of_kept h (by simp) e
  | ackTimerExpiry => exact onPower_sound_of_kept h (by simp) e
  | headFault => exact onPower_sound_of_kept h (by simp) e
  | sheetRequest => exact onPower_sound_of_kept h (by simp) e
  | chestEntryWritten => exact onPower_sound_of_kept h (by simp) e
  | secondAdvance => exact onPower_sound_of_kept h (by simp) e
  | captureWaitTimeout => exact onPower_sound_of_kept h (by simp) e
  | slotDiscard => exact onPower_sound_of_kept h (by simp) e
  | gatePulseEnd => exact onPower_sound_of_kept h rfl e
  | jobRemoval => exact onPower_sound_of_kept h rfl e
  | characterSent => exact onPower_sound_of_kept h rfl e
  | badFrame => exact onPower_sound_of_kept h rfl e
  | noticeOffer => exact onPower_sound_of_kept h rfl e
  | _ => contradiction

/-- The command of a request but SAVE-SETTINGS, with or without power (R178; logs 3 and 6). -/
theorem exec_request_onPower {c : Instr} {k : Byte} (s : State) (h : c.requestKind = some k) (hs : k ≠ 0x36) :
    exec c s = onPower s fun s => (takeRequest c s).serve := by
  cases c with
  | saveSettings => exact absurd (Option.some.inj h).symm hs
  | _ => first | contradiction | rfl

theorem eq_saveSettings {c : Instr} (h : c.requestKind = some 0x36) : ∃ tag, c = .saveSettings tag := by
  cases c with
  | saveSettings tag => exact ⟨tag, rfl⟩
  | _ => simp [Instr.requestKind] at h

theorem exec_sound {c : Instr} {s t : State} (h : BulkSound s.bulking) (e : exec c s = .next t) :
    BulkSound t.bulking := by
  cases hk : c.requestKind with
  | none => exact exec_arrival_sound hk h e
  | some k =>
    by_cases hs : k = 0x36
    · obtain ⟨tag, rfl⟩ := eq_saveSettings (hs ▸ hk)
      exact onPower_sound h (takeRequest_sound h (.saveSettings tag)) e
    · rw [exec_request_onPower s hk hs] at e
      refine onPower_sound h ?_ e
      exact serve_sound (s := takeRequest c s) (takeRequest_sound h c)

/-- Settles O58: each command, and each of the part's own acts, keeps the table sound. -/
theorem theBulkTableStaysSound : Obligations.TheBulkTableStaysSound := by
  unfold Obligations.TheBulkTableStaysSound
  intro s t h e
  unfold step at e
  split at e
  · refine exec_sound ?_ e
    exact h
  · split at e
    · exact exec_sound h e
    · obtain rfl := Host.Outcome.next.inj e
      unfold idle
      split
      · exact tick_sound h
      · exact h

end Sys2Proof.Machine
end

section
/-! PROOF. BULK-DEFINE makes a record, and BULK-START, BULK-NEXT and BULK-RESUME arm a component or complete the run (R44, R45,
R49, R53, R54, R58). -/

namespace Sys2Proof.Machine

/-! ### BULK-DEFINE -/

/-- The fields of BULK-DEFINE lie in their ranges and the fractions sum to 1,000 (R44). -/
def DefineValid (total : Nat) (cs : List ComponentFields) : Prop :=
  10000 ≤ total ∧ total ≤ 2000000 ∧ 1 ≤ cs.length ∧ cs.length ≤ 8 ∧
    (∀ c ∈ cs, 1 ≤ c.fraction ∧ c.fraction ≤ 1000 ∧ validText 10 c.label = true) ∧ (cs.map (·.fraction)).sum = 1000

theorem defineInRange_iff {total n : Nat} {cs : List ComponentFields} :
    defineInRange total n cs = true ↔ n = cs.length ∧ DefineValid total cs := by
  simp only [defineInRange, DefineValid, Bool.and_eq_true, beq_iff_eq, within_eq_true, List.all_eq_true, and_assoc]
  tauto

theorem exec_bulkDefine_refused {tag : Byte} {s : State} (hp : s.powered = true) {total n : Nat}
    {cs : List ComponentFields} (h : ¬ (n = cs.length ∧ DefineValid total cs)) :
    exec (.bulkDefine tag total n cs) s = .next (s.reply tag 0x0C (.refused .range)) :=
  onRequest_refused hp (bind_of_error _ (require_neg (mt defineInRange_iff.mp h) _))

/-- The next run number behind the record `r`: the first that no record holds (R45). -/
def Bulking.nextAfter (b : Bulking) (r : BulkRecord) : Nat :=
  nextFree (fun n => (b.records ++ [r]).any fun k => k.run == n) (b.records ++ [r]).length (wrapNext b.nextRun)

theorem ownBulkDefine_eq {s : State} {total : Nat} {cs : List ComponentFields} (h : DefineValid total cs) :
    ownBulkDefine total cs.length cs s =
      if s.bulking.records.length < 4 then
        .ok ({ s with bulking := { s.bulking with
            records := s.bulking.records ++ [newRun s.bulking.nextRun total cs]
            nextRun := s.bulking.nextAfter (newRun s.bulking.nextRun total cs) } },
          .ok (.bulkDefined s.bulking.nextRun (cs.map fun c => share total c.fraction)))
      else .error .full := by
  have targets : (newRun s.bulking.nextRun total cs).components.map (·.target) = cs.map fun c => share total c.fraction := by
    rw [newRun, List.map_map]
    rfl
  rw [ownBulkDefine, require_bind, if_pos (defineInRange_iff.mpr ⟨rfl, h⟩)]
  simp only [require_bind, decide_eq_true_eq, targets]
  rfl

theorem Bulking.nextAfter_first {b : Bulking} {r : BulkRecord} (hr : r.run = b.nextRun) (hplace : b.records.length < 4)
    (h1 : 1 ≤ b.nextRun) (h2 : b.nextRun ≤ 65535) :
    ∃ k, b.nextAfter r = numberAfter b.nextRun k ∧ b.nextAfter r ∉ b.nextRun :: b.records.map (·.run) ∧
      ∀ j, j < k → numberAfter b.nextRun j ∈ b.nextRun :: b.records.map (·.run) := by
  have hlen : (b.records ++ [r]).length < 65535 := by rw [List.length_append, List.length_singleton]; omega
  obtain ⟨k, hk, hfree, hpassed⟩ := nextRun_first (b.records ++ [r]) hlen h1 h2
  have held : ∀ n, n ∈ (b.records ++ [r]).map (·.run) ↔ n ∈ b.nextRun :: b.records.map (·.run) := fun n => by
    rw [List.map_append, List.map_singleton, List.mem_append, List.mem_singleton, List.mem_cons, or_comm, hr]
  have hk : b.nextAfter r = numberAfter b.nextRun k := hk
  exact ⟨k, hk, hk ▸ mt (held _).mpr hfree, fun j hj => (held _).mp (hpassed j hj)⟩

theorem exec_bulkDefine_full {tag : Byte} {s : State} (hp : s.powered = true) {total : Nat} {cs : List ComponentFields}
    (h : DefineValid total cs) (hfull : 4 ≤ s.bulking.records.length) :
    exec (.bulkDefine tag total cs.length cs) s = .next (s.reply tag 0x0C (.refused .full)) :=
  onRequest_refused hp ((ownBulkDefine_eq h).trans (if_neg (Nat.not_lt.mpr hfull)))

theorem exec_bulkDefine_taken {tag : Byte} {s : State} (hp : s.powered = true) {total : Nat} {cs : List ComponentFields}
    (h : DefineValid total cs) (hplace : s.bulking.records.length < 4) :
    exec (.bulkDefine tag total cs.length cs) s = .next (State.reply
      { s with bulking := { s.bulking with
        records := s.bulking.records ++ [newRun s.bulking.nextRun total cs]
        nextRun := s.bulking.nextAfter (newRun s.bulking.nextRun total cs) } }
      tag 0x0C (.ok (.bulkDefined s.bulking.nextRun (cs.map fun c => share total c.fraction)))) :=
  onRequest_ok hp ((ownBulkDefine_eq h).trans (if_pos hplace))

/-- Settles O22: the checks in their order, and the search for the next number as the first one no record holds. -/
theorem bulkDefineMakesARecord : Obligations.BulkDefineMakesARecord := by
  unfold Obligations.BulkDefineMakesARecord
  intro tag s total cs hp
  exact ⟨fun h => exec_bulkDefine_refused hp fun hv => h hv.2, fun n h => exec_bulkDefine_refused hp fun hv => h hv.1,
    fun h => exec_bulkDefine_full hp h, fun h hplace =>
      ⟨_, exec_bulkDefine_taken hp h hplace, Bulking.nextAfter_first rfl hplace⟩⟩

end Sys2Proof.Machine
end

section
/-! PROOF. BULK-START, BULK-NEXT and BULK-RESUME arm a component of a run or complete it (R49, R53, R54, R58). -/

namespace Sys2Proof.Machine

/-! ### Requests that name a run -/

/-- A request that begins with the record of a run is refused with NOTFOUND when there is none. -/
theorem run_notFound {tag kind : Byte} {s : State} {c : Instr} {owner : State → Answer} {n : Nat}
    {rest : BulkRecord → Answer} (hp : s.powered = true) (he : exec c s = onRequest tag kind s owner)
    (ho : owner s = (bulkNamed n s >>= rest)) (h1 : 1 ≤ n) (h2 : n ≤ 65535) (h : s.bulking.find n = none) :
    exec c s = .next (s.reply tag kind (.refused .notFound)) :=
  he.trans (onRequest_refused hp (ho.trans (bind_of_error rest (bulkNamed_notFound h1 h2 h))))

section
variable {tag : Byte} {s : State} {n : Nat} {r : BulkRecord}

/-! ### The FEED station -/

theorem feedStation_eq_some {i : Fin 4} (h : s.stations[i].settings.role = .feed)
    (hothers : ∀ j : Fin 4, j ≠ i → s.stations[j].settings.role ≠ .feed) : feedStation s = some i := by
  cases hf : feedStation s with
  | none =>
    have none := List.find?_eq_none.mp hf i (List.mem_finRange i)
    exact absurd (beq_iff_eq.mpr h) none
  | some j =>
    have feeds := List.find?_some (p := fun k : Fin 4 => s.stations[k].settings.role == .feed) hf
    have feeds : s.stations[j].settings.role = .feed := beq_iff_eq.mp feeds
    exact congrArg some (by_contra fun hj => hothers j hj feeds)

theorem feedIsActive_iff {i : Fin 4} (h : s.stations[i].settings.role = .feed)
    (hothers : ∀ j : Fin 4, j ≠ i → s.stations[j].settings.role ≠ .feed) :
    feedIsActive s = true ↔ s.stations[i].state = .active := by
  rw [feedIsActive, feedStation_eq_some h hothers]
  exact beq_iff_eq

theorem feedIsActive_of_none (h : ∀ i : Fin 4, s.stations[i].settings.role ≠ .feed) : feedIsActive s = false := by
  have none : feedStation s = none := List.find?_eq_none.mpr fun i _ => by simpa using h i
  rw [feedIsActive, none]

/-! ### BULK-START -/

theorem exec_bulkStart (hp : s.powered = true) (h1 : 1 ≤ n) (h2 : n ≤ 65535) (hr : s.bulking.find n = some r) :
    exec (.bulkStart tag n) s =
      if r.state = .defined ∧ (∀ k ∈ s.bulking.records, k.state.isActive = false) ∧ feedIsActive s = true then
        .next ((s.updateRun n fun k => { k.move 0 .armed .armed with active := some 0, carried := 0, start := none }).reply
          tag 0x0D (.ok .done))
      else .next (s.reply tag 0x0D (.refused .state)) :=
  onRequest_checked hp (by
    simp only [ownBulkStart, bulkNamed_found h1 h2 hr, ok_bind, require_bind, Bool.and_eq_true, beq_iff_eq,
      Option.isNone_iff_eq_none, Bulking.active_eq_none_iff, and_assoc]
    rfl)

/-! ### BULK-NEXT -/

theorem BulkRecord.nextPending_eq_some {i : Nat} {c : Component} (hc : r.components[i]? = some c)
    (hst : c.state = .pending) (hbefore : ∀ j d, j < i → r.components[j]? = some d → d.state ≠ .pending) :
    r.nextPending = some i := by
  obtain ⟨hi, rfl⟩ := List.getElem?_eq_some_iff.mp hc
  refine List.findIdx?_eq_some_iff_getElem.mpr ⟨hi, beq_iff_eq.mpr hst, fun j hj => ?_⟩
  simpa using hbefore j _ hj (List.getElem?_eq_getElem (hj.trans hi))

theorem BulkRecord.nextPending_eq_none (h : ∀ c ∈ r.components, c.state ≠ .pending) : r.nextPending = none :=
  List.findIdx?_eq_none_iff.mpr fun c hc => by simpa using h c hc

theorem exec_bulkNext_refused (hp : s.powered = true) (h1 : 1 ≤ n) (h2 : n ≤ 65535) (hr : s.bulking.find n = some r)
    (hst : r.state ≠ .between) : exec (.bulkNext tag n) s = .next (s.reply tag 0x0E (.refused .state)) :=
  onRequest_refused hp (by rw [ownBulkNext, bulkNamed_found h1 h2 hr, ok_bind, require_bind, if_neg (by simpa using hst)])

theorem exec_bulkNext_armed (hp : s.powered = true) (h1 : 1 ≤ n) (h2 : n ≤ 65535) (hr : s.bulking.find n = some r)
    (hst : r.state = .between) {i : Nat} (hi : r.nextPending = some i) :
    exec (.bulkNext tag n) s = .next ((s.updateRun n fun k =>
      { k.move i .armed .armed with active := some i, carried := 0, start := none }).reply tag 0x0E
        (.ok (.bulkNext .armed ((r.components[i]?).map fun c => (i, c.target))))) :=
  onRequest_ok hp (by
    rw [ownBulkNext, bulkNamed_found h1 h2 hr, ok_bind, require_bind, if_pos (beq_iff_eq.mpr hst), hi]
    rfl)

theorem exec_bulkNext_complete (hp : s.powered = true) (h1 : 1 ≤ n) (h2 : n ≤ 65535) (hr : s.bulking.find n = some r)
    (hst : r.state = .between) (hnone : r.nextPending = none) :
    exec (.bulkNext tag n) s = .next ((completeRun r s).reply tag 0x0E (.ok (.bulkNext .complete none))) :=
  onRequest_ok hp (by
    rw [ownBulkNext, bulkNamed_found h1 h2 hr, ok_bind, require_bind, if_pos (beq_iff_eq.mpr hst), hnone]
    rfl)

/-! ### BULK-RESUME -/

theorem exec_bulkResume (hp : s.powered = true) (h1 : 1 ≤ n) (h2 : n ≤ 65535) (hr : s.bulking.find n = some r) :
    exec (.bulkResume tag n) s =
      if r.state = .held ∨ r.state = .stalled then
        .next ((s.updateRun n fun k => { k with state := .armed }).reply tag 0x10 (.ok .done))
      else .next (s.reply tag 0x10 (.refused .state)) :=
  onRequest_checked hp (by
    simp only [ownBulkResume, bulkNamed_found h1 h2 hr, ok_bind, require_bind, Bool.or_eq_true, beq_iff_eq]
    rfl)

end

/-- Settles O23: each request by the state of the record it names. -/
theorem runsAreArmed : Obligations.RunsAreArmed := by
  unfold Obligations.RunsAreArmed
  refine ⟨fun s => ⟨fun i h hothers => feedIsActive_iff h hothers, feedIsActive_of_none⟩, fun tag s n hp h1 h2 => ?_,
    fun tag s n hp h1 h2 => ?_, fun tag s n hp h1 h2 => ?_⟩
  · refine ⟨run_notFound hp rfl rfl h1 h2, fun r hr => ⟨fun h => ?_, fun h => ?_⟩⟩
    · rw [exec_bulkStart hp h1 h2 hr, if_neg h]
    · rw [exec_bulkStart hp h1 h2 hr, if_pos h]
      rfl
  · refine ⟨run_notFound hp rfl rfl h1 h2, fun r hr => ⟨exec_bulkNext_refused hp h1 h2 hr,
      fun hst i c hc hpending hbefore => ?_, fun hst hnone => ?_⟩⟩
    · rw [exec_bulkNext_armed hp h1 h2 hr hst (BulkRecord.nextPending_eq_some hc hpending hbefore), hc]
      rfl
    · obtain ⟨-, rfl⟩ := Bulking.find_eq_some hr
      exact exec_bulkNext_complete hp h1 h2 hr hst (BulkRecord.nextPending_eq_none hnone)
  · refine ⟨run_notFound hp rfl rfl h1 h2, fun r hr => ⟨fun hheld hstalled => ?_, fun h => ?_⟩⟩
    · rw [exec_bulkResume hp h1 h2 hr, if_neg (not_or.mpr ⟨hheld, hstalled⟩)]
    · rw [exec_bulkResume hp h1 h2 hr, if_pos h]

end Sys2Proof.Machine
end

section
/-! PROOF. Holds and stalls carry the gain, and an abort ends a run with what it has fed (R47, R56, R57, R59). -/

namespace Sys2Proof.Machine

section
variable {tag : Byte} {s : State} {n i : Nat} {r : BulkRecord} {c : Component} {l : LastReading} {w : Int}

/-! ### The gain, and what carrying it does -/

theorem BulkRecord.activeComponent_eq_some (ha : r.active = some i) (hc : r.components[i]? = some c) :
    r.activeComponent = some (i, c) := by
  simp [BulkRecord.activeComponent, ha, hc]

theorem Bulking.gainAtLast_of_start {b : Bulking} (hl : b.lastReading = some l) (hw : r.start = some w) :
    b.gainAtLast r = r.carried + (l.q - w) := by
  simp [Bulking.gainAtLast, BulkRecord.gain, hl, hw]

/-- With no start weight the gain is what is carried (R56, R59). -/
theorem Bulking.gainAtLast_of_no_start {b : Bulking} (h : r.start = none) : b.gainAtLast r = r.carried := by
  unfold Bulking.gainAtLast
  split
  · rw [BulkRecord.gain, h]
  · rfl

theorem stallRun_eq {reason : StallReason} (ha : r.active = some i) (hc : r.components[i]? = some c) :
    stallRun reason r s =
      (carryGain r i .stalled s).notify (.bulkStalled r.run i reason c.target (s.bulking.gainAtLast r)) := by
  rw [stallRun, BulkRecord.activeComponent_eq_some ha hc]

/-! ### BULK-HOLD -/

theorem exec_bulkHold_refused (hp : s.powered = true) (h1 : 1 ≤ n) (h2 : n ≤ 65535) (hr : s.bulking.find n = some r)
    (hfeeding : r.state ≠ .feeding) (harmed : r.state ≠ .armed) :
    exec (.bulkHold tag n) s = .next (s.reply tag 0x0F (.refused .state)) :=
  onRequest_refused hp (by
    rw [ownBulkHold, bulkNamed_found h1 h2 hr, ok_bind, require_bind, if_neg (by simp [hfeeding, harmed])])

theorem exec_bulkHold_feeding (hp : s.powered = true) (h1 : 1 ≤ n) (h2 : n ≤ 65535) (hr : s.bulking.find n = some r)
    (ha : r.active = some i) (hc : r.components[i]? = some c) (hst : r.state = .feeding) :
    exec (.bulkHold tag n) s =
      .next ((carryGain r i .held s).reply tag 0x0F (.ok (.bulkCarried (s.bulking.gainAtLast r)))) :=
  onRequest_ok hp (by
    rw [ownBulkHold, bulkNamed_found h1 h2 hr, ok_bind, require_bind, if_pos (by simp [hst]),
      BulkRecord.activeComponent_eq_some ha hc, orRefuse_some, ok_bind]
    exact if_pos (beq_iff_eq.mpr hst))

theorem exec_bulkHold_armed (hp : s.powered = true) (h1 : 1 ≤ n) (h2 : n ≤ 65535) (hr : s.bulking.find n = some r)
    (ha : r.active = some i) (hc : r.components[i]? = some c) (hst : r.state = .armed) :
    exec (.bulkHold tag n) s = .next ((s.updateRun n fun k => { k.move i .armed .held with start := none }).reply
      tag 0x0F (.ok (.bulkCarried r.carried))) :=
  onRequest_ok hp (by
    rw [ownBulkHold, bulkNamed_found h1 h2 hr, ok_bind, require_bind, if_pos (by simp [hst]),
      BulkRecord.activeComponent_eq_some ha hc, orRefuse_some, ok_bind]
    exact if_neg (by simp [hst]))

/-! ### Leave reports and the stall timer -/

theorem exec_leaveReport (hp : s.powered = true) : exec .leaveReport s = .next (takeLeaveReport (s.taken .leaveReport)) :=
  onPower_powered hp fun s => takeLeaveReport (s.taken .leaveReport)

theorem exec_stallTimerExpiry (hp : s.powered = true) : exec .stallTimerExpiry s = .next (takeStallExpiry s) :=
  onPower_powered hp takeStallExpiry

theorem takeLeaveReport_idle (h : s.bulking.active = none) : takeLeaveReport s = s := by rw [takeLeaveReport, h]

theorem takeLeaveReport_of_other (h : s.bulking.active = some r) (hfeeding : r.state ≠ .feeding)
    (hsettling : r.state ≠ .settling) : takeLeaveReport s = s := by
  rw [takeLeaveReport, h]
  cases hst : r.state <;> simp_all

theorem takeLeaveReport_stalls (h : s.bulking.active = some r) (hst : r.state = .feeding ∨ r.state = .settling) :
    takeLeaveReport s = stallRun .signal r s := by
  rcases hst with hst | hst <;> simp [takeLeaveReport, h, hst]

theorem takeStallExpiry_idle (h : s.bulking.active = none) : takeStallExpiry s = s := by simp [takeStallExpiry, h]

theorem takeStallExpiry_stopped (h : s.bulking.stallTimer = none) : takeStallExpiry s = s := by simp [takeStallExpiry, h]

theorem takeStallExpiry_of_other (h : s.bulking.active = some r) (hst : r.state ≠ .feeding) : takeStallExpiry s = s := by
  cases ht : s.bulking.stallTimer <;> simp [takeStallExpiry, h, ht, hst]

theorem takeStallExpiry_stalls (h : s.bulking.active = some r) (hst : r.state = .feeding)
    (ht : s.bulking.stallTimer.isSome = true) : takeStallExpiry s = stallRun .noFlow r s := by
  obtain ⟨t, ht⟩ := Option.isSome_iff_exists.mp ht
  simp [takeStallExpiry, h, ht, hst]

end

/-- Settles O24: the request and the two arrivals by the state of the run, the gain carried that of the last reading. -/
theorem holdsAndStallsCarryTheGain : Obligations.HoldsAndStallsCarryTheGain := by
  unfold Obligations.HoldsAndStallsCarryTheGain
  refine ⟨fun tag s n hp h1 h2 => ⟨run_notFound hp rfl rfl h1 h2, fun r hr => exec_bulkHold_refused hp h1 h2 hr⟩,
    fun tag s n i r c hp h1 h2 hr ha hc => ⟨fun hst l w hl hw => ?_, exec_bulkHold_armed hp h1 h2 hr ha hc⟩,
    fun s hp => ⟨fun h => ?_, fun r h => ⟨fun hfeeding hsettling => ?_, fun hst => ?_⟩, fun ht => ?_,
      fun r i c l w h ha hc hl hw => ⟨fun hst => ?_, fun hst ht => ?_⟩⟩⟩
  · obtain ⟨-, rfl⟩ := Bulking.find_eq_some hr
    rw [exec_bulkHold_feeding hp h1 h2 hr ha hc hst, carryGain, Bulking.gainAtLast_of_start hl hw]
    rfl
  · rw [exec_leaveReport hp, exec_stallTimerExpiry hp, takeLeaveReport_idle (s := s.taken .leaveReport) h,
      takeStallExpiry_idle h]
    exact ⟨rfl, rfl⟩
  · rw [exec_leaveReport hp, takeLeaveReport_of_other (s := s.taken .leaveReport) h hfeeding hsettling]
  · rw [exec_stallTimerExpiry hp, takeStallExpiry_of_other h hst]
  · rw [exec_stallTimerExpiry hp, takeStallExpiry_stopped ht]
  · rw [exec_leaveReport hp, takeLeaveReport_stalls (s := s.taken .leaveReport) h hst, stallRun_eq ha hc, carryGain,
      State.taken_bulking, Bulking.gainAtLast_of_start hl hw]
    rfl
  · rw [exec_stallTimerExpiry hp, takeStallExpiry_stalls h hst ht, stallRun_eq ha hc, carryGain,
      Bulking.gainAtLast_of_start hl hw]
    rfl

/-! ### BULK-ABORT -/

section
variable {tag : Byte} {s : State} {n : Nat} {r : BulkRecord}

theorem exec_bulkAbort_refused (hp : s.powered = true) (h1 : 1 ≤ n) (h2 : n ≤ 65535) (hr : s.bulking.find n = some r)
    (hst : r.state = .complete ∨ r.state = .aborted) :
    exec (.bulkAbort tag n) s = .next (s.reply tag 0x12 (.refused .state)) :=
  onRequest_refused hp (by
    rw [ownBulkAbort, bulkNamed_found h1 h2 hr, ok_bind, require_bind, if_neg]
    rcases hst with hst | hst <;> simp [hst])

theorem exec_bulkAbort_taken (hp : s.powered = true) (h1 : 1 ≤ n) (h2 : n ≤ 65535) (hr : s.bulking.find n = some r)
    (hcomplete : r.state ≠ .complete) (haborted : r.state ≠ .aborted) :
    exec (.bulkAbort tag n) s =
      let after := r.abort (s.bulking.gainAtLast r)
      let u := s.updateRun n fun _ => after
      .next (State.reply { u with bulking := if r.state.isActive then u.bulking.closeGate else u.bulking }
        tag 0x12 (.ok (.bulkFed after.fed))) :=
  onRequest_ok hp (by
    rw [ownBulkAbort, bulkNamed_found h1 h2 hr, ok_bind, require_bind, if_pos (by simp [hcomplete, haborted])]
    rfl)

/-- A component at an abort keeps its label, fraction and target; DONE and SHORT stay, any other is SKIPPED, and one in
progress records the gain, negative as 0 (R59). -/
theorem Component.abort_spec (gain : Int) (c : Component) :
    (c.abort gain).label = c.label ∧ (c.abort gain).fraction = c.fraction ∧ (c.abort gain).target = c.target ∧
      (c.state = .done ∨ c.state = .short → c.abort gain = c) ∧
      (c.state ≠ .done → c.state ≠ .short → (c.abort gain).state = .skipped) ∧
      (c.state = .pending ∨ c.state = .skipped → (c.abort gain).fed = c.fed) ∧
      (c.state = .armed ∨ c.state = .feeding ∨ c.state = .settling → (c.abort gain).fed = gain.toNat) := by
  cases h : c.state <;> simp [Component.abort, h]

end

/-- Settles O25: the abort by the state of the record, its components by `Component.abort_spec`. -/
theorem bulkAbortEndsTheRun : Obligations.BulkAbortEndsTheRun := by
  unfold Obligations.BulkAbortEndsTheRun
  intro tag s n hp h1 h2
  refine ⟨run_notFound hp rfl rfl h1 h2, fun r hr => ⟨fun hst hpending => ?_, exec_bulkAbort_refused hp h1 h2 hr,
    fun hactive => ?_⟩⟩
  · have skipped : r.components.map (Component.abort (s.bulking.gainAtLast r)) =
        r.components.map fun c => { c with state := .skipped } :=
      List.map_congr_left fun c hc => by simp [Component.abort, hpending c hc]
    rw [exec_bulkAbort_taken hp h1 h2 hr (by simp [hst]) (by simp [hst]), BulkRecord.abort, skipped, hst]
    simp only [List.map_map]
    rfl
  · refine ⟨r.components.map (Component.abort (s.bulking.gainAtLast r)), ?_, List.length_map _, fun j c d hc hd => ?_⟩
    · have hcomplete : r.state ≠ .complete := fun e => by simp [e, RunState.isActive] at hactive
      have haborted : r.state ≠ .aborted := fun e => by simp [e, RunState.isActive] at hactive
      rw [exec_bulkAbort_taken hp h1 h2 hr hcomplete haborted, hactive]
      rfl
    · rw [List.getElem?_map, hc] at hd
      obtain rfl := Option.some.inj hd
      obtain ⟨hlabel, hfraction, htarget, hended, hskipped, hkept, hfed⟩ := c.abort_spec (s.bulking.gainAtLast r)
      refine ⟨hlabel, hfraction, htarget, hended, hskipped, hkept, fun hprogress => ⟨fun hstart => ?_, fun l w hl hw => ?_⟩⟩
      · rw [hfed hprogress, Bulking.gainAtLast_of_no_start hstart]
      · rw [hfed hprogress, Bulking.gainAtLast_of_start hl hw]

end Sys2Proof.Machine
end

section
/-! PROOF. BULK-SHORT rescales a run to its short component (R60, R61). -/

namespace Sys2Proof.Machine

section
variable {tag : Byte} {s : State} {n i : Nat} {r : BulkRecord} {c : Component}

/-! ### The record behind a short -/

theorem Component.rescale_eq (total : Nat) (c : Component) :
    c.rescale total = if c.state = .pending then { c with target := roundNat (total * c.fraction) 1000 } else c := by
  simp [Component.rescale, share]

theorem Component.outside_iff {tolerance total : Nat} :
    c.outside tolerance total = true ↔ (c.state = .done ∨ c.state = .short) ∧
      tolerance * roundNat (total * c.fraction) 1000 <
        1000 * ((c.fed : Int) - roundNat (total * c.fraction) 1000).natAbs := by
  simp only [Component.outside, Bool.and_eq_true, Bool.or_eq_true, beq_iff_eq]
  exact and_congr_right fun _ => decide_eq_true_iff

/-- A change of the component at `i` does not touch the judgement of the others (R61 step 3). -/
theorem BulkRecord.anyOutside_setComponent {f : Component → Component} {tolerance total : Nat} :
    (r.setComponent i f).anyOutside tolerance total i = true ↔
      ∃ (j : Nat) (d : Component), j ≠ i ∧ r.components[j]? = some d ∧ d.outside tolerance total = true := by
  have other : ∀ j, j ≠ i → (r.components.modify i f)[j]? = r.components[j]? := fun j hj => by
    simp [hj.symm]
  simp only [BulkRecord.anyOutside, BulkRecord.setComponent, List.any_eq_true, Prod.exists, List.mem_zipIdx_iff_getElem?,
    Bool.and_eq_true, bne_iff_ne]
  constructor
  · rintro ⟨d, j, hd, hj, ho⟩
    exact ⟨j, d, hj, other j hj ▸ hd, ho⟩
  · rintro ⟨j, d, hj, hd, ho⟩
    exact ⟨d, j, (other j hj).trans hd, hj, ho⟩

theorem BulkRecord.shorten_components (tolerance fed fraction : Nat) :
    (r.shorten tolerance i fed fraction).components =
      (r.components.modify i fun d => { d with fed := fed, state := .short }).map fun d =>
        if d.state = .pending then { d with target := roundNat (roundNat (fed * 1000) fraction * d.fraction) 1000 } else d :=
  List.map_congr_left fun d _ => d.rescale_eq _

theorem BulkRecord.shorten_offProportion {tolerance fed fraction : Nat} :
    (r.shorten tolerance i fed fraction).offProportion = true ↔ r.offProportion = true ∨
      ∃ (j : Nat) (d : Component), j ≠ i ∧ r.components[j]? = some d ∧ (d.state = .done ∨ d.state = .short) ∧
        tolerance * roundNat (roundNat (fed * 1000) fraction * d.fraction) 1000 <
          1000 * ((d.fed : Int) - roundNat (roundNat (fed * 1000) fraction * d.fraction) 1000).natAbs := by
  simp only [BulkRecord.shorten, Bool.or_eq_true, BulkRecord.anyOutside_setComponent, Component.outside_iff]
  rfl

/-- The record whose PENDING components are SKIPPED and whose off-proportion flag is set (R61 step 4). -/
def BulkRecord.skipPending (r : BulkRecord) : BulkRecord :=
  { r with
    components := r.components.map fun k => if k.state == .pending then { k with state := .skipped } else k
    offProportion := true }

/-- The record of a run that completes (R54). -/
def BulkRecord.completed (r : BulkRecord) (date : Option Date) : BulkRecord :=
  { r with fed := r.sumFed, uncommitted := r.sumFed, active := none, start := none, date := date, state := .complete }

theorem completeRun_eq : completeRun r s =
    ((s.updateRun r.run fun _ => r.completed s.clock.date).notify
      (.bulkComplete r.run r.sumFed s.clock.date r.offProportion r.short)).raise 15 ⟨none, none, none⟩ := rfl

/-! ### BULK-SHORT -/

theorem exec_bulkShort_refused (hp : s.powered = true) (h1 : 1 ≤ n) (h2 : n ≤ 65535) (hr : s.bulking.find n = some r)
    (hheld : r.state ≠ .held) (hstalled : r.state ≠ .stalled) (hbetween : r.state ≠ .between) :
    exec (.bulkShort tag n) s = .next (s.reply tag 0x11 (.refused .state)) :=
  onRequest_refused hp (by
    rw [ownBulkShort, bulkNamed_found h1 h2 hr, ok_bind, require_bind, if_neg (by simp [hheld, hstalled, hbetween])])

theorem exec_bulkShort_again (hp : s.powered = true) (h1 : 1 ≤ n) (h2 : n ≤ 65535) (hr : s.bulking.find n = some r)
    (ha : r.active = some i) (hc : r.components[i]? = some c) (hst : r.state = .between) (hshort : c.state = .short) :
    exec (.bulkShort tag n) s = .next (s.reply tag 0x11 (.refused .state)) :=
  onRequest_refused hp (by
    rw [ownBulkShort, bulkNamed_found h1 h2 hr, ok_bind, require_bind, if_pos (by simp [hst]),
      BulkRecord.activeComponent_eq_some ha hc, orRefuse_some, ok_bind]
    dsimp only
    rw [require_bind, if_neg (by simp [hst, hshort])])

/-- The states and components BULK-SHORT takes (R60). -/
def MayShort (r : BulkRecord) (c : Component) : Prop :=
  r.state = .held ∨ r.state = .stalled ∨ (r.state = .between ∧ c.state ≠ .short)

theorem ownBulkShort_eq (h1 : 1 ≤ n) (h2 : n ≤ 65535) (hr : s.bulking.find n = some r) (ha : r.active = some i)
    (hc : r.components[i]? = some c) (h : MayShort r c) :
    ownBulkShort n s =
      if (r.shorten s.bulking.tolerance i (shortFed r c) c.fraction).total < 10000 then
        .ok (completeRun (r.shorten s.bulking.tolerance i (shortFed r c) c.fraction).skipPending s,
          .ok (.bulkShort (r.shorten s.bulking.tolerance i (shortFed r c) c.fraction).total
            (r.shorten s.bulking.tolerance i (shortFed r c) c.fraction).skipPending.pendingTargets true .complete))
      else
        .ok (s.updateRun n fun _ => { r.shorten s.bulking.tolerance i (shortFed r c) c.fraction with state := .between },
          .ok (.bulkShort (r.shorten s.bulking.tolerance i (shortFed r c) c.fraction).total
            (r.shorten s.bulking.tolerance i (shortFed r c) c.fraction).pendingTargets
            (r.shorten s.bulking.tolerance i (shortFed r c) c.fraction).offProportion .between)) := by
  have hstate : (r.state == .held || r.state == .stalled || r.state == .between) = true := by
    rcases h with e | e | ⟨e, -⟩ <;> simp [e]
  have hfirst : (!(r.state == .between && c.state == .short)) = true := by
    rcases h with e | e | ⟨e, hne⟩ <;> simp [e]
    exact hne
  rw [ownBulkShort, bulkNamed_found h1 h2 hr, ok_bind, require_bind, if_pos hstate,
    BulkRecord.activeComponent_eq_some ha hc, orRefuse_some, ok_bind]
  dsimp only
  rw [require_bind, if_pos hfirst]
  rfl

theorem shortFed_eq : shortFed r c = if r.state = .between then c.fed else r.carried.toNat := by
  simp [shortFed]

end

/-- Settles O26: the run rescaled goes on or completes, as its new total has it. -/
theorem bulkShortRescales : Obligations.BulkShortRescales := by
  unfold Obligations.BulkShortRescales
  refine ⟨fun n m hm => ?_, fun tag s n hp h1 h2 => ⟨run_notFound hp rfl rfl h1 h2, fun r hr =>
    ⟨exec_bulkShort_refused hp h1 h2 hr, fun i c ha hc => ⟨exec_bulkShort_again hp h1 h2 hr ha hc, fun h => ?_⟩⟩⟩⟩
  · have nearest := roundNat_nearest n hm
    have half := roundNat_half_up n hm
    rw [Nat.cast_mul] at nearest half
    exact ⟨nearest, half⟩
  · obtain ⟨-, rfl⟩ := Bulking.find_eq_some hr
    simp only [← shortFed_eq]
    let after := r.shorten s.bulking.tolerance i (shortFed r c) c.fraction
    have taken : ownBulkShort r.run s = _ := ownBulkShort_eq h1 h2 hr ha hc h
    by_cases hlow : after.total < 10000
    · refine ⟨completeRun after.skipPending s, after.skipPending.completed s.clock.date, after.skipPending.pendingTargets,
        onRequest_ok hp (taken.trans (if_pos hlow)), rfl, rfl, rfl, rfl, rfl, fun hhigh => absurd hlow (Nat.not_lt.mpr hhigh),
        fun _ => ⟨rfl, rfl, rfl, ?_, rfl, rfl, rfl, ?_⟩⟩
      · show after.skipPending.components = _
        simp only [BulkRecord.skipPending, after, BulkRecord.shorten_components, beq_iff_eq]
      · rw [completeRun_eq, State.raise_transit, State.notify_transit, State.updateRun_transit, List.append_assoc]
        rfl
    · refine ⟨s.updateRun r.run fun _ => { after with state := .between }, { after with state := .between },
        after.pendingTargets, onRequest_ok hp (taken.trans (if_neg hlow)), rfl, rfl, rfl, rfl, rfl,
        fun _ => ⟨rfl, BulkRecord.shorten_components s.bulking.tolerance _ _, ha, BulkRecord.shorten_offProportion, rfl, ?_⟩,
        fun h => absurd h hlow⟩
      rw [BulkRecord.pendingTargets, BulkRecord.shorten_components]

end Sys2Proof.Machine
end

section
/-! PROOF. BULK-RETIRE, BULK-READ and BULK-CONFIG (R65 to R67). -/

namespace Sys2Proof.Machine

section
variable {tag : Byte} {s : State} {n : Nat} {r : BulkRecord}

theorem exec_bulkRetire (hp : s.powered = true) (h1 : 1 ≤ n) (h2 : n ≤ 65535) (hr : s.bulking.find n = some r) :
    exec (.bulkRetire tag n) s =
      if (r.state = .complete ∨ r.state = .aborted) ∧ r.bound = 0 then
        .next (State.reply { s with bulking := { s.bulking with
          records := s.bulking.records.filter fun k => k.run != n } } tag 0x13 (.ok (.bulkRun n)))
      else .next (s.reply tag 0x13 (.refused .state)) :=
  onRequest_checked hp (by
    simp only [ownBulkRetire, bulkNamed_found h1 h2 hr, ok_bind, require_bind, Bool.and_eq_true, Bool.or_eq_true,
      beq_iff_eq]
    rfl)

/-! ### BULK-READ -/

theorem Bulking.reportedGain_none {b : Bulking} (hfeeding : r.state ≠ .feeding) (hsettling : r.state ≠ .settling) :
    b.reportedGain r = none := by
  unfold Bulking.reportedGain
  split <;> simp_all

theorem Bulking.reportedGain_some {b : Bulking} (hst : r.state = .feeding ∨ r.state = .settling) :
    b.reportedGain r = some (b.gainAtLast r) := by
  rcases hst with hst | hst <;> rw [Bulking.reportedGain, hst]

theorem exec_bulkRead (hp : s.powered = true) (h1 : 1 ≤ n) (h2 : n ≤ 65535) (hr : s.bulking.find n = some r) :
    exec (.bulkRead tag n) s = .next (s.reply tag 0x14 (.ok (.bulkRecord r (s.bulking.reportedGain r)))) :=
  onRequest_ok hp (by
    rw [ownBulkRead, if_neg (Nat.one_le_iff_ne_zero.mp h1), bulkNamed_found h1 h2 hr]
    rfl)

theorem exec_bulkRead_summary (hp : s.powered = true) :
    exec (.bulkRead tag 0) s = .next (s.reply tag 0x14 (.ok (.bulkSummary s.bulking.runList s.bulking.preact
      s.bulking.preactStart s.bulking.tolerance s.bulking.gateOpen (s.bulking.active.map (·.run))))) :=
  onRequest_ok hp rfl

theorem Bulking.runList_perm (b : Bulking) : b.runList.Perm (b.records.map fun r => (r.run, r.state)) :=
  List.mergeSort_perm _ _

theorem Bulking.runList_sorted (b : Bulking) : b.runList.Pairwise fun x y => x.1 ≤ y.1 := by
  have sorted := List.pairwise_mergeSort (le := fun x y : Nat × RunState => decide (x.1 ≤ y.1))
    (fun _ _ _ hxy hyz => decide_eq_true (le_trans (of_decide_eq_true hxy) (of_decide_eq_true hyz)))
    (fun x y => by simpa using le_total x.1 y.1) (b.records.map fun r => (r.run, r.state))
  exact sorted.imp fun h => of_decide_eq_true h

/-! ### BULK-CONFIG -/

theorem preact_inRange_iff {z : Int} : withinInt 0 Config.preactLimit z = true ↔ 0 ≤ z ∧ z ≤ 5000 := withinInt_eq_true

/-- A field that may be marked KEEP, its marks 0 and 1 (R203). -/
theorem keepOr_eq {α : Type} (given : Nat) (v : α) (valid : α → Bool) :
    keepOr ⟨given, v⟩ valid =
      if given = 0 ∨ (given = 1 ∧ valid v = true) then .ok (if given = 1 then some v else none) else .error .range := by
  match given with
  | 0 => rfl
  | 1 => by_cases hv : valid v = true <;> simp [keepOr, hv]
  | k + 2 => simp [keepOr]

theorem ownBulkConfig_eq (ps p : Int) (tol given : Nat) :
    ownBulkConfig ps tol ⟨given, p⟩ s =
      if 0 ≤ ps ∧ ps ≤ 5000 ∧ tol ≤ 1000 ∧ (given = 0 ∨ (given = 1 ∧ 0 ≤ p ∧ p ≤ 5000)) then
        .ok ({ s with bulking := { s.bulking with
            preactStart := ps, tolerance := tol, preact := if given = 1 then p else s.bulking.preact } },
          .ok (.bulkConfig ps tol (if given = 1 then p else s.bulking.preact)))
      else .error .range := by
  have now : (if given = 1 then some p else none).getD s.bulking.preact = if given = 1 then p else s.bulking.preact := by
    split <;> rfl
  simp only [ownBulkConfig, require_bind, keepOr_eq, preact_inRange_iff, within_eq_true, Nat.zero_le, true_and]
  by_cases hps : 0 ≤ ps ∧ ps ≤ 5000
  · by_cases htol : tol ≤ 1000
    · by_cases hgiven : given = 0 ∨ (given = 1 ∧ 0 ≤ p ∧ p ≤ 5000)
      · rw [if_pos hps, if_pos htol, if_pos hgiven, ok_bind, now]
        exact (if_pos ⟨hps.1, hps.2, htol, hgiven⟩).symm
      · rw [if_pos hps, if_pos htol, if_neg hgiven, if_neg fun h => hgiven h.2.2.2, error_bind]
    · rw [if_pos hps, if_neg htol, if_neg fun h => htol h.2.2.1]
  · rw [if_neg hps, if_neg fun h => hps ⟨h.1, h.2.1⟩]

end

/-- Settles O27, request by request. -/
theorem bulkRecordsAreReadConfiguredAndRetired : Obligations.BulkRecordsAreReadConfiguredAndRetired := by
  unfold Obligations.BulkRecordsAreReadConfiguredAndRetired
  intro tag s hp
  refine ⟨fun n r h1 h2 hr => ⟨exec_bulkRetire hp h1 h2 hr, fun hfeeding hsettling => ?_, fun l w hst hl hw => ?_⟩,
    fun n h1 h2 h => ⟨run_notFound hp rfl rfl h1 h2 h, run_notFound hp rfl (if_neg (Nat.one_le_iff_ne_zero.mp h1)) h1 h2 h⟩,
    ⟨s.bulking.runList, s.bulking.runList_perm, s.bulking.runList_sorted, exec_bulkRead_summary hp⟩,
    fun ps p tol given => onRequest_checked hp (ownBulkConfig_eq ps p tol given)⟩
  · rw [exec_bulkRead hp h1 h2 hr, Bulking.reportedGain_none hfeeding hsettling]
  · rw [exec_bulkRead hp h1 h2 hr, Bulking.reportedGain_some hst, Bulking.gainAtLast_of_start hl hw]

end Sys2Proof.Machine
end

section
/-! PROOF. INV-OPEN is checked in order and then makes its record whole (R62, R73 to R75, R161). -/

namespace Sys2Proof.Machine

/-! ### The fields of INV-OPEN (R73) -/

theorem monthLength_eq {y m : Nat} (h1 : 1 ≤ m) (h12 : m ≤ 12) :
    monthLength y m = if m = 2 then (if y % 4 = 0 then 29 else 28)
      else if m = 4 ∨ m = 6 ∨ m = 9 ∨ m = 11 then 30 else 31 := by
  interval_cases m <;> simp [monthLength, leapYear]

theorem validDate_iff (d : Date) :
    validDate d = true ↔ 2000 ≤ d.year ∧ d.year ≤ 2099 ∧ 1 ≤ d.month ∧ d.month ≤ 12 ∧ 1 ≤ d.day ∧
      d.day ≤ (if d.month = 2 then (if d.year % 4 = 0 then 29 else 28)
        else if d.month = 4 ∨ d.month = 6 ∨ d.month = 9 ∨ d.month = 11 then 30 else 31) := by
  simp only [validDate, Bool.and_eq_true, within_eq_true, and_assoc]
  refine and_congr_right fun _ => and_congr_right fun _ => and_congr_right fun h1 => and_congr_right fun h12 => ?_
  rw [monthLength_eq h1 h12]

theorem openInRange_iff (f : InvOpenFields) :
    openInRange f = true ↔
      1 ≤ f.number ∧ f.number ≤ 99999 ∧ validText 12 f.garden = true ∧ validText 6 f.grade = true ∧
        1000 ≤ f.declaredNet ∧ f.declaredNet ≤ 100000 ∧ 1 ≤ f.packages ∧ f.packages ≤ 120 ∧ f.ceiling ≤ 9999 ∧
        f.allowance ≤ 99999 ∧ (∀ n, f.bulkRun = some n → 1 ≤ n ∧ n ≤ 65535) ∧
        ∀ d, f.date = some d → validDate d = true := by
  unfold openInRange
  cases f.bulkRun <;> cases f.date <;>
    simp [validInvoice, validRun, within_eq_true, Config.allowanceLimit, and_assoc]

/-! ### The number, the commitment and the checks behind the ranges -/

theorem numberTaken_iff {n : Nat} {s : State} :
    numberTaken n s = true ↔
      (∃ v ∈ s.invoices.invoices, v.record.number = n) ∨ ∃ h ∈ s.store.sheets, h.invoice = n := by
  simp [numberTaken, InvoiceTable.find]

theorem index_of_lt {n x : Nat} (h : x < n) : index n x = .ok ⟨x, h⟩ := dif_pos h

theorem flag_of_lt {n : Nat} (h : n < 2) : flag n = .ok (n == 1) := by
  interval_cases n <;> rfl

theorem commitWeight_notFound {n packages net : Nat} {s : State} (h : s.bulking.find n = none) :
    commitWeight n packages net s = .error .notFound := by
  rw [commitWeight, h]
  rfl

/-- A commitment asked of a run: the packages it can fill, of a COMPLETE run that can fill one (R62). -/
theorem commitWeight_found {n packages net : Nat} {s : State} {r : BulkRecord} (h : s.bulking.find n = some r) :
    commitWeight n packages net s =
      if r.state = .complete then
        if min packages (r.uncommitted / net) ≠ 0 then
          .ok (s.updateRun n fun k => { k with
              uncommitted := k.uncommitted - min packages (r.uncommitted / net) * net, bound := k.bound + 1 },
            ⟨min packages (r.uncommitted / net), r.date, r.offProportion⟩)
        else .error .insufficient
      else .error .state := by
  simp only [commitWeight, h, orRefuse_some, ok_bind, require_bind, beq_iff_eq, bne_iff_ne, pure_is_ok]

/-- The checks of INV-OPEN behind its ranges, and the commitment it then asks for (R74). -/
def openChecks (f : InvOpenFields) (s : State) : Except Reason (State × Grant) := do
  require (!numberTaken f.number s) .conflict
  require (decide (s.invoices.invoices.length < Config.invoiceSlots)) .full
  require (f.date.isSome || s.clock.reading.isSome) .state
  openCommitment f s

section
variable {f : InvOpenFields} {s : State}

theorem openChecks_conflict (h : numberTaken f.number s = true) : openChecks f s = .error .conflict :=
  bind_of_error _ (require_neg (by simp [h]) _)

theorem openChecks_full (h : ¬ numberTaken f.number s = true) (hfull : 16 ≤ s.invoices.invoices.length) :
    openChecks f s = .error .full := by
  rw [openChecks, require_bind, if_pos (by simpa using h)]
  exact bind_of_error _ (require_neg (fun room => Nat.not_lt.mpr hfull (of_decide_eq_true room)) _)

theorem openChecks_undated (h : ¬ numberTaken f.number s = true) (hroom : s.invoices.invoices.length < 16)
    (hdate : f.date = none) (hclock : s.clock.reading = none) : openChecks f s = .error .state := by
  have room : decide (s.invoices.invoices.length < Config.invoiceSlots) = true := decide_eq_true hroom
  rw [openChecks, require_bind, if_pos (by simpa using h), require_bind, if_pos room]
  exact bind_of_error _ (require_neg (by simp [hdate, hclock]) _)

theorem openChecks_passed (h : ¬ numberTaken f.number s = true) (hroom : s.invoices.invoices.length < 16)
    (hdate : f.date ≠ none ∨ s.clock.reading ≠ none) : openChecks f s = openCommitment f s := by
  have hdated : (f.date.isSome || s.clock.reading.isSome) = true := by
    simpa [Option.isSome_iff_ne_none] using hdate
  have room : decide (s.invoices.invoices.length < Config.invoiceSlots) = true := decide_eq_true hroom
  rw [openChecks, require_bind, if_pos (by simpa using h), require_bind, if_pos room, require_bind, if_pos hdated]

/-- The fields of INV-OPEN that are read as numbers of types and classes and as a flag. -/
structure OpenCodes (f : InvOpenFields) : Prop where
  packType : f.packType < 8
  cls : f.cls < 4
  autoClose : f.autoClose < 2

theorem ownInvOpen_refused (hrange : openInRange f = true) (hcodes : OpenCodes f) {r : Reason}
    (h : openChecks f s = .error r) : ownInvOpen f s = .error r := by
  rw [ownInvOpen, require_bind, if_pos hrange, index_of_lt hcodes.packType, ok_bind, index_of_lt hcodes.cls, ok_bind,
    flag_of_lt hcodes.autoClose, ok_bind]
  simp only [openChecks, require_bind] at h ⊢
  split_ifs at h ⊢
  · rw [h, error_bind]
  all_goals exact congrArg Except.error (Except.error.inj h)

/-- The record INV-OPEN makes (R75). -/
def openedRecord (f : InvOpenFields) (hcodes : OpenCodes f) (tare packages : Nat) (off : Bool) (date : Date) :
    InvoiceRecord :=
  { number := f.number, garden := f.garden, grade := f.grade, packType := ⟨f.packType, hcodes.packType⟩, tare := tare
    declaredNet := f.declaredNet, packages := packages, cls := ⟨f.cls, hcodes.cls⟩, tightened := false
    ceiling := f.ceiling, tally := 0, overrun := false, allowance := f.allowance, autoClose := f.autoClose == 1
    shortClose := false, bulkRun := f.bulkRun, offProportion := off, date := date, lot := .unresolved, state := .opened }

theorem ownInvOpen_taken (hrange : openInRange f = true) (hcodes : OpenCodes f) {u : State} {g : Grant} {date : Date}
    (h : openChecks f s = .ok (u, g)) (hdate : (f.date.or g.date).or u.clock.date = some date) :
    ownInvOpen f s =
      let tare := (s.packs.types[f.packType]'hcodes.packType).tare
      .ok ({ u with invoices := { u.invoices with invoices :=
          u.invoices.invoices ++ [⟨openedRecord f hcodes tare g.packages g.offProportion date, []⟩] } },
        .ok (.invOpened f.number f.packages g.packages tare date f.bulkRun)) := by
  rw [ownInvOpen, require_bind, if_pos hrange, index_of_lt hcodes.packType, ok_bind, index_of_lt hcodes.cls, ok_bind,
    flag_of_lt hcodes.autoClose, ok_bind]
  simp only [openChecks, require_bind] at h ⊢
  split_ifs at h ⊢
  rw [h, ok_bind]
  dsimp only
  rw [hdate]
  rfl

end

/-- Settles O29: the refusals follow the order of the checks, and the record is made of the commitment granted. -/
theorem invOpenIsCheckedThenMadeWhole : Obligations.InvOpenIsCheckedThenMadeWhole := by
  unfold Obligations.InvOpenIsCheckedThenMadeWhole
  refine ⟨⟨validDate_iff, openInRange_iff⟩, fun tag s f hp hrange htype hcls hclose => ?_,
    fun tag s f date hp hrange htype hcls hclose hnew hunsheeted hroom => ?_⟩
  · have hcodes : OpenCodes f := ⟨htype, hcls, hclose⟩
    have refused : ∀ {r}, openChecks f s = .error r → exec (.invOpen tag f) s = .next (s.reply tag 0x16 (.refused r)) :=
      fun h => onRequest_refused hp (ownInvOpen_refused hrange hcodes h)
    simp only [← numberTaken_iff]
    refine ⟨fun h => refused (openChecks_conflict h), fun h hfull => refused (openChecks_full h hfull),
      fun h hroom hdate hclock => refused (openChecks_undated h hroom hdate hclock),
      fun h hroom hdate n hn => ?_⟩
    have passed : openChecks f s = commitWeight n f.packages f.declaredNet s := by
      rw [openChecks_passed h hroom hdate, openCommitment, hn]
    refine ⟨fun hr => refused (passed.trans (commitWeight_notFound hr)), fun r hr => ⟨fun hst => ?_, fun hst hless => ?_⟩⟩
    · exact refused (passed.trans ((commitWeight_found hr).trans (if_neg hst)))
    · have none : ¬ min f.packages (r.uncommitted / f.declaredNet) ≠ 0 := by simp [Nat.div_eq_of_lt hless]
      exact refused (passed.trans ((commitWeight_found hr).trans ((if_pos hst).trans (if_neg none))))
  · have hcodes : OpenCodes f := ⟨htype, hcls, hclose⟩
    have hfree : ¬ numberTaken f.number s = true := by
      rw [numberTaken_iff]
      rintro (⟨v, hv, e⟩ | ⟨h, hh, e⟩)
      · exact hnew v hv e
      · exact hunsheeted h hh e
    refine ⟨fun hrun hdate => ?_, fun n r hn hr hst henough hdate hdated => ?_⟩
    · have hdated : f.date ≠ none ∨ s.clock.reading ≠ none := by
        by_contra h
        simp only [ne_eq, not_or, not_not] at h
        simp [h] at hdate
      have granted : openChecks f s = .ok (s, ⟨f.packages, none, false⟩) := by
        rw [openChecks_passed hfree hroom hdated, openCommitment, hrun]
      exact onRequest_ok hp (ownInvOpen_taken hrange hcodes granted (by rw [Option.or_none]; exact hdate))
    · obtain ⟨-, -, -, -, hnet, -, hpackages, -⟩ := (openInRange_iff f).mp hrange
      have fills : 0 < r.uncommitted / f.declaredNet := Nat.div_pos henough (by omega)
      have some : min f.packages (r.uncommitted / f.declaredNet) ≠ 0 := by omega
      have granted := openChecks_passed hfree hroom hdated
      rw [openCommitment, hn] at granted
      exact onRequest_ok hp (ownInvOpen_taken hrange hcodes
        (granted.trans ((commitWeight_found hr).trans ((if_pos hst).trans (if_pos some)))) hdate)

end Sys2Proof.Machine
end

section
/-! PROOF. INV-CLOSE begins closing, short or full; INV-CANCEL removes the invoice (R63, R86, R87, R89). -/

namespace Sys2Proof.Machine

/-! ### The invoice of a number -/

theorem InvoiceTable.number_of_find {t : InvoiceTable} {n : Nat} {v : Invoice} (h : t.find n = some v) :
    v.record.number = n := by
  simpa using List.find?_some h

/-- An update of an invoice that leaves the numbers changes what stands under its own number only. -/
theorem InvoiceTable.find_update {t : InvoiceTable} {n : Nat} {f : Invoice → Invoice}
    (hf : ∀ v, (f v).record.number = v.record.number) (k : Nat) :
    (t.update n f).find k = if k = n then (t.find n).map f else t.find k := by
  have kept : ∀ v : Invoice, (if v.record.number == n then f v else v).record.number = v.record.number := fun v => by
    split
    · exact hf v
    · rfl
  have found : (t.update n f).find k = (t.find k).map fun v => if v.record.number == n then f v else v := by
    simp only [InvoiceTable.find, InvoiceTable.update, List.find?_map, Function.comp_def, kept]
  rw [found]
  by_cases hk : k = n
  · subst hk
    rw [if_pos rfl]
    exact Option.map_congr fun v hv => by rw [if_pos (beq_iff_eq.mpr (InvoiceTable.number_of_find hv))]
  · rw [if_neg hk]
    refine (Option.map_congr fun v hv => ?_).trans Option.map_id'
    rw [if_neg (by rw [InvoiceTable.number_of_find hv]; simpa using hk)]

/-- Two updates of one invoice are one, where the first leaves its number. -/
theorem InvoiceTable.update_update (t : InvoiceTable) (n : Nat) {f g : Invoice → Invoice}
    (hf : ∀ v, (f v).record.number = v.record.number) :
    (t.update n f).update n g = t.update n fun v => g (f v) := by
  simp only [InvoiceTable.update, List.map_map, InvoiceTable.mk.injEq, List.map_inj_left, and_true]
  intro v _
  by_cases hv : v.record.number = n <;> simp [hv, hf]

theorem invoiceNamed_found {n : Nat} {s : State} {v : Invoice} (h1 : 1 ≤ n) (h2 : n ≤ 99999)
    (h : s.invoices.find n = some v) : invoiceNamed n s = .ok v := by
  simp [invoiceNamed, validInvoice, within, h1, h2, h]

theorem invoiceNamed_notFound {n : Nat} {s : State} (h1 : 1 ≤ n) (h2 : n ≤ 99999) (h : s.invoices.find n = none) :
    invoiceNamed n s = .error .notFound := by
  simp [invoiceNamed, validInvoice, within, h1, h2, h]

theorem InvoiceRecord.returned_eq (r : InvoiceRecord) (packages : Nat) :
    r.returned packages = if r.bulkRun = none then 0 else packages * r.declaredNet := by
  unfold InvoiceRecord.returned
  cases r.bulkRun <;> rfl

section
variable {tag : Byte} {s : State} {n short : Nat} {v : Invoice}

/-! ### INV-CLOSE -/

/-- The invoice of a short close: its packages lowered to the accepted count, and CLOSING (R86, R87). -/
def Invoice.closedShort (accepted : Nat) (v : Invoice) : Invoice :=
  { v with record := { v.record with packages := accepted, shortClose := true, state := .closing } }

/-- The invoice table behind a short close: the invoice closed, and in no queue (R86). -/
def InvoiceTable.closedShort (t : InvoiceTable) (n accepted : Nat) : InvoiceTable :=
  { t.update n (Invoice.closedShort accepted) with queues := t.queues.map fun q => q.filter fun k => k != n }

theorem closeShort_eq (v : Invoice) (s : State) :
    closeShort v s = { s with
      transit := s.transit ++ [.sheetRequest v.record.number]
      invoices := s.invoices.closedShort v.record.number v.chests.length
      bulking := match v.record.bulkRun with
        | some run => s.bulking.update run fun r =>
          { r with uncommitted := r.uncommitted + (v.record.packages - v.chests.length) * v.record.declaredNet }
        | none => s.bulking } := by
  have both := s.invoices.update_update v.record.number
    (f := fun w => { w with record := { w.record with packages := v.chests.length, shortClose := true } })
    (g := fun w => { w with record := { w.record with state := .closing } }) (fun _ => rfl)
  unfold InvoiceTable.closedShort Invoice.closedShort
  rw [← both]
  unfold closeShort
  cases v.record.bulkRun <;> rfl

theorem InvoiceTable.find_closedShort (t : InvoiceTable) (n accepted k : Nat) :
    (t.closedShort n accepted).find k = if k = n then (t.find n).map (Invoice.closedShort accepted) else t.find k :=
  InvoiceTable.find_update (f := Invoice.closedShort accepted) (fun _ => rfl) k

theorem ownInvClose_eq (hshort : short < 2) :
    ownInvClose n short s = (invoiceNamed n s >>= fun v =>
      match v.record.state with
      | .full => okWith (beginClosing n s) (.closed .closing none)
      | .opened => do
        require ((short == 1) && v.accepted != 0) .state
        okWith (closeShort v s)
          (.closed .closing (some (v.accepted, v.record.returned (v.record.packages - v.accepted))))
      | _ => .error .state) := by
  rw [ownInvClose, flag_of_lt hshort]
  rfl

theorem exec_invClose_full (hp : s.powered = true) (h1 : 1 ≤ n) (h2 : n ≤ 99999) (hshort : short < 2)
    (hv : s.invoices.find n = some v) (hst : v.record.state = .full) :
    exec (.invClose tag n short) s =
      .next (((s.setInvoiceState n .closing).send (.sheetRequest n)).reply tag 0x1A (.ok (.closed .closing none))) :=
  onRequest_ok hp (by rw [ownInvClose_eq hshort, invoiceNamed_found h1 h2 hv, ok_bind, hst]; rfl)

theorem exec_invClose_refused (hp : s.powered = true) (h1 : 1 ≤ n) (h2 : n ≤ 99999) (hshort : short < 2)
    (hv : s.invoices.find n = some v) (hfull : v.record.state ≠ .full)
    (h : v.record.state ≠ .opened ∨ short = 0 ∨ v.chests = []) :
    exec (.invClose tag n short) s = .next (s.reply tag 0x1A (.refused .state)) :=
  onRequest_refused hp (by
    rw [ownInvClose_eq hshort, invoiceNamed_found h1 h2 hv, ok_bind]
    cases hst : v.record.state with
    | full => exact absurd hst hfull
    | opened =>
      have unset : ¬ ((short == 1) && v.accepted != 0) = true := by
        rcases h with h | rfl | h
        · exact absurd hst h
        · simp
        · simp [Invoice.accepted, h]
      exact bind_of_error _ (require_neg unset _)
    | closing | waiting | sheeted => rfl)

theorem exec_invClose_short (hp : s.powered = true) (h1 : 1 ≤ n) (h2 : n ≤ 99999)
    (hv : s.invoices.find n = some v) (hst : v.record.state = .opened) (hchests : v.chests ≠ []) :
    exec (.invClose tag n 1) s = .next ((closeShort v s).reply tag 0x1A (.ok (.closed .closing (some (v.chests.length,
      if v.record.bulkRun = none then 0 else (v.record.packages - v.chests.length) * v.record.declaredNet))))) :=
  onRequest_ok hp (by
    have set : (((1 : Nat) == 1) && v.accepted != 0) = true := by simpa [Invoice.accepted] using hchests
    rw [ownInvClose_eq (by decide), invoiceNamed_found h1 h2 hv, ok_bind, hst]
    dsimp only
    rw [require_bind, if_pos set, InvoiceRecord.returned_eq]
    rfl)

/-! ### INV-CANCEL -/

/-- The state INV-CANCEL leaves: the invoice in no queue and not in the table, its commitment with its run (R63). -/
def cancelled (v : Invoice) (n : Nat) (s : State) : State :=
  invoiceLeaves v.record.bulkRun
    (returnWeight v.record.bulkRun (v.record.packages * v.record.declaredNet) ((s.leaveQueues n).removeInvoice n))

theorem cancelled_eq (v : Invoice) (n : Nat) (s : State) :
    cancelled v n s = { s with
      invoices := { s.invoices with
        invoices := s.invoices.invoices.filter fun k => k.record.number != n
        queues := s.invoices.queues.map fun q => q.filter fun k => k != n }
      bulking := match v.record.bulkRun with
        | some run => s.bulking.update run fun r =>
          { r with uncommitted := r.uncommitted + v.record.packages * v.record.declaredNet, bound := r.bound - 1 }
        | none => s.bulking } := by
  unfold cancelled
  cases v.record.bulkRun with
  | none => rfl
  | some run =>
    have both := s.bulking.update_update run
      (f := fun r => { r with uncommitted := r.uncommitted + v.record.packages * v.record.declaredNet })
      (g := fun r => { r with bound := r.bound - 1 }) (fun _ => rfl)
    exact congrArg (fun b => { (s.leaveQueues n).removeInvoice n with bulking := b }) both

theorem ownInvCancel_eq (h1 : 1 ≤ n) (h2 : n ≤ 99999) (hv : s.invoices.find n = some v) :
    ownInvCancel n s = if v.record.state = .opened ∧ v.chests = [] then
        .ok (cancelled v n s, .ok (.cancelled n
          (if v.record.bulkRun = none then 0 else v.record.packages * v.record.declaredNet)))
      else .error .state := by
  rw [ownInvCancel, invoiceNamed_found h1 h2 hv, ok_bind, require_bind]
  simp only [Invoice.accepted, Bool.and_eq_true, beq_iff_eq, List.length_eq_zero_iff, InvoiceRecord.returned_eq]
  rfl

end

/-- Settles O33: INV-CLOSE and INV-CANCEL by the state and the chests of the invoice named. -/
theorem invoicesCloseOrAreCancelled : Obligations.InvoicesCloseOrAreCancelled := by
  unfold Obligations.InvoicesCloseOrAreCancelled
  refine ⟨fun tag s n short hp h1 h2 hshort => ⟨fun h => ?_, fun v hv => ⟨exec_invClose_full hp h1 h2 hshort hv,
    exec_invClose_refused hp h1 h2 hshort hv, fun hst hset hchests => ?_⟩⟩, fun tag s n hp h1 h2 => ⟨fun h => ?_, fun v hv =>
    ⟨fun h => ?_, fun hst hchests => ?_⟩⟩⟩
  · exact onRequest_refused hp ((ownInvClose_eq hshort).trans (bind_of_error _ (invoiceNamed_notFound h1 h2 h)))
  · subst hset
    obtain rfl := InvoiceTable.number_of_find hv
    refine ⟨closeShort v s, exec_invClose_short hp h1 h2 hv hst hchests, ?_⟩
    rw [closeShort_eq]
    refine ⟨rfl, ⟨v.closedShort v.chests.length, ?_, rfl, rfl⟩, fun k hk => ?_, rfl, fun i => ?_, rfl, rfl⟩
    · rw [InvoiceTable.find_closedShort, if_pos rfl, hv]
      rfl
    · rw [InvoiceTable.find_closedShort, if_neg hk]
    · simp [InvoiceTable.closedShort]
  · exact onRequest_refused hp (bind_of_error _ (invoiceNamed_notFound h1 h2 h))
  · exact onRequest_refused hp ((ownInvCancel_eq h1 h2 hv).trans (if_neg (by tauto)))
  · have taken := (ownInvCancel_eq h1 h2 hv).trans (if_pos ⟨hst, hchests⟩)
    rw [cancelled_eq] at taken
    exact onRequest_ok hp taken

end Sys2Proof.Machine
end

section
/-! SUPPORT. The invoice table (spec/04 4.1): where the invoice of a number stands, what a change of it leaves, and the serial
counter's search past the numbers in use (R72). -/

namespace Sys2Proof.Machine

/-! ### The invoice of a number -/

/-- An update leaves the invoices of other numbers. -/
theorem map_update_of_other {l : List Invoice} {n : Nat} {f : Invoice → Invoice} (h : ∀ k ∈ l, k.record.number ≠ n) :
    l.map (fun k => if k.record.number == n then f k else k) = l :=
  (List.map_congr_left fun k hk => if_neg (by simpa using h k hk)).trans (List.map_id' l)

/-- The invoice of a number stands at one place of a table of distinct numbers, and an update changes that place alone. -/
theorem InvoiceTable.find_split {t : InvoiceTable} {n : Nat} {v : Invoice}
    (hnumbers : (t.invoices.map fun k => k.record.number).Nodup) (hv : t.find n = some v) :
    ∃ front back, t.invoices = front ++ v :: back ∧ ∀ f, (t.update n f).invoices = front ++ f v :: back := by
  obtain ⟨hn, front, back, e, hfront⟩ := List.find?_eq_some_iff_append.mp hv
  simp only [e, List.map_append, List.map_cons, List.nodup_append, List.nodup_cons] at hnumbers
  obtain ⟨-, ⟨hback, -⟩, -⟩ := hnumbers
  have front_other : ∀ k ∈ front, k.record.number ≠ n := by simpa using hfront
  have back_other : ∀ k ∈ back, k.record.number ≠ n := fun k hk same =>
    hback (List.mem_map.mpr ⟨k, hk, same.trans (beq_iff_eq.mp hn).symm⟩)
  refine ⟨front, back, e, fun f => ?_⟩
  rw [InvoiceTable.update, e, List.map_append, List.map_cons, if_pos hn, map_update_of_other front_other,
    map_update_of_other back_other]

/-- Two updates of one invoice are one, where the first gives its number. -/
theorem InvoiceTable.update_then_update (t : InvoiceTable) {n : Nat} {f : Invoice → Invoice}
    (hf : ∀ v, (f v).record.number = n) (g : Invoice → Invoice) :
    (t.update n f).update n g = t.update n fun v => g (f v) := by
  simp only [InvoiceTable.update, List.map_map, InvoiceTable.mk.injEq, List.map_inj_left, and_true]
  intro v _
  by_cases hv : v.record.number = n <;> simp [hv, hf]

/-- The invoice an update gives a number stands under it, and the others stand as they did. -/
theorem InvoiceTable.find_update_found {t : InvoiceTable} {n : Nat} {v : Invoice} {f : Invoice → Invoice}
    (hv : t.find n = some v) (hf : ∀ v, (f v).record.number = n) (k : Nat) :
    (t.update n f).find k = if k = n then some (f v) else t.find k := by
  have same : t.update n f = t.update n fun v => if v.record.number = n then f v else v := by
    simp only [InvoiceTable.update, InvoiceTable.mk.injEq, List.map_inj_left, and_true]
    intro v _
    by_cases h : v.record.number = n <;> simp [h]
  rw [same, InvoiceTable.find_update fun v => by split <;> simp_all]
  simp [hv, InvoiceTable.number_of_find hv]

theorem find_of_invoiceNamed {n : Nat} {s : State} {v : Invoice} (h : invoiceNamed n s = .ok v) :
    s.invoices.find n = some v := by
  obtain ⟨_, -, h⟩ := bind_eq_ok h
  cases hf : s.invoices.find n with
  | none => rw [hf] at h; contradiction
  | some k => rw [hf] at h; exact congrArg some (Except.ok.inj h)

/-! ### The serial counter (R72) -/

/-- The counter goes to the first number after it that neither a chest nor a job holds. -/
theorem advanceSerial_first {s : State} (h1 : 1 ≤ s.invoices.nextSerial) (h2 : s.invoices.nextSerial ≤ 65535)
    (hused : (usedSerials s).length < 65535) :
    ∃ k, (advanceSerial s).invoices.nextSerial = numberAfter s.invoices.nextSerial k ∧
      numberAfter s.invoices.nextSerial k ∉ usedSerials s ∧
      ∀ j, j < k → numberAfter s.invoices.nextSerial j ∈ usedSerials s := by
  simp only [advanceSerial, wrapNext_eq_numberAfter h1 h2]
  exact nextFree_first (fun n => List.contains_iff_mem) hused s.invoices.nextSerial

/-- The serials of a table whose invoice of a number has chests added at its end: those added, and those there were. -/
theorem InvoiceTable.serials_append_perm {t : InvoiceTable} {n : Nat} {v w : Invoice} {added : List Chest}
    (hnumbers : (t.invoices.map fun k => k.record.number).Nodup) (hv : t.find n = some v)
    (hw : w.chests = v.chests ++ added) :
    ((t.update n fun _ => w).invoices.flatMap fun k => k.chests.map fun c => c.serial).Perm
      (added.map (fun c => c.serial) ++ t.invoices.flatMap fun k => k.chests.map fun c => c.serial) := by
  obtain ⟨front, back, e, hupdate⟩ := InvoiceTable.find_split hnumbers hv
  rw [hupdate, e]
  simp only [List.flatMap_append, List.flatMap_cons, hw, List.map_append, ← List.append_assoc]
  refine List.Perm.append_right _ ?_
  rw [List.append_assoc (added.map _)]
  exact List.perm_append_comm

end Sys2Proof.Machine
end

section
/-! SUPPORT. A sound invoice table (R70 to R72, R80): what a change of one invoice, a new invoice and an invoice taken away
must keep for the table to stay sound. -/

namespace Sys2Proof.Machine

/-! ### An invoice that says the same of its chests -/

/-- What the tally, the packages and the chest numbers of an invoice rest on is kept, and its state is kept or is neither OPEN
nor FULL. -/
structure InvoiceKept (v w : Invoice) : Prop where
  number : w.record.number = v.record.number
  packages : w.record.packages = v.record.packages
  declaredNet : w.record.declaredNet = v.record.declaredNet
  tally : w.record.tally = v.record.tally
  overrun : w.record.overrun = v.record.overrun
  state : w.record.state = v.record.state ∨ (w.record.state ≠ .opened ∧ w.record.state ≠ .full)
  chests : w.chests.map (fun c => (c.number, c.serial, c.net)) = v.chests.map fun c => (c.number, c.serial, c.net)

section
variable {v w : Invoice}

theorem InvoiceKept.refl (v : Invoice) : InvoiceKept v v := ⟨rfl, rfl, rfl, rfl, rfl, .inl rfl, rfl⟩

/-- An invoice whose chests alone change, none in its number, serial or net. -/
theorem InvoiceKept.of_chests {g : Chest → Chest}
    (hg : ∀ c, (g c).number = c.number ∧ (g c).serial = c.serial ∧ (g c).net = c.net) :
    InvoiceKept v { v with chests := v.chests.map g } :=
  ⟨rfl, rfl, rfl, rfl, rfl, .inl rfl, by simp [hg]⟩

/-- What is read of a chest's number, serial and net is read alike of both. -/
theorem InvoiceKept.map_chests (h : InvoiceKept v w) {α : Type} (f : Nat × Nat × Int → α) :
    w.chests.map (fun c => f (c.number, c.serial, c.net)) = v.chests.map fun c => f (c.number, c.serial, c.net) := by
  simpa [Function.comp_def] using congrArg (List.map f) h.chests

theorem InvoiceKept.accepted (h : InvoiceKept v w) : w.chests.length = v.chests.length := by
  simpa using congrArg List.length h.chests

theorem InvoiceKept.serials (h : InvoiceKept v w) :
    w.chests.map (fun c => c.serial) = v.chests.map fun c => c.serial := h.map_chests fun p => p.2.1

theorem InvoiceKept.sound (h : InvoiceKept v w) (hv : InvoiceSound v) : InvoiceSound w where
  numbered := by
    rw [h.accepted, ← hv.numbered]
    exact h.map_chests fun p => p.1
  room := by rw [h.accepted, h.packages]; exact hv.room
  packages := by rw [h.packages]; exact hv.packages
  opened hst := by
    rw [h.accepted, h.packages]
    rcases h.state with e | ⟨e, -⟩
    · exact hv.opened (e ▸ hst)
    · exact absurd hst e
  full hst := by
    rw [h.accepted, h.packages]
    rcases h.state with e | ⟨-, e⟩
    · exact hv.full (e ▸ hst)
    · exact absurd hst e
  tally hover := by
    rw [h.tally, h.declaredNet, hv.tally (h.overrun ▸ hover)]
    exact congrArg List.sum (h.map_chests fun p => p.2.2 - (v.record.declaredNet : Int)).symm

end

/-! ### The table -/

section
variable {t u : InvoiceTable}

/-- A table whose invoices are each kept. -/
theorem TableSound.map_kept {f : Invoice → Invoice} (h : TableSound t) (hinvoices : u.invoices = t.invoices.map f)
    (hnext : u.nextSerial = t.nextSerial) (hf : ∀ v, InvoiceKept v (f v)) : TableSound u where
  slots := by rw [hinvoices, List.length_map]; exact h.slots
  numbers := by
    rw [hinvoices, List.map_map]
    simpa only [Function.comp_def, (hf _).number] using h.numbers
  next := hnext ▸ h.next
  serials := by
    rw [hinvoices, hnext, List.flatMap_map]
    simpa only [(hf _).serials] using h.serials
  each := by
    rw [hinvoices]
    exact List.forall_mem_map.mpr fun v hv => (hf v).sound (h.each v hv)

/-- A table that holds the same invoices and the same counter. -/
theorem TableSound.congr (h : TableSound t) (hinvoices : u.invoices = t.invoices) (hnext : u.nextSerial = t.nextSerial) :
    TableSound u :=
  h.map_kept (f := id) (by simpa using hinvoices) hnext InvoiceKept.refl

/-- An update that keeps the invoice of a number. -/
theorem TableSound.update_kept (h : TableSound t) {n : Nat} {f : Invoice → Invoice} (hf : ∀ v, InvoiceKept v (f v)) :
    TableSound (t.update n f) :=
  h.map_kept rfl rfl fun v => by
    split
    · exact hf v
    · exact .refl v

/-- One invoice of a sound table replaced by a sound one of its number. -/
theorem TableSound.replace {front back : List Invoice} {v w : Invoice} (h : TableSound t)
    (ht : t.invoices = front ++ v :: back) (hu : u.invoices = front ++ w :: back)
    (hnumber : w.record.number = v.record.number) (hnext : 1 ≤ u.nextSerial ∧ u.nextSerial ≤ 65535)
    (hserials : (u.nextSerial :: u.invoices.flatMap fun k => k.chests.map fun c => c.serial).Nodup)
    (hw : InvoiceSound w) : TableSound u where
  slots := by simpa [hu, ht] using h.slots
  numbers := by simpa [hu, ht, hnumber] using h.numbers
  next := hnext
  serials := hserials
  each k hk := by
    rw [hu, List.mem_append, List.mem_cons] at hk
    rcases hk with hk | rfl | hk
    · exact h.each k (by simp [ht, hk])
    · exact hw
    · exact h.each k (by simp [ht, hk])

/-- An update of one invoice of a sound table that keeps its number, adds no chest and leaves it sound. -/
theorem TableSound.update_fewer {n : Nat} {v : Invoice} {f : Invoice → Invoice} (h : TableSound t)
    (hv : t.find n = some v) (hnumber : (f v).record.number = n)
    (hserials : ((f v).chests.map fun c => c.serial).Sublist (v.chests.map fun c => c.serial))
    (hf : InvoiceSound v → InvoiceSound (f v)) : TableSound (t.update n f) := by
  obtain ⟨front, back, e, hupdate⟩ := InvoiceTable.find_split h.numbers hv
  refine h.replace e (hupdate f) (hnumber.trans (InvoiceTable.number_of_find hv).symm) h.next ?_
    (hf (h.each v (List.mem_of_find?_eq_some hv)))
  refine h.serials.sublist (List.Sublist.cons_cons _ ?_)
  rw [hupdate, e]
  simp only [List.flatMap_append, List.flatMap_cons]
  exact (List.Sublist.refl _).append (hserials.append (List.Sublist.refl _))

/-- An invoice leaves the table (R70). -/
theorem TableSound.filter {p : Invoice → Bool} (h : TableSound t) (hinvoices : u.invoices = t.invoices.filter p)
    (hnext : u.nextSerial = t.nextSerial) : TableSound u where
  slots := by rw [hinvoices]; exact (List.length_filter_le _ _).trans h.slots
  numbers := by rw [hinvoices]; exact h.numbers.sublist (List.filter_sublist.map _)
  next := hnext ▸ h.next
  serials := by
    rw [hinvoices, hnext]
    exact h.serials.sublist (List.Sublist.cons_cons _ (List.filter_sublist.flatMap _))
  each v hv := h.each v (List.mem_of_mem_filter (hinvoices ▸ hv))

/-- An invoice of a number the table does not hold joins it (R75). -/
theorem TableSound.join {v : Invoice} (h : TableSound t) (hinvoices : u.invoices = t.invoices ++ [v])
    (hnext : u.nextSerial = t.nextSerial) (hroom : t.invoices.length < 16)
    (hnew : ∀ k ∈ t.invoices, k.record.number ≠ v.record.number) (hempty : v.chests = []) (hv : InvoiceSound v) :
    TableSound u where
  slots := by rw [hinvoices, List.length_append, List.length_singleton]; omega
  numbers := by
    rw [hinvoices, List.map_append, List.nodup_append]
    refine ⟨h.numbers, by simp, fun a ha b hb => ?_⟩
    obtain ⟨k, hk, rfl⟩ := List.mem_map.mp ha
    obtain rfl : b = v.record.number := by simpa using hb
    exact hnew k hk
  next := hnext ▸ h.next
  serials := by simpa [hinvoices, hnext, hempty] using h.serials
  each k hk := by
    rw [hinvoices, List.mem_append, List.mem_singleton] at hk
    rcases hk with hk | rfl
    · exact h.each k hk
    · exact hv

/-- The chests of a sound table: at most 120 of each of sixteen invoices. -/
theorem TableSound.serials_length (h : TableSound t) :
    (t.invoices.flatMap fun v => v.chests.map fun c => c.serial).length ≤ 1920 := by
  have each : ∀ n ∈ t.invoices.map (fun v => v.chests.length), n ≤ 120 := by
    intro n hn
    obtain ⟨v, hv, rfl⟩ := List.mem_map.mp hn
    exact (h.each v hv).room.trans (h.each v hv).packages
  have bound := List.sum_le_card_nsmul _ _ each
  have slots := h.slots
  simp only [List.length_flatMap, List.length_map, smul_eq_mul] at bound ⊢
  omega

end

end Sys2Proof.Machine
end

section
/-! SUPPORT. Bounded queues (R82, R123): what a head and a station queue must keep, the job that joins a queue, and what a step
must keep of the queues and of the invoice table together. -/

namespace Sys2Proof.Machine

/-! ### The jobs of a head -/

/-- A head that has at most the jobs of another, in their order, and no more of them queued. -/
structure HeadShrinks (h k : Head) : Prop where
  queue : k.queue.Sublist h.queue
  jobs : k.jobs.Sublist h.jobs

theorem HeadShrinks.refl (h : Head) : HeadShrinks h h := ⟨.refl _, .refl _⟩

theorem HeadShrinks.of_eq {h k : Head} (hqueue : k.queue = h.queue) (hjob : k.inHand.map (·.job) = h.inHand.map (·.job)) :
    HeadShrinks h k := by
  refine ⟨hqueue ▸ .refl _, ?_⟩
  rw [Head.jobs, hqueue, hjob]
  exact .refl _

/-- A head with fewer jobs queued and the job in hand it had. -/
theorem HeadShrinks.of_queue {h k : Head} (hqueue : k.queue.Sublist h.queue)
    (hjob : k.inHand.map (·.job) = h.inHand.map (·.job)) : HeadShrinks h k := by
  refine ⟨hqueue, ?_⟩
  rw [Head.jobs, hjob]
  exact (List.Sublist.refl _).append hqueue

/-- A channel left without a job in hand. -/
theorem HeadShrinks.clear (h : Head) (st : HeadState) : HeadShrinks h (h.clear st) :=
  ⟨.refl _, List.sublist_append_right _ _⟩

/-- A head that drops every job (R137). -/
theorem HeadShrinks.drop (h : Head) (st : HeadState) : HeadShrinks h { h.clear st with queue := [] } :=
  ⟨List.nil_sublist _, List.nil_sublist _⟩

@[simp] theorem Head.endLine_queue (h : Head) (j : JobInHand) (sent : List HeadSymbol) :
    (h.endLine j sent).queue = h.queue := rfl

@[simp] theorem Head.endLine_inHand (h : Head) (j : JobInHand) (sent : List HeadSymbol) :
    (h.endLine j sent).inHand = some j := rfl

@[simp] theorem Head.stream_queue (h : Head) (j : JobInHand) : (h.stream j).queue = h.queue := by
  unfold Head.stream
  split <;> rfl

@[simp] theorem Head.stream_inHand (h : Head) (j : JobInHand) : (h.stream j).inHand = some j := by
  unfold Head.stream
  split <;> rfl

/-- A channel that streams a line of the job it had in hand. -/
theorem HeadShrinks.stream {h : Head} {j k : JobInHand} (hj : h.inHand = some j) (hk : k.job = j.job) :
    HeadShrinks h (h.stream k) :=
  .of_eq (by simp) (by simp [hj, hk])

/-- A channel that begins the front job of its queue (R129). -/
theorem HeadShrinks.start {h : Head} {j : JobInHand} {rest : List Job} (hqueue : (j.job :: rest).Sublist h.queue) :
    HeadShrinks h (({ h with queue := rest } : Head).stream j) := by
  refine ⟨?_, ?_⟩
  · rw [Head.stream_queue]
    exact (List.sublist_cons_self _ _).trans hqueue
  · rw [Head.jobs, Head.stream_queue, Head.stream_inHand]
    exact hqueue.trans (List.sublist_append_right _ _)

theorem HeadShrinks.sendCharacter (h : Head) : HeadShrinks h h.sendCharacter := by
  unfold Head.sendCharacter
  split
  case h_2 => exact .refl h
  case h_1 j _ hj =>
    split
    · dsimp only
      split
      · exact .of_eq rfl (by rw [hj]; rfl)
      · exact .of_eq rfl (by rw [hj]; rfl)
    · exact .of_eq rfl (by rw [hj]; rfl)

/-! ### Bounded queues -/

section
variable {s u : State}

/-- Queues that each lose entries, or none. -/
theorem QueuesBounded.shrink (h : QueuesBounded s)
    (hqueues : ∀ i : Fin 4, u.invoices.queues[i].Sublist s.invoices.queues[i])
    (hheads : ∀ i : Fin 2, HeadShrinks s.stencils.heads[i] u.stencils.heads[i]) : QueuesBounded u := by
  obtain ⟨hstations, hlengths, hserials⟩ := h
  refine ⟨fun i => ⟨(hqueues i).length_le.trans (hstations i).1, (hstations i).2.sublist (hqueues i)⟩,
    fun i => (hheads i).queue.length_le.trans (hlengths i), hserials.sublist (List.Sublist.map _ ?_)⟩
  exact (hheads 0).jobs.append (hheads 1).jobs

theorem QueuesBounded.congr (h : QueuesBounded s) (hqueues : u.invoices.queues = s.invoices.queues)
    (hheads : u.stencils.heads = s.stencils.heads) : QueuesBounded u :=
  h.shrink (fun _ => hqueues ▸ .refl _) fun _ => hheads ▸ .refl _

/-- The jobs of the two heads are at most eighteen. -/
theorem QueuesBounded.jobs_length (h : QueuesBounded s) : s.stencils.jobs.length ≤ 18 := by
  obtain ⟨-, hlengths, -⟩ := h
  have one : ∀ k : Head, k.jobs.length ≤ 1 + k.queue.length := fun k => by
    rw [Head.jobs, List.length_append]
    cases k.inHand <;> simp
  have first := (one s.stencils.heads[0]).trans (Nat.add_le_add_left (hlengths 0) 1)
  have second := (one s.stencils.heads[1]).trans (Nat.add_le_add_left (hlengths 1) 1)
  rw [Formatter.jobs, List.length_append]
  omega

/-- The jobs behind a job that joins a queue. -/
theorem Formatter.jobs_join_perm (f : Formatter) (i : Fin 2) (j : Job) :
    ({ f with heads := f.heads.set i { f.heads[i] with queue := f.heads[i].queue ++ [j] } } : Formatter).jobs.Perm
      (j :: f.jobs) := by
  match i with
  | 0 =>
    have joined : ((f.heads[0].jobs ++ [j]) ++ f.heads[1].jobs).Perm (j :: f.jobs) := by
      simp [Formatter.jobs, List.perm_middle]
    simpa [Formatter.jobs, Head.jobs] using joined
  | 1 =>
    have joined : (f.jobs ++ [j]).Perm (j :: f.jobs) := List.perm_append_singleton _ _
    simpa [Formatter.jobs, Head.jobs] using joined

/-- A job of a serial that has none joins a queue with room (R123). -/
theorem QueuesBounded.join (h : QueuesBounded s) {i : Fin 2} {j : Job} (hnew : s.stencils.hasJob j.serial = false)
    (hroom : s.stencils.heads[i].queue.length < 8) :
    QueuesBounded (s.setHead i { s.stencils.heads[i] with queue := s.stencils.heads[i].queue ++ [j] }) := by
  obtain ⟨hstations, hlengths, hserials⟩ := h
  refine ⟨hstations, fun k => ?_, ?_⟩
  · by_cases hk : k = i
    · subst hk
      rw [State.setHead_stencils, vector_set_self, List.length_append, List.length_singleton]
      exact hroom
    · rw [State.setHead_stencils, vector_set_other _ _ _ _ hk]
      exact hlengths k
  · refine (((Formatter.jobs_join_perm s.stencils i j).map fun k => k.serial).nodup_iff).mpr ?_
    rw [List.map_cons, List.nodup_cons]
    refine ⟨fun hin => ?_, hserials⟩
    obtain ⟨k, hk, e⟩ := List.mem_map.mp hin
    rw [Formatter.hasJob, List.any_eq_false] at hnew
    exact hnew k hk (beq_iff_eq.mpr e)

/-! ### What a step keeps -/

/-- What an operation keeps of the queues, and with them of the invoice table. -/
def QueuesAndTableKept (s u : State) : Prop :=
  (QueuesBounded s → QueuesBounded u) ∧ (QueuesBounded s → TableSound s.invoices → TableSound u.invoices)

theorem QueuesAndTableKept.refl (s : State) : QueuesAndTableKept s s := ⟨id, fun _ => id⟩

theorem QueuesAndTableKept.trans {w : State} (h : QueuesAndTableKept s u) (k : QueuesAndTableKept u w) :
    QueuesAndTableKept s w :=
  ⟨fun b => k.1 (h.1 b), fun b t => k.2 (h.1 b) (h.2 b t)⟩

/-- An operation of another block. -/
theorem QueuesAndTableKept.of_eq (hinvoices : u.invoices = s.invoices) (hheads : u.stencils.heads = s.stencils.heads) :
    QueuesAndTableKept s u :=
  ⟨fun b => b.congr (hinvoices ▸ rfl) hheads, fun _ t => hinvoices ▸ t⟩

/-- An operation that starts from what another block leaves. -/
theorem QueuesAndTableKept.after {w : State} (h : QueuesAndTableKept u w) (hinvoices : u.invoices = s.invoices)
    (hheads : u.stencils.heads = s.stencils.heads) : QueuesAndTableKept s w :=
  (QueuesAndTableKept.of_eq hinvoices hheads).trans h

/-- An operation that keeps the table sound and the queues as they are. -/
theorem QueuesAndTableKept.of_table (hqueues : u.invoices.queues = s.invoices.queues)
    (hheads : u.stencils.heads = s.stencils.heads) (htable : TableSound s.invoices → TableSound u.invoices) :
    QueuesAndTableKept s u :=
  ⟨fun b => b.congr hqueues hheads, fun _ => htable⟩

/-- An operation that takes an invoice from the station queues, and keeps the table sound. -/
theorem QueuesAndTableKept.of_leaving {n : Nat}
    (hqueues : u.invoices.queues = s.invoices.queues.map fun q => q.filter fun k => k != n)
    (hheads : u.stencils.heads = s.stencils.heads) (htable : TableSound s.invoices → TableSound u.invoices) :
    QueuesAndTableKept s u :=
  ⟨fun b => b.shrink (fun i => by simp [hqueues]) fun i => hheads ▸ .refl _, fun _ => htable⟩

/-- A head that keeps no more than the jobs it has. -/
theorem QueuesAndTableKept.setHead {i : Fin 2} {x : Head} (h : HeadShrinks s.stencils.heads[i] x) :
    QueuesAndTableKept s (s.setHead i x) := by
  refine ⟨fun b => b.shrink (fun _ => .refl _) fun k => ?_, fun _ t => t⟩
  by_cases hk : k = i
  · subst hk
    rw [State.setHead_stencils, vector_set_self]
    exact h
  · rw [State.setHead_stencils, vector_set_other _ _ _ _ hk]
    exact .refl _

end

end Sys2Proof.Machine
end

section
/-! SUPPORT. Appends and voids of chests (R77 to R81, R85): the record each leaves, and that a sound table stays sound. -/

namespace Sys2Proof.Machine

/-! ### The tally and the class -/

theorem InvoiceRecord.addGiveaway_frame (r : InvoiceRecord) (dev : Int) :
    r.addGiveaway dev = { r with tally := (r.addGiveaway dev).tally, overrun := (r.addGiveaway dev).overrun } := by
  unfold InvoiceRecord.addGiveaway
  split_ifs <;> rfl

theorem InvoiceRecord.judgeTightening_frame (r : InvoiceRecord) :
    r.judgeTightening = { r with cls := r.judgeTightening.cls, tightened := r.judgeTightening.tightened } := by
  unfold InvoiceRecord.judgeTightening
  split <;> rfl

theorem InvoiceRecord.subGiveaway_frame (r : InvoiceRecord) (dev : Int) :
    r.subGiveaway dev = { r with tally := (r.subGiveaway dev).tally } := by
  unfold InvoiceRecord.subGiveaway
  split <;> rfl

/-- A tally that has not overrun takes the deviation (R80). -/
theorem InvoiceRecord.addGiveaway_tally {r : InvoiceRecord} {dev : Int} (h : (r.addGiveaway dev).overrun = false) :
    r.overrun = false ∧ (r.addGiveaway dev).tally = r.tally + dev := by
  unfold InvoiceRecord.addGiveaway at h ⊢
  split_ifs at h ⊢ <;> simp_all

/-! ### An accepted chest -/

/-- The record behind an accepted chest, but for its state (R80, R81). -/
def InvoiceRecord.accept (r : InvoiceRecord) (net : Int) : InvoiceRecord :=
  (r.addGiveaway (net - r.declaredNet)).judgeTightening

theorem InvoiceRecord.accept_frame (r : InvoiceRecord) (net : Int) : r.accept net =
    { r with
      tally := (r.accept net).tally, overrun := (r.accept net).overrun
      cls := (r.accept net).cls, tightened := (r.accept net).tightened } := by
  unfold InvoiceRecord.accept
  rw [InvoiceRecord.judgeTightening_frame, InvoiceRecord.addGiveaway_frame]

/-- The tally and overrun flag are those of the giveaway; the judgement leaves them (R81). -/
theorem InvoiceRecord.accept_tally (r : InvoiceRecord) (net : Int) :
    (r.accept net).tally = (r.addGiveaway (net - r.declaredNet)).tally ∧
      (r.accept net).overrun = (r.addGiveaway (net - r.declaredNet)).overrun := by
  unfold InvoiceRecord.accept
  rw [InvoiceRecord.judgeTightening_frame]
  exact ⟨rfl, rfl⟩

/-- The chest an append makes (R77). -/
def Invoice.nextChest (v : Invoice) (serial : Nat) (station : Fin 4) (gross net : Int) : Chest :=
  ⟨v.chests.length + 1, serial, station, gross, net, .none, false⟩

/-- The invoice behind an accepted chest, before it is judged FULL (R77). -/
def Invoice.accept (v : Invoice) (c : Chest) : Invoice := ⟨v.record.accept c.net, v.chests ++ [c]⟩

/-- The state of an OPEN invoice behind an accepted chest (R79, R87). -/
def Invoice.stateAfter (v : Invoice) : InvoiceState :=
  if v.chests.length + 1 = v.record.packages then (if v.record.autoClose then .closing else .full) else v.record.state

/-- The invoice behind an accepted chest (R77, R79). -/
def Invoice.appended (v : Invoice) (c : Chest) : Invoice :=
  ⟨{ v.record.accept c.net with state := v.stateAfter }, v.chests ++ [c]⟩

theorem Invoice.appended_number (v : Invoice) (c : Chest) : (v.appended c).record.number = v.record.number := by
  rw [Invoice.appended, InvoiceRecord.accept_frame]

/-- A sound OPEN invoice takes the chest of its next number. -/
theorem InvoiceSound.appended {v : Invoice} {serial : Nat} {station : Fin 4} {gross net : Int} (h : InvoiceSound v)
    (hst : v.record.state = .opened) : InvoiceSound (v.appended (v.nextChest serial station gross net)) := by
  have room := h.opened hst
  have hpackages : (v.record.accept net).packages = v.record.packages := by rw [InvoiceRecord.accept_frame]
  have hnet : (v.record.accept net).declaredNet = v.record.declaredNet := by rw [InvoiceRecord.accept_frame]
  constructor
  case numbered => simp [Invoice.appended, Invoice.nextChest, h.numbered, List.range'_concat, Nat.add_comm]
  case room =>
    simp only [Invoice.appended, Invoice.nextChest, hpackages, List.length_append, List.length_singleton]
    omega
  case packages =>
    simp only [Invoice.appended, Invoice.nextChest, hpackages]
    exact h.packages
  case opened =>
    simp only [Invoice.appended, Invoice.nextChest, hpackages, Invoice.stateAfter, List.length_append,
      List.length_singleton]
    split_ifs with hfull
    · simp
    · simp
    · omega
  case full =>
    simp only [Invoice.appended, Invoice.nextChest, hpackages, Invoice.stateAfter, List.length_append,
      List.length_singleton]
    split_ifs with hfull
    · simp
    · exact fun _ => hfull
    · simp [hst]
  case tally =>
    simp only [Invoice.appended, Invoice.nextChest, hnet, (v.record.accept_tally net).1, (v.record.accept_tally net).2]
    intro hover
    obtain ⟨hbefore, htally⟩ := InvoiceRecord.addGiveaway_tally hover
    simp [htally, h.tally hbefore]

/-! ### What an accepted append leaves -/

/-- What an accepted append sends before it judges the invoice FULL, `r` the record behind the chest (R77; log 2). -/
def acceptSends (station : Fin 4) (v : Invoice) (r : InvoiceRecord) (serial : Nat) (net : Int) : List Instr :=
  (if (v.record.addGiveaway (net - v.record.declaredNet)).overrun && !v.record.overrun then
    [.noticeOffer (.invoiceOverrun v.record.number)] else []) ++
  (if (v.record.addGiveaway (net - v.record.declaredNet)).tightensNow then
    [.noticeOffer (.giveawayHigh r.number r.tally r.ceiling r.cls)] else []) ++
  [.event (acceptedSource station) ⟨some station, some v.record.number, some serial⟩,
    .appendAnswer station (.accepted (v.chests.length + 1) serial)]

/-- What an invoice that becomes FULL sends (R79, R87). -/
def fullSends (station : Fin 4) (r : InvoiceRecord) (serial : Nat) : List Instr :=
  [.event 12 ⟨some station, some r.number, some serial⟩, .noticeOffer (.invoiceFull r.number r.packages r.tally)] ++
    (if r.autoClose then [.sheetRequest r.number] else [])

theorem State.notify_if (s : State) (c : Bool) (n : Notice) :
    (if c then s.notify n else s) = s.sendAll (if c then [.noticeOffer n] else []) := by
  cases c
  · simp [State.sendAll]
  · rfl

theorem State.sendAll_append (s : State) (ks ms ns : List Instr) :
    s.sendAll (ks ++ ms ++ ns) = ((s.sendAll ks).sendAll ms).sendAll ns := by
  simp [State.sendAll]

theorem State.raise_send (s : State) (k : Fin 20) (x : EventContext) (m : Instr) :
    (s.raise k x).send m = s.sendAll [.event k x, m] := by
  simp [State.sendAll, State.raise, State.send]

/-- Becoming FULL, and CLOSING behind it by the auto-close flag (R79, R87). -/
theorem becomeFull_eq (station : Fin 4) (serial : Nat) (r : InvoiceRecord) (s : State) :
    becomeFull station serial r s = { s with
      transit := s.transit ++ fullSends station r serial
      invoices := { s.invoices.update r.number fun v =>
          { v with record := { v.record with state := if r.autoClose then .closing else .full } } with
        queues := s.invoices.queues.map fun q => q.filter fun k => k != r.number } } := by
  have both := s.invoices.update_update r.number
    (f := fun v => { v with record := { v.record with state := .full } })
    (g := fun v => { v with record := { v.record with state := .closing } }) (fun _ => rfl)
  unfold becomeFull fullSends
  split_ifs with hclose
  · simp only [← both]
    simp [beginClosing, State.setInvoiceState, State.updateInvoice, State.leaveQueues, State.send, State.notify,
      State.raise, InvoiceTable.update]
  · simp [State.setInvoiceState, State.updateInvoice, State.leaveQueues, State.send, State.notify, State.raise,
      InvoiceTable.update]

/-- The state behind an accepted chest, before the invoice is judged FULL (R72, R77). -/
def acceptedIn (v : Invoice) (c : Chest) (s : State) : State :=
  advanceSerial (s.updateInvoice v.record.number fun _ => v.accept c)

/-- An accepted append sends its arrivals, and the invoice becomes FULL with its last chest (R77, R79). -/
theorem acceptAppend_sends (station : Fin 4) (v : Invoice) (gross net : Int) (s : State) :
    let serial := s.invoices.nextSerial
    let r := v.record.accept net
    let u := (acceptedIn v (v.nextChest serial station gross net) s).sendAll (acceptSends station v r serial net)
    acceptAppend station v gross net s =
      if v.chests.length + 1 = r.packages then becomeFull station serial r u else u := by
  intro serial r u
  have sent : u = _ := State.sendAll_append _ _ _ _
  rw [sent, ← State.notify_if, ← State.notify_if, ← State.raise_send]
  rfl

/-- An accepted append: the tally, the class, the counter and the arrivals, and the invoice FULL with its last chest. -/
theorem acceptAppend_eq (station : Fin 4) (v : Invoice) (gross net : Int) (s : State) :
    let serial := s.invoices.nextSerial
    let c := v.nextChest serial station gross net
    acceptAppend station v gross net s = { s with
      transit := s.transit ++ acceptSends station v (v.record.accept net) serial net ++
        if v.chests.length + 1 = v.record.packages then fullSends station (v.record.accept net) serial else []
      invoices :=
        { invoices := (s.invoices.update v.record.number fun _ => v.appended c).invoices
          queues := if v.chests.length + 1 = v.record.packages then
              s.invoices.queues.map fun q => q.filter fun k => k != v.record.number
            else s.invoices.queues
          nextSerial := (acceptedIn v c s).invoices.nextSerial } } := by
  intro serial c
  have hnumber : (v.record.accept net).number = v.record.number := by rw [InvoiceRecord.accept_frame]
  have hpackages : (v.record.accept net).packages = v.record.packages := by rw [InvoiceRecord.accept_frame]
  have hclose : (v.record.accept net).autoClose = v.record.autoClose := by rw [InvoiceRecord.accept_frame]
  have hstate : (v.record.accept net).state = v.record.state := by rw [InvoiceRecord.accept_frame]
  rw [acceptAppend_sends, hpackages]
  split_ifs with hfull
  · have closed := s.invoices.update_then_update (n := v.record.number) (f := fun _ => v.accept c) (fun _ => hnumber)
      (fun w => { w with record := { w.record with state := if v.record.autoClose then .closing else .full } })
    have appended : v.appended c =
        { v.accept c with record :=
          { (v.accept c).record with state := if v.record.autoClose then .closing else .full } } := by
      simp [Invoice.appended, Invoice.stateAfter, Invoice.accept, hfull]
    rw [appended, ← closed, becomeFull_eq, hnumber, hclose]
    rfl
  · have appended : v.appended c = v.accept c := by
      simp only [Invoice.appended, Invoice.stateAfter, Invoice.accept, if_neg hfull]
      rw [← hstate]
      rfl
    rw [appended, List.append_nil]
    rfl

end Sys2Proof.Machine
end

section
/-! SUPPORT. The operations that keep the invoice table sound (R70 to R72, R80): appends and voids, closings and amendments,
stencil statuses, sample marks and lots, and the builder's states. -/

namespace Sys2Proof.Machine

section
variable {s u : State} {n : Nat} {v : Invoice}

/-! ### Appends and voids -/

/-- The serials in use behind an accepted chest: its own, and those in use before. -/
theorem usedSerials_accept_perm {c : Chest} (hnumbers : (s.invoices.invoices.map fun k => k.record.number).Nodup)
    (hv : s.invoices.find n = some v) :
    (usedSerials (s.updateInvoice n fun _ => v.accept c)).Perm (c.serial :: usedSerials s) := by
  have chests := InvoiceTable.serials_append_perm hnumbers hv (w := v.accept c) (added := [c]) rfl
  exact chests.append_right (s.stencils.jobs.map fun j => j.serial)

/-- The counter behind an accepted chest stands at the first number after it that is not in use (R72). -/
theorem acceptedIn_nextSerial {c : Chest} (hnumbers : (s.invoices.invoices.map fun k => k.record.number).Nodup)
    (hv : s.invoices.find n = some v) (h1 : 1 ≤ s.invoices.nextSerial) (h2 : s.invoices.nextSerial ≤ 65535)
    (hused : (c.serial :: usedSerials s).length < 65535) :
    ∃ k, (acceptedIn v c s).invoices.nextSerial = numberAfter s.invoices.nextSerial k ∧
      numberAfter s.invoices.nextSerial k ∉ c.serial :: usedSerials s ∧
      ∀ j, j < k → numberAfter s.invoices.nextSerial j ∈ c.serial :: usedSerials s := by
  obtain rfl := InvoiceTable.number_of_find hv
  have used := usedSerials_accept_perm (c := c) hnumbers hv
  simp only [← used.mem_iff]
  exact advanceSerial_first h1 h2 (by rwa [used.length_eq])

/-- An append keeps the table sound: its chest takes the counter's serial, and the counter a number not in use. -/
theorem acceptAppend_table (hb : QueuesBounded s) (h : TableSound s.invoices) (hv : s.invoices.find n = some v)
    (hst : v.record.state = .opened) (station : Fin 4) (gross net : Int) :
    TableSound (acceptAppend station v gross net s).invoices := by
  obtain rfl := InvoiceTable.number_of_find hv
  have hused : (s.invoices.nextSerial :: usedSerials s).length < 65535 := by
    have chests := h.serials_length
    have jobs := hb.jobs_length
    rw [List.length_cons, usedSerials, List.length_append, List.length_map]
    omega
  obtain ⟨k, hk, hfree, -⟩ :=
    acceptedIn_nextSerial (c := v.nextChest s.invoices.nextSerial station gross net) h.numbers hv h.next.1 h.next.2 hused
  obtain ⟨front, back, e, hupdate⟩ := InvoiceTable.find_split h.numbers hv
  rw [acceptAppend_eq]
  refine h.replace e (hupdate _) (v.appended_number _) ?_ ?_
    ((h.each v (List.mem_of_find?_eq_some hv)).appended hst)
  · dsimp only
    rw [hk]
    exact numberAfter_range _ _
  · have serials := InvoiceTable.serials_append_perm h.numbers hv
      (w := v.appended (v.nextChest s.invoices.nextSerial station gross net)) rfl
    dsimp only
    rw [hk, List.nodup_cons, serials.mem_iff, serials.nodup_iff]
    refine ⟨fun hin => hfree ?_, h.serials⟩
    rcases List.mem_cons.mp hin with e | hin
    · exact List.mem_cons.mpr (.inl e)
    · exact List.mem_cons_of_mem _ (List.mem_append_left _ hin)

theorem takeAppend_kept (station : Fin 4) (n : Nat) (gross net : Int) (s : State) :
    QueuesAndTableKept s (takeAppend station n gross net s) := by
  unfold takeAppend
  split
  · rename_i v hv
    split
    · rename_i hst
      refine ⟨fun b => b.shrink (fun i => ?_) fun i => by simp [acceptAppend_eq, HeadShrinks.refl],
        fun b t => acceptAppend_table b t hv (beq_iff_eq.mp hst) station gross net⟩
      rw [acceptAppend_eq]
      dsimp only
      split_ifs <;> simp
    · exact .of_eq rfl rfl
  · exact .of_eq rfl rfl

/-- The invoice behind the void of its newest chest is sound, and OPEN (R85). -/
theorem InvoiceSound.void {c : Chest} (h : InvoiceSound v) (hc : v.chests.getLast? = some c) :
    InvoiceSound ⟨voidRecord v.record c, v.chests.dropLast⟩ := by
  obtain ⟨front, hfront⟩ : ∃ front, v.chests = front ++ [c] := ⟨_, (List.dropLast_append_getLast? c hc).symm⟩
  have record : voidRecord v.record c =
      { v.record with tally := (v.record.subGiveaway (c.net - v.record.declaredNet)).tally, state := .opened } := by
    rw [voidRecord, InvoiceRecord.subGiveaway_frame]
  have room := h.room
  have numbered := h.numbered
  rw [hfront, List.length_append, List.length_singleton] at room
  simp only [hfront, List.map_append, List.length_append, List.length_singleton, List.range'_concat, List.map_cons,
    List.map_nil] at numbered
  rw [record, hfront, List.dropLast_concat]
  constructor
  case numbered => exact (List.append_inj' numbered rfl).1
  case room => exact (Nat.le_succ _).trans room
  case packages => exact h.packages
  case opened => exact fun _ => room
  case full => simp
  case tally =>
    intro hover
    have before := h.tally hover
    simp only [hfront, List.map_append, List.sum_append, List.map_cons, List.map_nil, List.sum_cons, List.sum_nil] at before
    have hover : v.record.overrun = false := hover
    simp only [InvoiceRecord.subGiveaway, hover]
    simp only [before]
    simp

theorem ownInvVoidLast_kept {expected : Nat} {form : Form} (e : ownInvVoidLast n expected s = .ok (u, form)) :
    QueuesAndTableKept s u := by
  obtain ⟨_, -, e⟩ := bind_eq_ok e
  obtain ⟨v, hnamed, e⟩ := bind_eq_ok e
  obtain ⟨_, -, e⟩ := bind_eq_ok e
  obtain ⟨c, hc, e⟩ := bind_eq_ok e
  obtain ⟨_, -, e⟩ := bind_eq_ok e
  obtain ⟨_, -, e⟩ := bind_eq_ok e
  obtain ⟨rfl, -⟩ := Prod.mk.inj (Except.ok.inj e)
  have hv := find_of_invoiceNamed hnamed
  have hlast : v.chests.getLast? = some c := by
    cases hl : v.chests.getLast? with
    | none => rw [hl] at hc; contradiction
    | some d => rw [hl] at hc; exact congrArg some (Except.ok.inj hc)
  have voided : QueuesAndTableKept s (s.updateInvoice n fun _ => ⟨voidRecord v.record c, v.chests.dropLast⟩) := by
    refine .of_table rfl rfl fun t => t.update_fewer hv ?_ ((List.dropLast_sublist _).map _) fun sound => sound.void hlast
    rw [← InvoiceTable.number_of_find hv, voidRecord, InvoiceRecord.subGiveaway_frame]
  split
  · exact voided.trans (.of_eq rfl rfl)
  · exact voided

/-! ### Opening, closing, cancelling and amending -/

/-- A commitment grants at least one package and no more than were asked for (R62, R74). -/
theorem openCommitment_packages {r : InvOpenFields} {w : State} {g : Grant} (hrange : openInRange r = true)
    (e : openCommitment r s = .ok (w, g)) : 0 < g.packages ∧ g.packages ≤ 120 := by
  obtain ⟨-, -, -, -, -, -, h1, h2, -⟩ := (openInRange_iff r).mp hrange
  unfold openCommitment at e
  split at e
  · obtain ⟨-, rfl⟩ := Prod.mk.inj (Except.ok.inj e)
    exact ⟨h1, h2⟩
  · obtain ⟨k, -, e⟩ := bind_eq_ok e
    obtain ⟨_, -, e⟩ := bind_eq_ok e
    obtain ⟨_, hsome, e⟩ := bind_eq_ok e
    obtain ⟨-, rfl⟩ := Prod.mk.inj (Except.ok.inj e)
    have some := bne_iff_ne.mp (require_ok hsome)
    exact ⟨Nat.pos_of_ne_zero some, (Nat.min_le_left _ _).trans h2⟩

theorem ownInvOpen_kept {r : InvOpenFields} {form : Form} (e : ownInvOpen r s = .ok (u, form)) :
    QueuesAndTableKept s u := by
  obtain ⟨_, hchecked, e⟩ := bind_eq_ok e
  obtain ⟨_, -, e⟩ := bind_eq_ok e
  obtain ⟨_, -, e⟩ := bind_eq_ok e
  obtain ⟨_, -, e⟩ := bind_eq_ok e
  obtain ⟨_, hnew, e⟩ := bind_eq_ok e
  obtain ⟨_, hroom, e⟩ := bind_eq_ok e
  obtain ⟨_, -, e⟩ := bind_eq_ok e
  obtain ⟨⟨w, g⟩, hcommit, e⟩ := bind_eq_ok e
  obtain ⟨_, -, e⟩ := bind_eq_ok e
  obtain ⟨rfl, -⟩ := Prod.mk.inj (Except.ok.inj e)
  have kept := openCommitment_keeps r s hcommit
  have invoices : w.invoices.invoices = s.invoices.invoices := by rw [kept]
  have queues : w.invoices.queues = s.invoices.queues := by rw [kept]
  have next : w.invoices.nextSerial = s.invoices.nextSerial := by rw [kept]
  have heads : w.stencils.heads = s.stencils.heads := by rw [kept]
  obtain ⟨hsome, hgranted⟩ := openCommitment_packages (require_ok hchecked) hcommit
  refine .of_table queues heads fun t => t.join (congrArg (fun l => l ++ [_]) invoices) next
    (of_decide_eq_true (require_ok hroom)) (fun k hk same => ?_) rfl
    ⟨rfl, Nat.zero_le _, hgranted, fun _ => hsome, nofun, fun _ => rfl⟩
  have free : ¬ numberTaken r.number s = true := by simpa using require_ok hnew
  exact free (numberTaken_iff.mpr (.inl ⟨k, hk, same⟩))

/-- An update that keeps every invoice it could change. -/
theorem QueuesAndTableKept.update {f : Invoice → Invoice} (hf : ∀ v, InvoiceKept v (f v)) :
    QueuesAndTableKept s (s.updateInvoice n f) :=
  .of_table rfl rfl fun t => t.update_kept hf

/-- A state that is neither OPEN nor FULL. -/
theorem QueuesAndTableKept.setInvoiceState {st : InvoiceState} (hst : st ≠ .opened ∧ st ≠ .full) :
    QueuesAndTableKept s (s.setInvoiceState n st) :=
  .update fun _ => ⟨rfl, rfl, rfl, rfl, rfl, .inr hst, rfl⟩

theorem beginClosing_kept (n : Nat) (s : State) : QueuesAndTableKept s (beginClosing n s) :=
  (QueuesAndTableKept.setInvoiceState (by decide)).trans (.of_eq rfl rfl)

/-- A short close keeps the table sound: its packages are the chests it has (R86). -/
theorem closeShort_kept (hv : s.invoices.find n = some v) : QueuesAndTableKept s (closeShort v s) := by
  have hn := InvoiceTable.number_of_find hv
  rw [closeShort_eq, hn]
  refine .of_leaving rfl rfl fun t => ?_
  have closed : TableSound (s.invoices.update n (Invoice.closedShort v.chests.length)) :=
    t.update_fewer hv hn (.refl _) fun sound =>
      ⟨sound.numbered, le_rfl, sound.room.trans sound.packages, nofun, nofun, sound.tally⟩
  exact closed.congr rfl rfl

theorem ownInvClose_kept {short : Nat} {form : Form} (e : ownInvClose n short s = .ok (u, form)) :
    QueuesAndTableKept s u := by
  obtain ⟨_, -, e⟩ := bind_eq_ok e
  obtain ⟨v, hnamed, e⟩ := bind_eq_ok e
  split at e
  · obtain ⟨rfl, -⟩ := Prod.mk.inj (Except.ok.inj e)
    exact beginClosing_kept n s
  · obtain ⟨_, -, e⟩ := bind_eq_ok e
    obtain ⟨rfl, -⟩ := Prod.mk.inj (Except.ok.inj e)
    exact closeShort_kept (find_of_invoiceNamed hnamed)
  · contradiction

theorem ownInvCancel_kept {form : Form} (e : ownInvCancel n s = .ok (u, form)) : QueuesAndTableKept s u := by
  obtain ⟨v, -, e⟩ := bind_eq_ok e
  obtain ⟨_, -, e⟩ := bind_eq_ok e
  obtain ⟨rfl, -⟩ := Prod.mk.inj (Except.ok.inj e)
  have left := cancelled_eq v n s
  unfold cancelled at left
  rw [left]
  exact .of_leaving rfl rfl fun t => t.filter rfl rfl

theorem amendTightening_frame (given : Bool) (r : InvoiceRecord) :
    amendTightening given r =
      { r with cls := (amendTightening given r).cls, tightened := (amendTightening given r).tightened } := by
  unfold amendTightening
  split
  · exact r.judgeTightening_frame
  · rfl

theorem notifyTightening_kept (before after : InvoiceRecord) (s : State) :
    QueuesAndTableKept s (notifyTightening before after s) := by
  unfold notifyTightening
  split
  · exact .of_eq rfl rfl
  · exact .refl s

/-- The state behind an amendment, before a FULL invoice begins its closing (R90). -/
def amendedIn (n : Nat) (given : Bool) (r : InvoiceRecord) (s : State) : State :=
  if given then notifyTightening r (amendTightening given r) (s.updateRecord n fun _ => amendTightening given r)
  else s.updateRecord n fun _ => amendTightening given r

/-- The answer to an amendment whose checks are passed, `r` the record with every given field set (R90). -/
def amendAnswer (n accepted : Nat) (given : Bool) (autoClose : Option Bool) (r : InvoiceRecord) (s : State) : Answer :=
  if autoClose == some true && (amendTightening given r).state == .full then
    okWith (beginClosing n (amendedIn n given r s)) (.invoice { amendTightening given r with state := .closing } accepted)
  else okWith (amendedIn n given r s) (.invoice (amendTightening given r) accepted)

theorem amendedIn_kept {r : InvoiceRecord} (given : Bool) (hv : s.invoices.find n = some v)
    (hr : InvoiceKept v { v with record := r }) : QueuesAndTableKept s (amendedIn n given r s) := by
  have kept : InvoiceKept v { v with record := amendTightening given r } := by
    rw [amendTightening_frame]
    exact ⟨hr.number, hr.packages, hr.declaredNet, hr.tally, hr.overrun, hr.state, rfl⟩
  have set : QueuesAndTableKept s (s.updateRecord n fun _ => amendTightening given r) :=
    .of_table rfl rfl fun t =>
      t.update_fewer hv (kept.number.trans (InvoiceTable.number_of_find hv)) (.refl _) kept.sound
  unfold amendedIn
  split
  · exact set.trans (notifyTightening_kept r (amendTightening given r) _)
  · exact set

theorem ownInvAmend_kept {f : InvAmendFields} {form : Form} (e : ownInvAmend n f s = .ok (u, form)) :
    QueuesAndTableKept s u := by
  obtain ⟨_, -, e⟩ := bind_eq_ok e
  obtain ⟨garden, -, e⟩ := bind_eq_ok e
  obtain ⟨grade, -, e⟩ := bind_eq_ok e
  obtain ⟨ceiling, -, e⟩ := bind_eq_ok e
  obtain ⟨allowance, -, e⟩ := bind_eq_ok e
  obtain ⟨autoClose, -, e⟩ := bind_eq_ok e
  obtain ⟨v, hnamed, e⟩ := bind_eq_ok e
  obtain ⟨_, -, e⟩ := bind_eq_ok e
  obtain ⟨_, -, e⟩ := bind_eq_ok e
  have amended := amendedIn_kept (r := v.record.amend garden grade ceiling allowance autoClose) ceiling.isSome
    (find_of_invoiceNamed hnamed) ⟨rfl, rfl, rfl, rfl, rfl, .inl rfl, rfl⟩
  have e : amendAnswer n v.accepted ceiling.isSome autoClose (v.record.amend garden grade ceiling allowance autoClose) s =
    .ok (u, form) := e
  unfold amendAnswer at e
  split at e
  · obtain ⟨rfl, -⟩ := Prod.mk.inj (Except.ok.inj e)
    exact amended.trans (beginClosing_kept n _)
  · obtain ⟨rfl, -⟩ := Prod.mk.inj (Except.ok.inj e)
    exact amended

/-! ### Station queues -/

theorem ownStationQueueAdd_kept {station : Nat} {form : Form} (e : ownStationQueueAdd station n s = .ok (u, form)) :
    QueuesAndTableKept s u := by
  obtain ⟨i, -, e⟩ := bind_eq_ok e
  obtain ⟨v, -, e⟩ := bind_eq_ok e
  obtain ⟨_, -, e⟩ := bind_eq_ok e
  obtain ⟨_, hnew, e⟩ := bind_eq_ok e
  obtain ⟨_, hroom, e⟩ := bind_eq_ok e
  obtain ⟨rfl, -⟩ := Prod.mk.inj (Except.ok.inj e)
  refine ⟨fun b => ⟨fun k => ?_, b.2⟩, fun _ t => t.congr rfl rfl⟩
  obtain ⟨hstations, -⟩ := b
  by_cases hk : k = i
  · subst hk
    have room : s.invoices.queues[k].length < 4 := of_decide_eq_true (require_ok hroom)
    have new : n ∉ s.invoices.queues[k] := by simpa using require_ok hnew
    rw [State.setQueue_invoices, vector_set_self, List.length_append, List.length_singleton]
    exact ⟨room, List.concat_eq_append ▸ (hstations k).2.concat new⟩
  · rw [State.setQueue_invoices, vector_set_other _ _ _ _ hk]
    exact hstations k

theorem ownStationQueueRemove_kept {station : Nat} {form : Form}
    (e : ownStationQueueRemove station n s = .ok (u, form)) : QueuesAndTableKept s u := by
  obtain ⟨i, -, e⟩ := bind_eq_ok e
  obtain ⟨_, -, e⟩ := bind_eq_ok e
  obtain ⟨_, -, e⟩ := bind_eq_ok e
  obtain ⟨rfl, -⟩ := Prod.mk.inj (Except.ok.inj e)
  refine ⟨fun b => b.shrink (fun k => ?_) fun _ => .refl _, fun _ t => t.congr rfl rfl⟩
  by_cases hk : k = i
  · subst hk
    rw [State.setQueue_invoices, vector_set_self]
    exact List.filter_sublist
  · rw [State.setQueue_invoices, vector_set_other _ _ _ _ hk]

/-! ### Statuses, sample marks and lots -/

theorem OnlyStatus.invoiceKept {g : Chest → Chest} (hg : OnlyStatus g) (v : Invoice) :
    InvoiceKept v { v with chests := v.chests.map g } :=
  .of_chests fun c => by
    rw [hg c]
    exact ⟨rfl, rfl, rfl⟩

theorem setStatus_kept (serial : Nat) (st : StencilStatus) (s : State) :
    QueuesAndTableKept s (s.setStatus serial st) := by
  obtain ⟨g, hg, e⟩ := State.setStatus_onlyStatus s serial st
  rw [e]
  exact .of_table rfl rfl fun t => t.map_kept rfl rfl hg.invoiceKept

theorem takeStatus_kept (serial : Nat) (a : StatusArrival) (s : State) :
    QueuesAndTableKept s (s.takeStatus serial a) := by
  unfold State.takeStatus
  split
  · exact setStatus_kept serial _ s
  · exact .refl s

theorem takeStatuses_kept (s : State) : QueuesAndTableKept s s.takeStatuses := by
  obtain ⟨g, hg, e⟩ := State.takeStatuses_onlyStatus s
  rw [e]
  exact .of_table rfl rfl fun t => t.map_kept rfl rfl hg.invoiceKept

theorem takeSampleMark_kept (serial grams : Nat) (s : State) :
    QueuesAndTableKept s (takeSampleMark serial grams s) := by
  have marked : ∀ n, QueuesAndTableKept s (markSample n serial grams s) := fun n =>
    (QueuesAndTableKept.update (f := fun v => { v with record := { v.record with
      allowance := min Config.allowanceLimit (v.record.allowance + grams) } })
      fun _ => ⟨rfl, rfl, rfl, rfl, rfl, .inl rfl, rfl⟩).trans
        (.of_table rfl rfl fun t => t.map_kept rfl rfl fun v => .of_chests fun c => by split <;> exact ⟨rfl, rfl, rfl⟩)
  unfold takeSampleMark
  split
  · exact .refl s
  · split
    · exact marked _
    · exact marked _
    · exact marked _
    · exact .of_eq rfl rfl
    · exact .of_eq rfl rfl

theorem lotEnquiry_kept (n : Nat) (s : State) : QueuesAndTableKept s (lotEnquiry n s) :=
  .update fun v => by
    dsimp only
    split <;> exact ⟨rfl, rfl, rfl, rfl, rfl, .inl rfl, rfl⟩

/-! ### The sheet builder and the record store -/

theorem beginBuild_kept (s : State) : QueuesAndTableKept s (beginBuild s) := by
  unfold beginBuild
  split
  · exact .refl s
  · split
    · exact .refl s
    · dsimp only
      split
      · exact lotEnquiry_kept _ s
      · exact (lotEnquiry_kept _ s).trans (.of_eq rfl rfl)

theorem joinWaiting_kept (n chests : Nat) (s : State) : QueuesAndTableKept s (joinWaiting n chests s) := by
  have waiting : ∀ u : State, QueuesAndTableKept u (u.setInvoiceState n .waiting) := fun _ => .setInvoiceState (by decide)
  exact ((waiting _).after (by rfl) (by rfl)).trans (.of_eq (by rfl) (by rfl))

theorem answerSheetSlot_kept (h : Sheet) (s : State) : QueuesAndTableKept s (answerSheetSlot h s) :=
  .of_eq (by simp) (by simp)

theorem endBuild_kept (h : Sheet) (s : State) : QueuesAndTableKept s (endBuild h s) := by
  have sheeted : QueuesAndTableKept s
      ((s.updateSheet h.invoice fun _ => { h with written := true }).setInvoiceState h.invoice .sheeted) :=
    (QueuesAndTableKept.setInvoiceState (by decide)).after rfl rfl
  unfold endBuild
  exact (sheeted.trans ((answerSheetSlot_kept _ _).after (by rfl) (by rfl))).trans (beginBuild_kept _)

theorem writeEntry_kept (s : State) : QueuesAndTableKept s (writeEntry s) := by
  unfold writeEntry
  split
  · exact .refl s
  · split
    · split
      · exact .refl s
      · dsimp only
        split
        · exact endBuild_kept _ s
        · exact .of_eq rfl rfl
    · exact .refl s

theorem takeSheetRequest_kept (n : Nat) (s : State) : QueuesAndTableKept s (takeSheetRequest n s) := by
  unfold takeSheetRequest
  split
  · exact .refl s
  · split
    · exact .refl s
    · split
      · exact joinWaiting_kept n _ s
      · split
        · exact (beginBuild_kept _).after rfl rfl
        · exact joinWaiting_kept n _ s

theorem tryWaiting_kept (l : List Nat) (s : State) : QueuesAndTableKept s (tryWaiting l s) := by
  induction l generalizing s with
  | nil => exact .of_eq rfl rfl
  | cons n rest ih =>
    unfold tryWaiting
    split
    · exact ih s
    · split
      · rename_i t _
        have closing : QueuesAndTableKept s (({ s with store := t } : State).setInvoiceState n .closing) :=
          (QueuesAndTableKept.setInvoiceState (by decide)).after rfl rfl
        exact (closing.trans (beginBuild_kept _)).trans (ih _)
      · exact .of_eq rfl rfl

theorem sheetReleased_kept (n : Nat) (s : State) : QueuesAndTableKept s (sheetReleased n s) := by
  unfold sheetReleased
  split
  · exact .refl s
  · have removed : QueuesAndTableKept s (s.removeInvoice n) := .of_table rfl rfl fun t => t.filter rfl rfl
    exact removed.trans (.of_eq (by simp) (by simp))

theorem ownSheetRelease_kept {form : Form} (e : ownSheetRelease n s = .ok (u, form)) : QueuesAndTableKept s u := by
  obtain ⟨_, -, e⟩ := bind_eq_ok e
  obtain ⟨h, -, e⟩ := bind_eq_ok e
  obtain ⟨_, -, e⟩ := bind_eq_ok e
  obtain ⟨_, -, e⟩ := bind_eq_ok e
  obtain ⟨_, -, e⟩ := bind_eq_ok e
  obtain ⟨rfl, -⟩ := Prod.mk.inj (Except.ok.inj e)
  simp only [releaseSheet]
  split
  · exact ((sheetReleased_kept _ _).trans (tryWaiting_kept _ _)).after rfl rfl
  · exact (sheetReleased_kept _ _).after rfl rfl

end

end Sys2Proof.Machine
end

section
/-! SUPPORT. The heads' queues (R123 to R138): the channels that take jobs, end them and drop them, and the jobs that join. -/

namespace Sys2Proof.Machine

/-! ### Jobs taken -/

theorem newJobInHand_job {j : Job} {c : Snapshot} {t : Template} {s : State} {h : JobInHand}
    (e : newJobInHand j c t s = some h) : h.job = j := by
  obtain ⟨v, -, rfl⟩ := Option.map_eq_some_iff.mp e
  rfl

theorem dropJob_kept (i : Fin 2) (j : Job) (reason : DropReason) (s : State) :
    QueuesAndTableKept s (dropJob i j reason s) := .of_eq rfl rfl

theorem startAtTable_kept (j : Job) (s : State) : QueuesAndTableKept s (startAtTable j s) :=
  (lotEnquiry_kept j.invoice s).trans (setStatus_kept j.serial .marking _)

/-- A channel that takes jobs of its queue keeps none but those behind them. -/
theorem takeJobs_kept (i : Fin 2) (l : List Job) (s : State) (hl : l.Sublist s.stencils.heads[i].queue) :
    QueuesAndTableKept s (takeJobs i l s) := by
  induction l generalizing s with
  | nil => exact .setHead (.of_queue (List.nil_sublist _) rfl)
  | cons j rest ih =>
    have hrest : rest.Sublist s.stencils.heads[i].queue := (List.sublist_cons_self j rest).trans hl
    unfold takeJobs
    dsimp only
    split
    · exact (ih (dropJob i j .empty (s.send (.stencilStatus j.serial .skipped))) hrest).after rfl rfl
    · split
      · exact (dropJob_kept i j .gone s).trans (ih _ hrest)
      · have statuses := takeStatuses_kept s
        split
        · exact statuses.trans ((ih (dropJob i j .gone s.takeStatuses) (by simpa using hrest)).after rfl rfl)
        · have started := statuses.trans (startAtTable_kept j _)
          have heads : (startAtTable j s.takeStatuses).stencils.heads = s.stencils.heads := by simp
          split
          · rename_i h hjob
            refine started.trans (.setHead (.start ?_))
            rw [newJobInHand_job hjob, heads]
            exact hl
          · refine started.trans (.setHead (.of_queue ?_ rfl))
            rw [heads]
            exact hrest

theorem takeNext_kept (i : Fin 2) (s : State) : QueuesAndTableKept s (takeNext i s) := by
  unfold takeNext
  split
  · exact takeJobs_kept i _ s (.refl _)
  · exact .refl s

/-- A channel that takes a job once its head has been changed. -/
theorem takeNext_setHead_kept {i : Fin 2} {x : Head} {s : State} (h : HeadShrinks s.stencils.heads[i] x) :
    QueuesAndTableKept s (takeNext i (s.setHead i x)) :=
  (QueuesAndTableKept.setHead h).trans (takeNext_kept i _)

/-! ### Jobs that join -/

theorem joinQueue_kept {i : Fin 2} {j : Job} {s : State} (hnew : s.stencils.hasJob j.serial = false)
    (hroom : s.stencils.heads[i].queue.length < 8) : QueuesAndTableKept s (joinQueue i j s) :=
  QueuesAndTableKept.trans ⟨fun b => b.join hnew hroom, fun _ t => t⟩ (takeNext_kept i _)

/-- A job joins behind the statuses in transit and its chest's own (R124, R125; log 4). -/
theorem joinQueue_pending_kept {i : Fin 2} {j : Job} {s : State} (hnew : s.stencils.hasJob j.serial = false)
    (hroom : s.stencils.heads[i].queue.length < 8) :
    QueuesAndTableKept s (joinQueue i j (s.takeStatuses.setStatus j.serial .pending)) :=
  ((takeStatuses_kept s).trans (setStatus_kept j.serial .pending _)).trans
    (joinQueue_kept (by simpa using hnew) (by simpa using hroom))

theorem takeJobRequest_kept (i : Fin 2) (template : Fin 8) (serial n : Nat) (s : State) :
    QueuesAndTableKept s (takeJobRequest i template serial n s) := by
  unfold takeJobRequest
  split
  · exact .of_eq rfl rfl
  · rename_i hnew
    split
    · exact .of_eq rfl rfl
    · rename_i hroom
      exact joinQueue_pending_kept (by simpa using hnew) (Nat.not_le.mp hroom)

section
variable {s u : State} {form : Form} {head : Nat}

theorem ownStencilRequest_kept {template number chest : Nat}
    (e : ownStencilRequest head template number chest s = .ok (u, form)) : QueuesAndTableKept s u := by
  obtain ⟨i, -, e⟩ := bind_eq_ok e
  obtain ⟨t, -, e⟩ := bind_eq_ok e
  obtain ⟨_, -, e⟩ := bind_eq_ok e
  obtain ⟨v, -, e⟩ := bind_eq_ok e
  obtain ⟨c, -, e⟩ := bind_eq_ok e
  obtain ⟨_, hnew, e⟩ := bind_eq_ok e
  obtain ⟨_, hroom, e⟩ := bind_eq_ok e
  obtain ⟨rfl, -⟩ := Prod.mk.inj (Except.ok.inj e)
  exact joinQueue_pending_kept (by simpa using require_ok hnew) (of_decide_eq_true (require_ok hroom))

/-! ### Jobs that end, wait, or are dropped -/

theorem takeAcknowledge_kept (i : Fin 2) (s : State) : QueuesAndTableKept s (takeAcknowledge i s) := by
  unfold takeAcknowledge
  dsimp only
  split
  · rename_i j _ hj
    split
    · exact .setHead (.stream hj rfl)
    · exact (takeNext_setHead_kept (.clear _ .idle)).after rfl rfl
  · exact .refl s

theorem takeAckExpiry_kept (i : Fin 2) (s : State) : QueuesAndTableKept s (takeAckExpiry i s) := by
  unfold takeAckExpiry
  dsimp only
  split
  · have stopped : HeadShrinks s.stencils.heads[i] { s.stencils.heads[i] with state := .stopped, ackTimer := none } :=
      .of_eq rfl rfl
    exact (QueuesAndTableKept.setHead stopped).trans (.of_eq rfl rfl)
  · exact .refl s

theorem takeFault_kept (i : Fin 2) (s : State) : QueuesAndTableKept s (takeFault i s) := by
  unfold takeFault
  dsimp only
  split
  · exact .refl s
  · rename_i p _
    have held : HeadShrinks s.stencils.heads[i] { s.stencils.heads[i] with state := .held, resume := p, ackTimer := none } :=
      .of_eq rfl rfl
    exact (QueuesAndTableKept.setHead held).trans (.of_eq rfl rfl)

/-- A queued job is taken away on a void (R127). -/
theorem jobRemoval_kept (serial : Nat) (s : State) : QueuesAndTableKept s
    { s with stencils := { s.stencils with heads := s.stencils.heads.map fun h => h.removeJob serial } } := by
  refine ⟨fun b => b.shrink (fun _ => .refl _) fun i => ?_, fun _ t => t⟩
  have removed : HeadShrinks s.stencils.heads[i] (s.stencils.heads[i].removeJob serial) :=
    .of_queue List.filter_sublist rfl
  simpa using removed

theorem tick_kept (s : State) : QueuesAndTableKept s (tick s) := by
  refine ⟨fun b => b.shrink (fun _ => .refl _) fun i => ?_, fun _ t => t⟩
  have ticked : HeadShrinks s.stencils.heads[i] s.stencils.heads[i].tick := .of_eq rfl rfl
  simpa [tick] using ticked

theorem dropJobs_kept (i : Fin 2) (st : HeadState) (s : State) : QueuesAndTableKept s (dropJobs i st s) :=
  (QueuesAndTableKept.setHead (.drop _ st)).after rfl rfl

theorem ownHeadResume_kept (e : ownHeadResume head s = .ok (u, form)) : QueuesAndTableKept s u := by
  obtain ⟨i, -, e⟩ := bind_eq_ok e
  obtain ⟨_, -, e⟩ := bind_eq_ok e
  split at e
  · rename_i j _ hj
    obtain ⟨rfl, -⟩ := Prod.mk.inj (Except.ok.inj e)
    exact .setHead (.stream hj rfl)
  · rename_i j _ hj
    obtain ⟨rfl, -⟩ := Prod.mk.inj (Except.ok.inj e)
    exact .setHead (.of_eq rfl (by rw [hj]; rfl))
  · obtain ⟨rfl, -⟩ := Prod.mk.inj (Except.ok.inj e)
    exact takeNext_setHead_kept (.clear _ .idle)

theorem Head.inHand_of_recoverable {h : Head} {j : JobInHand} {r : Reason} (e : orRefuse h.recoverable r = .ok j) :
    h.inHand = some j := by
  unfold Head.recoverable at e
  split at e
  · cases hj : h.inHand with
    | none => rw [hj] at e; contradiction
    | some k => rw [hj] at e; exact congrArg some (Except.ok.inj e)
  · cases hj : h.inHand with
    | none => rw [hj] at e; contradiction
    | some k => rw [hj] at e; exact congrArg some (Except.ok.inj e)
  · contradiction

theorem ownHeadReline_kept (e : ownHeadReline head s = .ok (u, form)) : QueuesAndTableKept s u := by
  obtain ⟨i, -, e⟩ := bind_eq_ok e
  obtain ⟨j, hj, e⟩ := bind_eq_ok e
  obtain ⟨rfl, -⟩ := Prod.mk.inj (Except.ok.inj e)
  exact .setHead (.stream (Head.inHand_of_recoverable hj) rfl)

theorem ownHeadSkip_kept (e : ownHeadSkip head s = .ok (u, form)) : QueuesAndTableKept s u := by
  obtain ⟨i, -, e⟩ := bind_eq_ok e
  obtain ⟨j, -, e⟩ := bind_eq_ok e
  obtain ⟨rfl, -⟩ := Prod.mk.inj (Except.ok.inj e)
  exact (takeNext_setHead_kept (.clear _ .idle)).after rfl rfl

theorem ownHeadReset_kept (e : ownHeadReset head s = .ok (u, form)) : QueuesAndTableKept s u := by
  obtain ⟨i, -, e⟩ := bind_eq_ok e
  obtain ⟨rfl, -⟩ := Prod.mk.inj (Except.ok.inj e)
  exact dropJobs_kept i .idle s

theorem headOn_kept (i : Fin 2) (s : State) : QueuesAndTableKept s (headOn i s) := by
  unfold headOn
  dsimp only
  split
  · exact takeNext_setHead_kept (.clear _ .idle)
  · exact .refl s

theorem ownHeadSet_kept {setting : Nat} (e : ownHeadSet head setting s = .ok (u, form)) : QueuesAndTableKept s u := by
  obtain ⟨i, -, e⟩ := bind_eq_ok e
  split at e
  · obtain ⟨rfl, -⟩ := Prod.mk.inj (Except.ok.inj e)
    exact headOn_kept i s
  · obtain ⟨rfl, -⟩ := Prod.mk.inj (Except.ok.inj e)
    exact dropJobs_kept i .off s
  · contradiction

theorem ownTemplateLoad_kept {lines : List Byte} (e : ownTemplateLoad head lines s = .ok (u, form)) :
    QueuesAndTableKept s u := by
  obtain ⟨_, -, e⟩ := bind_eq_ok e
  obtain ⟨t, -, e⟩ := bind_eq_ok e
  obtain ⟨content, -, e⟩ := bind_eq_ok e
  obtain ⟨rfl, -⟩ := Prod.mk.inj (Except.ok.inj e)
  exact .of_eq rfl rfl

end

end Sys2Proof.Machine
end

section
/-! PROOF. Every step keeps the invoice table and the queues sound (R70 to R72, R80, R82, R123): request by request and arrival
by arrival, most of them writing neither. -/

namespace Sys2Proof.Machine

/-! ### Requests, taken and served -/

theorem answerRequest_kept {tag kind : Byte} {s : State} {a : Answer}
    (ha : ∀ u form, a = .ok (u, form) → QueuesAndTableKept s u) :
    QueuesAndTableKept s (answerRequest tag kind s a) := by
  cases a with
  | error r => exact .of_eq rfl rfl
  | ok p => exact (ha p.1 p.2 rfl).trans (.of_eq rfl rfl)

/-- A request whose owner writes neither the invoices nor the heads. -/
theorem answerRequest_kept_of_eq {tag kind : Byte} {s : State} {a : Answer}
    (ha : ∀ u form, a = .ok (u, form) → u.invoices = s.invoices ∧ u.stencils = s.stencils) :
    QueuesAndTableKept s (answerRequest tag kind s a) :=
  answerRequest_kept fun u form e => .of_eq (ha u form e).1 (congrArg Formatter.heads (ha u form e).2)

theorem takeSaveSettings_kept (tag : Byte) (s : State) : QueuesAndTableKept s (takeSaveSettings tag s) :=
  .of_eq (by simp) (by simp)

theorem takeRestart_kept (tag : Byte) (form : Nat) (s : State) : QueuesAndTableKept s (takeRestart tag form s) := by
  unfold takeRestart
  split <;> exact .of_eq rfl rfl

theorem takeRequest_kept (s : State) : ∀ i, QueuesAndTableKept s (takeRequest i s)
  | .invOpen .. => answerRequest_kept fun _ _ e => ownInvOpen_kept e
  | .invAmend .. => answerRequest_kept fun _ _ e => ownInvAmend_kept e
  | .invVoidLast .. => answerRequest_kept fun _ _ e => ownInvVoidLast_kept e
  | .invClose .. => answerRequest_kept fun _ _ e => ownInvClose_kept e
  | .invCancel .. => answerRequest_kept fun _ _ e => ownInvCancel_kept e
  | .stationQueueAdd .. => answerRequest_kept fun _ _ e => ownStationQueueAdd_kept e
  | .stationQueueRemove .. => answerRequest_kept fun _ _ e => ownStationQueueRemove_kept e
  | .stencilRequest .. => answerRequest_kept fun _ _ e => ownStencilRequest_kept e
  | .headResume .. => answerRequest_kept fun _ _ e => ownHeadResume_kept e
  | .headReline .. => answerRequest_kept fun _ _ e => ownHeadReline_kept e
  | .headSkip .. => answerRequest_kept fun _ _ e => ownHeadSkip_kept e
  | .headReset .. => answerRequest_kept fun _ _ e => ownHeadReset_kept e
  | .headSet .. => answerRequest_kept fun _ _ e => ownHeadSet_kept e
  | .templateLoad .. => answerRequest_kept fun _ _ e => ownTemplateLoad_kept e
  | .sheetRelease .. => answerRequest_kept fun _ _ e => ownSheetRelease_kept e
  | .bulkDefine .. => answerRequest_kept_of_eq fun _ _ e => by simp [ownBulkDefine_keeps _ _ _ _ e]
  | .bulkStart .. => answerRequest_kept_of_eq fun _ _ e => by simp [ownBulkStart_keeps _ _ e]
  | .bulkNext .. => answerRequest_kept_of_eq fun _ _ e => by simp [ownBulkNext_keeps _ _ e]
  | .bulkHold .. => answerRequest_kept_of_eq fun _ _ e => by simp [ownBulkHold_keeps _ _ e]
  | .bulkResume .. => answerRequest_kept_of_eq fun _ _ e => by simp [ownBulkResume_keeps _ _ e]
  | .bulkShort .. => answerRequest_kept_of_eq fun _ _ e => by simp [ownBulkShort_keeps _ _ e]
  | .bulkAbort .. => answerRequest_kept_of_eq fun _ _ e => by simp [ownBulkAbort_keeps _ _ e]
  | .bulkRetire .. => answerRequest_kept_of_eq fun _ _ e => by simp [ownBulkRetire_keeps _ _ e]
  | .bulkConfig .. => answerRequest_kept_of_eq fun _ _ e => by simp [ownBulkConfig_keeps _ _ _ _ e]
  | .bulkRead .. => answerRequest_kept_of_eq fun _ _ e => by simp [ownBulkRead_keeps _ _ e]
  | .stationConfig .. => answerRequest_kept_of_eq fun _ _ e => by simp [ownStationConfig_keeps _ _ e]
  | .stationCal .. => answerRequest_kept_of_eq fun _ _ e => by simp [ownStationCal_keeps _ _ _ _ e]
  | .stationRestart .. => answerRequest_kept_of_eq fun _ _ e => by simp [ownStationRestart_keeps _ _ e]
  | .stationZero .. => answerRequest_kept_of_eq fun _ _ e => by simp [ownStationZero_keeps _ _ e]
  | .weighCapture .. => answerRequest_kept_of_eq fun _ _ e => by simp [ownWeighCapture_keeps _ _ e]
  | .stationRead .. => answerRequest_kept_of_eq fun _ _ e => by simp [ownStationRead_keeps _ _ e]
  | .packtypeSet .. => answerRequest_kept_of_eq fun _ _ e => by simp [ownPacktypeSet_keeps _ _ _ _ _ e]
  | .tareListClear .. => answerRequest_kept_of_eq fun _ _ e => by simp [ownTareListClear_keeps _ _ e]
  | .tareListRead .. => answerRequest_kept_of_eq fun _ _ e => by simp [ownTareListRead_keeps _ _ e]
  | .classSet .. => answerRequest_kept_of_eq fun _ _ e => by simp [ownClassSet_keeps _ _ e]
  | .invRead .. => answerRequest_kept_of_eq fun _ _ e => by simp [ownInvRead_keeps _ _ _ e]
  | .vectorSet .. => answerRequest_kept_of_eq fun _ _ e => by simp [ownVectorSet_keeps _ _ _ e]
  | .actionSetWrite .. => answerRequest_kept_of_eq fun _ _ e => by simp [ownActionSetWrite_keeps _ _ _ e]
  | .actionSetRead .. => answerRequest_kept_of_eq fun _ _ e => by simp [ownActionSetRead_keeps _ _ e]
  | .templateRead .. => answerRequest_kept_of_eq fun _ _ e => by simp [ownTemplateRead_keeps _ _ e]
  | .headRead .. => answerRequest_kept_of_eq fun _ _ e => by simp [ownHeadRead_keeps _ _ e]
  | .windowSet .. => answerRequest_kept_of_eq fun _ _ e => by simp [ownWindowSet_keeps _ _ _ e]
  | .windowRead .. => answerRequest_kept_of_eq fun _ _ e => by simp [ownWindowRead_keeps _ _ e]
  | .sheetFetch .. => answerRequest_kept_of_eq fun _ _ e => by simp [ownSheetFetch_keeps _ _ _ e]
  | .storeRead .. => answerRequest_kept_of_eq fun _ _ e => by simp [ownStoreRead_keeps _ _ e]
  | .clockSet .. => answerRequest_kept_of_eq fun _ _ e => by simp [ownClockSet_keeps _ _ e]
  | .clockRound .. => answerRequest_kept_of_eq fun _ _ e => by simp [ownClockRound_keeps _ e]
  | .noticeMask .. => answerRequest_kept_of_eq fun _ _ e => by simp [ownNoticeMask_keeps _ _ e]
  | .linkSpeed .. => answerRequest_kept_of_eq fun _ _ e => by simp [ownLinkSpeed_keeps _ _ e]
  | .saveSettings tag => takeSaveSettings_kept tag s
  | .restart tag form => takeRestart_kept tag form s
  | .classRead tag | .vectorRead tag | .clockRead tag | .status tag => .of_eq rfl rfl
  | .sampleWord .. | .signalTimerExpiry .. | .append .. | .appendAnswer .. | .tareSample .. | .tareAnswer ..
  | .reading .. | .leaveReport | .stallTimerExpiry | .sampleMark .. | .event .. | .gatePulseEnd ..
  | .stencilJobRequest .. | .stencilStatus .. | .jobRemoval .. | .characterSent .. | .lineAcknowledge ..
  | .ackTimerExpiry .. | .headFault .. | .sheetRequest .. | .chestEntryWritten | .secondAdvance | .frameReceived ..
  | .badFrame | .frameGapTimeout | .frameSent | .noticeOffer .. | .captureWaitTimeout .. | .slotDiscard ..
  | .saveWriteEnd .. | .powerOn | .powerLoss | .byteReceived .. => .refl s

theorem serve_kept (s : State) : QueuesAndTableKept s s.serve := by
  refine State.serve_keeps (QueuesAndTableKept s) (fun u h => h.trans (.of_eq rfl rfl)) (fun u f rest h _ => h.trans ?_) s
    (.refl s)
  unfold takeFrame
  split
  · exact .of_eq rfl rfl
  · exact (takeRequest_kept _ _).after rfl rfl

/-! ### Starts -/

/-- At every start the invoice table is empty, its counter at 1, and every queue empty (R97, R140). -/
theorem QueuesAndTableKept.start {s u : State} (hinvoices : u.invoices = InvoiceTable.start)
    (hheads : u.stencils.heads = .replicate 2 Head.start) : QueuesAndTableKept s u := by
  refine ⟨fun _ => ⟨fun i => ?_, fun i => ?_, ?_⟩, fun _ _ => ?_⟩
  · simp [hinvoices, InvoiceTable.start]
  · simp [hheads, Head.start]
  · simp [Formatter.jobs, hheads, Head.start, Head.jobs]
  · rw [hinvoices]
    constructor <;> simp [InvoiceTable.start]

theorem startIn_kept (form : RestartForm) (s : State) : QueuesAndTableKept s (startIn form s) := by
  cases form <;> exact .start rfl rfl

theorem takeFrameSent_kept (s : State) : QueuesAndTableKept s (takeFrameSent s) := by
  have next : QueuesAndTableKept s (sendNext s) := (serve_kept _).after rfl rfl
  unfold takeFrameSent
  split
  · exact .refl s
  · split
    · split
      · exact startIn_kept _ s
      · exact next
    · exact next

/-! ### Arrivals and expiries -/

theorem frameArrives_kept (f : Frame) (s : State) : QueuesAndTableKept s (frameArrives f s) :=
  (serve_kept _).after (by simp) (by simp)

theorem takeByte_kept (b : Byte) (stopBit : Bool) (s : State) : QueuesAndTableKept s (takeByte b stopBit s) := by
  unfold takeByte
  split
  · exact .of_eq rfl rfl
  · split
    · exact .of_eq rfl rfl
    · split
      · exact .of_eq rfl rfl
      · unfold assembleByte
        split
        · exact .of_eq rfl rfl
        · exact .of_eq rfl rfl
        · exact frameArrives_kept _ s

theorem takeSaveWriteEnd_kept (verified : Bool) (s : State) : QueuesAndTableKept s (takeSaveWriteEnd verified s) := by
  unfold takeSaveWriteEnd
  split
  · exact .refl s
  · dsimp only
    split
    · exact (serve_kept _).after rfl rfl
    · exact (serve_kept _).after rfl rfl

/-! ### Commands and steps -/

/-- A command that a powered part takes. -/
theorem onPower_kept {f : State → State} {s t : State} (e : onPower s f = .next t) (hf : QueuesAndTableKept s (f s)) :
    QueuesAndTableKept s t := by
  obtain rfl := Host.Outcome.next.inj e
  split
  · exact hf
  · exact .refl s

theorem exec_arrival_kept {c : Instr} {s t : State} (hc : c.requestKind = none) (e : exec c s = .next t) :
    QueuesAndTableKept s t := by
  unfold exec at e
  cases c with
  | append station n gross net => exact onPower_kept e ((takeAppend_kept station n gross net _).after rfl rfl)
  | sampleMark serial grams => exact onPower_kept e ((takeSampleMark_kept serial grams _).after rfl rfl)
  | stencilStatus serial a => exact onPower_kept e ((takeStatus_kept serial a _).after rfl rfl)
  | stencilJobRequest i template serial n =>
    exact onPower_kept e ((takeJobRequest_kept i template serial n _).after rfl rfl)
  | jobRemoval serial => exact onPower_kept e ((jobRemoval_kept serial (s.taken (.jobRemoval serial))).after rfl rfl)
  | characterSent i => exact onPower_kept e (.setHead (.sendCharacter _))
  | lineAcknowledge i => exact onPower_kept e (takeAcknowledge_kept i s)
  | ackTimerExpiry i => exact onPower_kept e (takeAckExpiry_kept i s)
  | headFault i => exact onPower_kept e (takeFault_kept i s)
  | sheetRequest n => exact onPower_kept e ((takeSheetRequest_kept n _).after rfl rfl)
  | chestEntryWritten => exact onPower_kept e (writeEntry_kept s)
  | frameReceived f => exact onPower_kept e (frameArrives_kept f s)
  | byteReceived b stopBit => exact onPower_kept e (takeByte_kept (dataByte b) stopBit s)
  | frameSent => exact onPower_kept e (takeFrameSent_kept s)
  | saveWriteEnd verified => exact onPower_kept e (takeSaveWriteEnd_kept verified s)
  | powerOn =>
    obtain rfl := Host.Outcome.next.inj e
    exact .start rfl rfl
  | powerLoss => exact onPower_kept e (.start rfl rfl)
  | sampleWord => exact onPower_kept e (.of_eq (by split <;> simp) (by split <;> simp))
  | frameGapTimeout => exact onPower_kept e (.of_eq (by split <;> rfl) (by split <;> rfl))
  | signalTimerExpiry => exact onPower_kept e (.of_eq (by simp) (by simp))
  | appendAnswer => exact onPower_kept e (.of_eq (by simp) (by simp))
  | tareSample => exact onPower_kept e (.of_eq (by simp) (by simp))
  | tareAnswer => exact onPower_kept e (.of_eq (by simp) (by simp))
  | reading => exact onPower_kept e (.of_eq (by simp) (by simp))
  | leaveReport => exact onPower_kept e (.of_eq (by simp) (by simp))
  | stallTimerExpiry => exact onPower_kept e (.of_eq (by simp) (by simp))
  | event => exact onPower_kept e (.of_eq (by simp) (by simp))
  | secondAdvance => exact onPower_kept e (.of_eq (by simp) (by simp))
  | captureWaitTimeout => exact onPower_kept e (.of_eq (by simp) (by simp))
  | slotDiscard => exact onPower_kept e (.of_eq (by simp) (by simp))
  | gatePulseEnd => exact onPower_kept e (.of_eq rfl rfl)
  | badFrame => exact onPower_kept e (.of_eq rfl rfl)
  | noticeOffer => exact onPower_kept e (.of_eq rfl rfl)
  | _ => contradiction

theorem exec_kept {c : Instr} {s t : State} (e : exec c s = .next t) : QueuesAndTableKept s t := by
  cases hk : c.requestKind with
  | none => exact exec_arrival_kept hk e
  | some k =>
    by_cases hs : k = 0x36
    · obtain ⟨tag, rfl⟩ := eq_saveSettings (hs ▸ hk)
      exact onPower_kept e (takeRequest_kept s (.saveSettings tag))
    · rw [exec_request_onPower s hk hs] at e
      exact onPower_kept e ((takeRequest_kept s c).trans (serve_kept _))

/-- Settles O59: each command, and each of the part's own acts, keeps the queues within their bounds and the table sound. -/
theorem theInvoiceTableStaysSound : Obligations.TheInvoiceTableStaysSound := by
  unfold Obligations.TheInvoiceTableStaysSound
  intro s t e
  unfold step at e
  have kept : QueuesAndTableKept s t := by
    split at e
    · exact (exec_kept e).after rfl rfl
    · split at e
      · exact exec_kept e
      · obtain rfl := Host.Outcome.next.inj e
        unfold idle
        split
        · exact tick_kept s
        · exact .refl s
  exact kept

end Sys2Proof.Machine
end

section
/-! PROOF. Appends are accepted, tallied, tighten the class and fill the invoice (R72, R77 to R81, R87). -/

namespace Sys2Proof.Machine

/-! ### The tally and the class, case by case -/

section
variable {r : InvoiceRecord} {dev : Int}

theorem InvoiceRecord.addGiveaway_of_overrun (h : r.overrun = true) : r.addGiveaway dev = r := if_pos h

theorem InvoiceRecord.addGiveaway_within (h : r.overrun = false) (h1 : -9999 ≤ r.tally + dev) (h2 : r.tally + dev ≤ 9999) :
    r.addGiveaway dev = { r with tally := r.tally + dev } := by
  simp [InvoiceRecord.addGiveaway, Config.tallyLimit, h, Int.not_lt.mpr h1, Int.not_lt.mpr h2]

theorem InvoiceRecord.addGiveaway_above (h : r.overrun = false) (h2 : 9999 < r.tally + dev) :
    r.addGiveaway dev = { r with tally := 9999, overrun := true } := by
  simp [InvoiceRecord.addGiveaway, Config.tallyLimit, h, h2]

theorem InvoiceRecord.addGiveaway_below (h : r.overrun = false) (h1 : r.tally + dev < -9999) :
    r.addGiveaway dev = { r with tally := -9999, overrun := true } := by
  have h2 : ¬ 9999 < r.tally + dev := by omega
  simp [InvoiceRecord.addGiveaway, Config.tallyLimit, h, h1, h2]

/-- The tally above a non-zero ceiling, or at the bound by an overrun under any (R81). -/
theorem InvoiceRecord.exceedsCeiling_iff : r.exceedsCeiling = true ↔
    r.ceiling ≠ 0 ∧ ((r.ceiling : Int) < r.tally ∨ (r.overrun = true ∧ r.tally = 9999)) := by
  simp [InvoiceRecord.exceedsCeiling, Config.tallyLimit]

theorem nextClass_val (c : Fin 4) : (nextClass c).val = min 3 (c.val + 1) := by
  unfold nextClass
  split
  · exact (Nat.min_eq_right (by omega)).symm
  · omega

theorem InvoiceRecord.judgeTightening_of_exceeds (h : r.tightened = false) (he : r.exceedsCeiling = true) :
    r.judgeTightening = { r with cls := nextClass r.cls, tightened := true } := by
  simp [InvoiceRecord.judgeTightening, InvoiceRecord.tightensNow, h, he]

theorem InvoiceRecord.judgeTightening_of_not (h : r.tightened = true ∨ ¬ r.exceedsCeiling = true) :
    r.judgeTightening = r := by
  have stays : ¬ r.tightensNow = true := by
    rcases h with h | h <;> simp [InvoiceRecord.tightensNow, h]
  exact if_neg stays

/-- An invoice tightens now exactly when the judgement sets its latch. -/
theorem InvoiceRecord.tightensNow_iff :
    r.tightensNow = true ↔ r.tightened = false ∧ r.judgeTightening.tightened = true := by
  by_cases h : r.tightened = false ∧ r.exceedsCeiling = true
  · simp [InvoiceRecord.judgeTightening_of_exceeds h.1 h.2, InvoiceRecord.tightensNow, h]
  · have stays : r.tightened = true ∨ ¬ r.exceedsCeiling = true := by
      rw [← Bool.not_eq_false]
      tauto
    rw [InvoiceRecord.judgeTightening_of_not stays]
    rcases stays with h | h <;> simp [InvoiceRecord.tightensNow, h]

/-- The tally behind an accepted chest exceeds the ceiling of its invoice (R81). -/
def InvoiceRecord.AcceptExceeds (r : InvoiceRecord) (net : Int) : Prop :=
  r.ceiling ≠ 0 ∧
    ((r.ceiling : Int) < (r.accept net).tally ∨ ((r.accept net).overrun = true ∧ (r.accept net).tally = 9999))

theorem InvoiceRecord.acceptExceeds_iff (net : Int) :
    r.AcceptExceeds net ↔ (r.addGiveaway (net - r.declaredNet)).exceedsCeiling = true := by
  have hceiling : (r.addGiveaway (net - r.declaredNet)).ceiling = r.ceiling := by rw [InvoiceRecord.addGiveaway_frame]
  rw [InvoiceRecord.exceedsCeiling_iff, hceiling, InvoiceRecord.AcceptExceeds, (r.accept_tally net).1,
    (r.accept_tally net).2]

theorem InvoiceRecord.accept_tightens {net : Int} (h : r.tightened = false) (he : r.AcceptExceeds net) :
    (r.accept net).tightened = true ∧ (r.accept net).cls.val = min 3 (r.cls.val + 1) := by
  have hlatch : (r.addGiveaway (net - r.declaredNet)).tightened = false := by rw [InvoiceRecord.addGiveaway_frame, ← h]
  have hcls : (r.addGiveaway (net - r.declaredNet)).cls = r.cls := by rw [InvoiceRecord.addGiveaway_frame]
  rw [InvoiceRecord.accept, InvoiceRecord.judgeTightening_of_exceeds hlatch ((r.acceptExceeds_iff net).mp he), ← hcls]
  exact ⟨rfl, nextClass_val _⟩

theorem InvoiceRecord.accept_keeps_class {net : Int} (h : r.tightened = true ∨ ¬ r.AcceptExceeds net) :
    (r.accept net).cls = r.cls ∧ (r.accept net).tightened = r.tightened := by
  have hlatch : (r.addGiveaway (net - r.declaredNet)).tightened = r.tightened := by rw [InvoiceRecord.addGiveaway_frame]
  have hcls : (r.addGiveaway (net - r.declaredNet)).cls = r.cls := by rw [InvoiceRecord.addGiveaway_frame]
  rw [InvoiceRecord.acceptExceeds_iff, ← hlatch] at h
  rw [InvoiceRecord.accept, InvoiceRecord.judgeTightening_of_not h]
  exact ⟨hcls, hlatch⟩

end

/-! ### What is sent -/

section
variable {s : State} {station : Fin 4} {n : Nat} {gross net : Int} {v : Invoice}

theorem exec_append (hp : s.powered = true) : exec (.append station n gross net) s =
    .next (takeAppend station n gross net (s.taken (.append station n gross net))) :=
  onPower_powered hp fun s => takeAppend station n gross net (s.taken (.append station n gross net))

theorem exec_append_accepted (hp : s.powered = true) (hv : s.invoices.find n = some v) (hst : v.record.state = .opened) :
    exec (.append station n gross net) s =
      .next (acceptAppend station v gross net (s.taken (.append station n gross net))) := by
  have found : (s.taken (.append station n gross net)).invoices.find n = some v := hv
  rw [exec_append hp, takeAppend, found]
  simp [hst]

/-- What an accepted append sends, in terms of the invoice before it and behind it (log 2). -/
theorem acceptSends_eq (station : Fin 4) (v : Invoice) (serial : Nat) (net : Int) :
    acceptSends station v (v.record.accept net) serial net =
      (if v.record.overrun = false ∧ (v.record.accept net).overrun = true then
        [.noticeOffer (.invoiceOverrun v.record.number)] else []) ++
      (if v.record.tightened = false ∧ (v.record.accept net).tightened = true then
        [.noticeOffer (.giveawayHigh v.record.number (v.record.accept net).tally v.record.ceiling (v.record.accept net).cls)]
        else []) ++
      [.event ⟨station.val, by omega⟩ ⟨some station, some v.record.number, some serial⟩,
        .appendAnswer station (.accepted (v.chests.length + 1) serial)] := by
  have hnumber : (v.record.accept net).number = v.record.number := by rw [InvoiceRecord.accept_frame]
  have hceiling : (v.record.accept net).ceiling = v.record.ceiling := by rw [InvoiceRecord.accept_frame]
  have hlatch : (v.record.addGiveaway (net - v.record.declaredNet)).tightened = v.record.tightened := by
    rw [InvoiceRecord.addGiveaway_frame]
  have overruns : ((v.record.addGiveaway (net - v.record.declaredNet)).overrun && !v.record.overrun) = true ↔
      v.record.overrun = false ∧ (v.record.accept net).overrun = true := by
    rw [(v.record.accept_tally net).2]
    simp [and_comm]
  have tightens : (v.record.addGiveaway (net - v.record.declaredNet)).tightensNow = true ↔
      v.record.tightened = false ∧ (v.record.accept net).tightened = true := by
    rw [InvoiceRecord.tightensNow_iff, hlatch]
    rfl
  simp only [acceptSends, overruns, tightens, hnumber, hceiling]
  rfl

/-- What an invoice that becomes FULL sends, in terms of the invoice before the chest. -/
theorem fullSends_accept (station : Fin 4) (r : InvoiceRecord) (serial : Nat) (net : Int) :
    fullSends station (r.accept net) serial =
      [.event 12 ⟨some station, some r.number, some serial⟩,
        .noticeOffer (.invoiceFull r.number r.packages (r.accept net).tally)] ++
        (if r.autoClose = true then [.sheetRequest r.number] else []) := by
  unfold fullSends
  rw [InvoiceRecord.accept_frame]

theorem acceptAppend_transit (station : Fin 4) (v : Invoice) (gross net : Int) (s : State) :
    (acceptAppend station v gross net s).transit =
      s.transit ++ acceptSends station v (v.record.accept net) s.invoices.nextSerial net ++
        if v.chests.length + 1 = v.record.packages then
          fullSends station (v.record.accept net) s.invoices.nextSerial else [] := by
  rw [acceptAppend_eq]

theorem accepted_overrun_sent (h : v.record.overrun = false) (hover : (v.record.accept net).overrun = true) :
    .noticeOffer (.invoiceOverrun v.record.number) ∈ (acceptAppend station v gross net s).transit := by
  rw [acceptAppend_transit, acceptSends_eq]
  simp [h, hover]

theorem accepted_tightening_sent (h : v.record.tightened = false) (hlatch : (v.record.accept net).tightened = true) :
    .noticeOffer (.giveawayHigh v.record.number (v.record.accept net).tally v.record.ceiling (v.record.accept net).cls) ∈
      (acceptAppend station v gross net s).transit := by
  rw [acceptAppend_transit, acceptSends_eq]
  simp [h, hlatch]

theorem accepted_full_sent (hfull : v.chests.length + 1 = v.record.packages) :
    .event 12 ⟨some station, some v.record.number, some s.invoices.nextSerial⟩ ∈
        (acceptAppend station v gross net s).transit ∧
      .noticeOffer (.invoiceFull v.record.number v.record.packages (v.record.accept net).tally) ∈
        (acceptAppend station v gross net s).transit ∧
      (v.record.autoClose = true → .sheetRequest v.record.number ∈ (acceptAppend station v gross net s).transit) := by
  rw [acceptAppend_transit, fullSends_accept, if_pos hfull]
  refine ⟨by simp, by simp, fun hclose => by simp [hclose]⟩

end

/-- Settles O30: the accepted append in full; its tally, class and state case by case; and the counter's search. -/
theorem appendsAreAcceptedAndTallied : Obligations.AppendsAreAcceptedAndTallied := by
  unfold Obligations.AppendsAreAcceptedAndTallied
  refine ⟨fun s station n gross net hp => ⟨fun v hv hst => ?_, fun hother => ?_⟩,
    fun s station n gross net v hp hv hst => ?_, fun s t station n gross net v hp hv hst hnumbers h1 h2 hheld e => ?_⟩
  · obtain rfl := InvoiceTable.number_of_find hv
    refine ⟨_, v.appended (v.nextChest s.invoices.nextSerial station gross net), exec_append_accepted hp hv hst, ?_⟩
    rw [acceptAppend_eq, acceptSends_eq, fullSends_accept]
    refine ⟨rfl, ?_, ?_, ?_, rfl, fun k hk => ?_⟩
    · simp only [List.append_assoc]
      rfl
    · exact (InvoiceTable.find_update_found hv (fun _ => v.appended_number _) _).trans (if_pos rfl)
    · simp only [Invoice.appended, Invoice.nextChest]
      rw [InvoiceRecord.accept_frame]
    · exact (InvoiceTable.find_update_found hv (fun _ => v.appended_number _) _).trans (if_neg hk)
  · rw [exec_append hp, takeAppend]
    have same : (s.taken (.append station n gross net)).invoices.find n = s.invoices.find n := rfl
    rw [same]
    cases hv : s.invoices.find n with
    | none => rfl
    | some v => simp [hother v hv]
  · obtain rfl := InvoiceTable.number_of_find hv
    refine ⟨_, v.appended (v.nextChest s.invoices.nextSerial station gross net), exec_append_accepted hp hv hst, ?_⟩
    have tally := v.record.accept_tally net
    have queues : (acceptAppend station v gross net (s.taken (.append station v.record.number gross net))).invoices.queues =
        if v.chests.length + 1 = v.record.packages then
          s.invoices.queues.map fun q => q.filter fun k => k != v.record.number
        else s.invoices.queues := by rw [acceptAppend_eq]; rfl
    refine ⟨?_, fun h => ?_, fun h hlow hhigh => ?_, fun h hhigh => ?_, fun h hlow => ?_, v.record.accept_keeps_class,
      fun h he => ?_, fun hroom => ?_, fun hfull => ?_⟩
    · rw [acceptAppend_eq]
      exact (InvoiceTable.find_update_found hv (fun _ => v.appended_number _) _).trans (if_pos rfl)
    · rw [InvoiceRecord.addGiveaway_of_overrun h, h] at tally
      exact tally
    · rw [InvoiceRecord.addGiveaway_within h hlow hhigh] at tally
      exact ⟨tally.1, tally.2.trans h⟩
    · rw [InvoiceRecord.addGiveaway_above h hhigh] at tally
      exact ⟨tally.1, tally.2, accepted_overrun_sent h tally.2⟩
    · rw [InvoiceRecord.addGiveaway_below h hlow] at tally
      exact ⟨tally.1, tally.2, accepted_overrun_sent h tally.2⟩
    · obtain ⟨hlatch, hcls⟩ := v.record.accept_tightens h he
      exact ⟨hlatch, hcls, accepted_tightening_sent h hlatch⟩
    · exact ⟨(if_neg hroom).trans hst, queues.trans (if_neg hroom)⟩
    · obtain ⟨hevent, hnotice, hclose⟩ := accepted_full_sent (s := s.taken (.append station v.record.number gross net))
        (station := station) (gross := gross) (net := net) hfull
      exact ⟨if_pos hfull, fun i => by simp [queues, hfull], hevent, hnotice, hclose⟩
  · rw [exec_append_accepted hp hv hst] at e
    obtain rfl := Host.Outcome.next.inj e
    rw [acceptAppend_eq]
    obtain rfl := InvoiceTable.number_of_find hv
    obtain ⟨k, hk, hfree, hpassed⟩ := acceptedIn_nextSerial (s := s.taken (.append station v.record.number gross net))
      (c := v.nextChest s.invoices.nextSerial station gross net) hnumbers hv h1 h2 hheld
    exact ⟨k, hk, hk ▸ hfree, hpassed⟩

end Sys2Proof.Machine
end

section
/-! PROOF. The station queues (R83, R84), the void of the newest chest (R85), INV-READ (R95, R96), and stencil statuses and
sample marks (R91, R93). -/

namespace Sys2Proof.Machine

/-! ### Station queues -/

section
variable {s : State} {n : Nat} {v : Invoice}

theorem ownStationQueueAdd_eq (i : Fin 4) (h1 : 1 ≤ n) (h2 : n ≤ 99999) (hv : s.invoices.find n = some v) :
    ownStationQueueAdd i n s =
      if ¬ (s.stations[i].settings.role = .chest ∧ v.record.state = .opened) then .error .state
      else if n ∈ s.invoices.queues[i] then .error .conflict
      else if 4 ≤ s.invoices.queues[i].length then .error .full
      else .ok (s.setQueue i (s.invoices.queues[i] ++ [n]), .ok (.queue (s.invoices.queues[i] ++ [n]))) := by
  rw [ownStationQueueAdd, stationNumber_fin, ok_bind, invoiceNamed_found h1 h2 hv, ok_bind]
  simp only [require_bind, Bool.and_eq_true, beq_iff_eq, Bool.not_eq_true', List.contains_eq_mem, decide_eq_true_eq,
    decide_eq_false_iff_not, Config.stationQueueSize, ite_not, okWith, ← not_le]

theorem ownStationQueueRemove_eq (i : Fin 4) (h1 : 1 ≤ n) (h2 : n ≤ 99999) :
    ownStationQueueRemove i n s =
      if n ∈ s.invoices.queues[i] then
        .ok (s.setQueue i (s.invoices.queues[i].filter fun k => k != n),
          .ok (.queue (s.invoices.queues[i].filter fun k => k != n)))
      else .error .notFound := by
  have valid : validInvoice n = true := within_eq_true.mpr ⟨h1, h2⟩
  rw [ownStationQueueRemove, stationNumber_fin, ok_bind, require_bind, if_pos valid, require_bind]
  simp only [List.contains_eq_mem, decide_eq_true_eq]
  rfl

end

/-- Settles O31: each request by its checks in order. -/
theorem stationQueuesAreFirstInFirstOut : Obligations.StationQueuesAreFirstInFirstOut := by
  unfold Obligations.StationQueuesAreFirstInFirstOut
  refine fun tag s i n hp h1 h2 => ⟨fun h => ?_, fun v hv => ?_, ?_⟩
  · refine onRequest_refused hp ?_
    rw [ownStationQueueAdd, stationNumber_fin, ok_bind, invoiceNamed_notFound h1 h2 h, error_bind]
  · have answer := ownStationQueueAdd_eq i h1 h2 hv
    split_ifs at answer ⊢
    · exact onRequest_refused hp answer
    · exact onRequest_refused hp answer
    · exact onRequest_ok hp answer
    · exact onRequest_refused hp answer
  · have answer := ownStationQueueRemove_eq (s := s) i h1 h2
    split_ifs at answer ⊢
    · exact onRequest_ok hp answer
    · exact onRequest_refused hp answer

/-! ### INV-VOID-LAST -/

section
variable {s : State} {n expected : Nat} {v : Invoice} {c : Chest} {front : List Chest}

/-- The record behind a void: OPEN, its tally reversed unless it overran (R80, R85). -/
theorem voidRecord_eq (r : InvoiceRecord) (c : Chest) : voidRecord r c =
    { r with tally := if r.overrun = true then r.tally else r.tally - (c.net - r.declaredNet), state := .opened } := by
  unfold voidRecord InvoiceRecord.subGiveaway
  split_ifs <;> rfl

theorem ownInvVoidLast_closed (h1 : 1 ≤ n) (h2 : n ≤ 99999) (hexpected : expected ≤ 65535)
    (hv : s.invoices.find n = some v)
    (h : (v.record.state ≠ .opened ∧ v.record.state ≠ .full) ∨ v.chests = []) :
    ownInvVoidLast n expected s = .error .state := by
  rw [ownInvVoidLast, require_bind, if_pos (within_eq_true.mpr ⟨Nat.zero_le _, hexpected⟩),
    invoiceNamed_found h1 h2 hv, ok_bind, require_bind]
  split_ifs with hst
  · rcases h with ⟨hopened, hfull⟩ | h
    · simp [hopened, hfull] at hst
    · rw [h]
      rfl
  · rfl

theorem ownInvVoidLast_eq (h1 : 1 ≤ n) (h2 : n ≤ 99999) (hexpected : expected ≤ 65535)
    (hv : s.invoices.find n = some v) (hst : v.record.state = .opened ∨ v.record.state = .full)
    (hc : v.chests = front ++ [c]) :
    ownInvVoidLast n expected s =
      if ¬ (expected = 0 ∨ expected = c.serial) then .error .conflict
      else if c.status = .marking then .error .state
      else
        let u := s.updateInvoice n fun _ => ⟨voidRecord v.record c, front⟩
        .ok (if c.status = .pending then u.send (.jobRemoval c.serial) else u,
          .ok (.voided n c (voidRecord v.record c).tally)) := by
  have named : ((v.record.state == .opened) || v.record.state == .full) = true := by simpa using hst
  have last : v.chests.getLast? = some c := by rw [hc, List.getLast?_concat]
  rw [ownInvVoidLast, require_bind, if_pos (within_eq_true.mpr ⟨Nat.zero_le _, hexpected⟩),
    invoiceNamed_found h1 h2 hv, ok_bind, require_bind, if_pos named, last, orRefuse_some, ok_bind]
  simp only [require_bind, Bool.or_eq_true, beq_iff_eq, bne_iff_ne, ite_not, okWith, hc, List.dropLast_concat]

end

/-- Settles O32: the refusals, and the invoice without its newest chest. -/
theorem voidRemovesTheNewestChest : Obligations.VoidRemovesTheNewestChest := by
  unfold Obligations.VoidRemovesTheNewestChest
  refine fun tag s n expected hp h1 h2 hexpected => ⟨fun h => ?_, fun v c front hv => ⟨fun hopened hfull => ?_,
    fun hst => ⟨fun hempty => ?_, fun hc => ?_⟩⟩⟩
  · refine onRequest_refused hp ?_
    rw [ownInvVoidLast, require_bind, if_pos (within_eq_true.mpr ⟨Nat.zero_le _, hexpected⟩),
      invoiceNamed_notFound h1 h2 h, error_bind]
  · exact onRequest_refused hp (ownInvVoidLast_closed h1 h2 hexpected hv (.inl ⟨hopened, hfull⟩))
  · exact onRequest_refused hp (ownInvVoidLast_closed h1 h2 hexpected hv (.inr hempty))
  · have answer := ownInvVoidLast_eq h1 h2 hexpected hv hst hc
    refine ⟨fun h0 hserial => ?_, fun hserial => ⟨fun hmarking => ?_, fun hmarking => ?_⟩⟩
    · exact onRequest_refused hp (answer.trans (if_pos (not_or.mpr ⟨h0, hserial⟩)))
    · exact onRequest_refused hp (answer.trans ((if_neg (not_not.mpr hserial)).trans (if_pos hmarking)))
    · have taken := answer.trans ((if_neg (not_not.mpr hserial)).trans (if_neg hmarking))
      rw [voidRecord_eq] at taken
      exact onRequest_ok hp taken

/-! ### INV-READ -/

section
variable {s : State} {n k : Nat} {v : Invoice}

theorem ownInvRead_eq (h1 : 1 ≤ n) (h2 : n ≤ 99999) (hv : s.invoices.find n = some v) :
    ownInvRead n k s =
      if (v.chests.length + 15) / 16 < k then .error .range
      else if k = 0 then .ok (s, .ok (.invoice v.record v.chests.length))
      else .ok (s, .ok (.chests v.chests.length ((v.chests.drop (16 * (k - 1))).take 16))) := by
  have last : ceilDiv v.accepted Config.invoicePartSize = (v.chests.length + 15) / 16 := rfl
  rw [ownInvRead, if_neg (Nat.one_le_iff_ne_zero.mp h1), invoiceNamed_found h1 h2 hv, ok_bind, require_bind, last]
  simp only [decide_eq_true_eq, ← not_lt, ite_not]
  rfl

theorem InvoiceTable.summary_perm (t : InvoiceTable) : t.summary.Perm (t.invoices.map Invoice.line) :=
  List.mergeSort_perm _ _

theorem InvoiceTable.summary_sorted (t : InvoiceTable) : t.summary.Pairwise fun x y => x.number ≤ y.number := by
  have sorted := List.pairwise_mergeSort (le := fun x y : InvoiceLine => decide (x.number ≤ y.number))
    (fun _ _ _ hxy hyz => decide_eq_true (le_trans (of_decide_eq_true hxy) (of_decide_eq_true hyz)))
    (fun x y => by simpa using le_total x.number y.number) (t.invoices.map Invoice.line)
  exact sorted.imp fun h => of_decide_eq_true h

end

/-- Settles O35: a part by its number, and the summary as the sorted table. -/
theorem invReadReports : Obligations.InvReadReports := by
  unfold Obligations.InvReadReports
  refine fun tag s hp => ⟨fun n k v h1 h2 hv => ?_, fun n k h1 h2 h => ?_, fun k hk => ?_,
    ⟨s.invoices.summary, s.invoices.summary_perm, s.invoices.summary_sorted, onRequest_ok hp rfl⟩⟩
  · have answer := ownInvRead_eq (k := k) h1 h2 hv
    split_ifs at answer ⊢
    · exact onRequest_refused hp answer
    · exact onRequest_ok hp answer
    · exact onRequest_ok hp answer
  · refine onRequest_refused hp ?_
    rw [ownInvRead, if_neg (Nat.one_le_iff_ne_zero.mp h1), invoiceNamed_notFound h1 h2 h, error_bind]
  · refine onRequest_refused hp ?_
    rw [ownInvRead, if_pos rfl]
    exact bind_of_error _ (require_neg (by simpa using hk) _)

/-! ### Stencil statuses and sample marks -/

section
variable {s : State} {serial grams : Nat}

theorem exec_stencilStatus (hp : s.powered = true) (a : StatusArrival) : exec (.stencilStatus serial a) s =
    .next ((s.taken (.stencilStatus serial a)).takeStatus serial a) :=
  onPower_powered hp fun s => (s.taken (.stencilStatus serial a)).takeStatus serial a

theorem exec_sampleMark (hp : s.powered = true) : exec (.sampleMark serial grams) s =
    .next (takeSampleMark serial grams (s.taken (.sampleMark serial grams))) :=
  onPower_powered hp fun s => takeSampleMark serial grams (s.taken (.sampleMark serial grams))

theorem InvoiceTable.findSerial_eq_none {t : InvoiceTable} (h : ∀ v ∈ t.invoices, ∀ c ∈ v.chests, c.serial ≠ serial) :
    t.findSerial serial = none := by
  simpa [InvoiceTable.findSerial, List.findSome?_eq_none_iff, List.find?_eq_none] using h

theorem takeSampleMark_none (h : s.invoices.findSerial serial = none) : takeSampleMark serial grams s = s := by
  rw [takeSampleMark, h]

/-- A sample mark for a chest of an invoice: taken in OPEN, FULL and WAITING, late in CLOSING and SHEETED (R93). -/
theorem takeSampleMark_found {v : Invoice} {c : Chest} (h : s.invoices.findSerial serial = some (v, c)) :
    takeSampleMark serial grams s =
      if v.record.state = .closing ∨ v.record.state = .sheeted then s.notify (.sampleLate v.record.number c.number serial grams)
      else markSample v.record.number serial grams s := by
  rw [takeSampleMark, h]
  dsimp only
  cases hst : v.record.state <;> simp

/-- A sample mark adds its grams to the allowance of the invoice and flags the chest (R93). -/
theorem markSample_eq (n : Nat) (s : State) : markSample n serial grams s = { s with
    invoices := { s.invoices with
      invoices := s.invoices.invoices.map fun w =>
        { record := if w.record.number == n then
            { w.record with allowance := min 99999 (w.record.allowance + grams) } else w.record
          chests := w.chests.map fun d => if d.serial == serial then { d with sample := true } else d } } } := by
  simp only [markSample, State.updateRecord, State.updateInvoice, InvoiceTable.update, InvoiceTable.updateChest,
    List.map_map, Config.allowanceLimit]
  congr 3
  funext w
  by_cases hw : w.record.number = n <;> simp [hw]

end

/-- Settles O36: each status arrival, and each sample mark by the state of its chest's invoice. -/
theorem statusesAndSampleMarksReachTheChest : Obligations.StatusesAndSampleMarksReachTheChest := by
  unfold Obligations.StatusesAndSampleMarksReachTheChest
  refine fun s serial hp => ⟨fun a st h => ?_, exec_stencilStatus hp .removed, fun grams => ⟨fun h => ?_,
    fun v c hc => ⟨fun hst => ?_, fun hst => ?_⟩⟩⟩
  · have status : statusOf a = some st := by
      cases a <;> simp at h <;> subst h <;> rfl
    rw [exec_stencilStatus hp, State.takeStatus, status]
    rfl
  · rw [exec_sampleMark hp, takeSampleMark_none]
    exact InvoiceTable.findSerial_eq_none h
  · have found : (s.taken (.sampleMark serial grams)).invoices.findSerial serial = some (v, c) := hc
    rw [exec_sampleMark hp, takeSampleMark_found found, if_pos hst]
  · have found : (s.taken (.sampleMark serial grams)).invoices.findSerial serial = some (v, c) := hc
    have early : ¬ (v.record.state = .closing ∨ v.record.state = .sheeted) := by
      rcases hst with e | e | e <;> simp [e]
    rw [exec_sampleMark hp, takeSampleMark_found found, if_neg early, markSample_eq]
    rfl

end Sys2Proof.Machine
end

section
/-! PROOF. INV-AMEND sets every given field together, judges a ceiling given, and closes a FULL invoice by its auto-close flag
(R81, R87, R90). -/

namespace Sys2Proof.Machine

/-! ### Fields given or kept -/

/-- A field of INV-AMEND that carries an optional value (R203). -/
def keepField {α : Type} (o : Option α) (d : α) : KeepField α := ⟨if o.isSome then 1 else 0, o.getD d⟩

theorem keepOr_keepField {α : Type} {o : Option α} {d : α} {valid : α → Bool} (h : ∀ a ∈ o, valid a = true) :
    keepOr (keepField o d) valid = .ok o := by
  cases o with
  | none => rfl
  | some a => simp [keepOr, keepField, h a rfl]

theorem keepFlag_keepField (o : Option Bool) : keepFlag (keepField (o.map flagCode) 0) = .ok o := by
  match o with
  | none => rfl
  | some true => rfl
  | some false => rfl

/-! ### The record and the state behind an amendment -/

section
variable {s : State} {n : Nat} {v : Invoice} {r : InvoiceRecord}

theorem amendTightening_of_tightens {given : Bool} (h : (given && r.tightensNow) = true) :
    amendTightening given r = { r with cls := nextClass r.cls, tightened := true } := by
  obtain ⟨hgiven, hnow⟩ := (Bool.and_eq_true _ _).mp h
  rw [amendTightening, if_pos hgiven, InvoiceRecord.judgeTightening, if_pos hnow]

theorem amendTightening_of_not {given : Bool} (h : ¬ (given && r.tightensNow) = true) : amendTightening given r = r := by
  unfold amendTightening
  split
  · rename_i hgiven
    exact if_neg fun hnow => h (by rw [hgiven, hnow]; rfl)
  · rfl

/-- The record behind an amendment: tightened where it is judged so, CLOSING where the auto-close flag closes it. -/
def amendedRecord (given closes : Bool) (r : InvoiceRecord) : InvoiceRecord :=
  { amendTightening given r with state := if closes then .closing else r.state }

/-- What an amendment sends: GIVEAWAY-HIGH when it tightens, a sheet request when it closes (R81, R87). -/
def amendSends (given closes : Bool) (r : InvoiceRecord) : List Instr :=
  (if given && r.tightensNow then
    [.noticeOffer (.giveawayHigh r.number r.tally r.ceiling (amendTightening given r).cls)] else []) ++
  if closes then [.sheetRequest r.number] else []

/-- The state behind an amendment. -/
def amendedState (given closes : Bool) (r : InvoiceRecord) (s : State) : State :=
  { s with
    transit := s.transit ++ amendSends given closes r
    invoices := s.invoices.update r.number fun k => { k with record := amendedRecord given closes r } }

theorem amendedRecord_kept_open (given : Bool) (r : InvoiceRecord) :
    amendedRecord given false r = amendTightening given r := by
  rw [amendedRecord, amendTightening_frame]
  rfl

theorem amendedRecord_number (given closes : Bool) (r : InvoiceRecord) :
    (amendedRecord given closes r).number = r.number := by
  rw [amendedRecord, amendTightening_frame]

theorem amendedIn_eq (given : Bool) (r : InvoiceRecord) (s : State) :
    amendedIn r.number given r s = amendedState given false r s := by
  have notice : .noticeOffer (.giveawayHigh (amendTightening given r).number (amendTightening given r).tally
      (amendTightening given r).ceiling (amendTightening given r).cls) =
      (.noticeOffer (.giveawayHigh r.number r.tally r.ceiling (amendTightening given r).cls) : Instr) := by
    rw [amendTightening_frame]
  rw [amendedState, amendedRecord_kept_open]
  unfold amendedIn notifyTightening amendSends State.notify
  rw [notice]
  cases given with
  | false => simp [State.updateRecord, State.updateInvoice]
  | true => cases r.tightensNow <;> simp [State.updateRecord, State.updateInvoice, State.send]

theorem beginClosing_amendedState (given : Bool) (r : InvoiceRecord) (s : State) :
    beginClosing r.number (amendedState given false r s) = amendedState given true r s := by
  have closed := s.invoices.update_then_update (n := r.number)
    (f := fun k => { k with record := amendedRecord given false r }) (fun _ => amendedRecord_number given false r)
    (fun k => { k with record := { k.record with state := .closing } })
  simp only [beginClosing, State.setInvoiceState, State.updateInvoice, State.send, amendedState, closed, amendSends,
    List.append_assoc]
  rfl

theorem amendAnswer_eq (accepted : Nat) (given : Bool) (autoClose : Option Bool) (r : InvoiceRecord) (s : State) :
    let closes := autoClose == some true && r.state == .full
    amendAnswer r.number accepted given autoClose r s =
      .ok (amendedState given closes r s, .ok (.invoice (amendedRecord given closes r) accepted)) := by
  intro closes
  have hstate : (amendTightening given r).state = r.state := by rw [amendTightening_frame]
  have reported : { amendTightening given r with state := .closing } = amendedRecord given true r := rfl
  rw [amendAnswer, hstate, amendedIn_eq, beginClosing_amendedState, reported, ← amendedRecord_kept_open]
  cases hcloses : closes with
  | false => exact if_neg (Bool.not_eq_true _ ▸ hcloses)
  | true => exact if_pos hcloses

/-! ### What the amended record says -/

theorem amendedRecord_frame (given closes : Bool) (r : InvoiceRecord) : amendedRecord given closes r =
    { r with
      cls := (amendedRecord given closes r).cls, tightened := (amendedRecord given closes r).tightened
      state := (amendedRecord given closes r).state } := by
  unfold amendedRecord
  rw [amendTightening_frame]

theorem amendedRecord_tightens {given closes : Bool} (h : (given && r.tightensNow) = true) :
    (amendedRecord given closes r).tightened = true ∧ (amendedRecord given closes r).cls.val = min 3 (r.cls.val + 1) := by
  rw [amendedRecord, amendTightening_of_tightens h]
  exact ⟨rfl, nextClass_val _⟩

theorem amendedRecord_keeps_class {given closes : Bool} (h : ¬ (given && r.tightensNow) = true) :
    (amendedRecord given closes r).tightened = r.tightened ∧ (amendedRecord given closes r).cls = r.cls := by
  rw [amendedRecord, amendTightening_of_not h]
  exact ⟨rfl, rfl⟩

theorem amendedRecord_state_closing {given closes : Bool} (h : r.state ≠ .closing) :
    (amendedRecord given closes r).state = .closing ↔ closes = true := by
  cases closes
  · simp [amendedRecord, h]
  · simp [amendedRecord]

/-- GIVEAWAY-HIGH goes out exactly when the amendment sets the latch. -/
theorem amendSends_eq (given closes : Bool) (h : r.state ≠ .closing) :
    let w := amendedRecord given closes r
    amendSends given closes r =
      (if w.tightened = true ∧ r.tightened = false then [.noticeOffer (.giveawayHigh r.number w.tally w.ceiling w.cls)]
        else []) ++ if w.state = .closing then [.sheetRequest r.number] else [] := by
  intro w
  have hcls : w.cls = (amendTightening given r).cls := rfl
  have figures : w.tally = r.tally ∧ w.ceiling = r.ceiling := by
    simp only [w]
    rw [amendedRecord_frame]
    exact ⟨rfl, rfl⟩
  have latch : (w.tightened = true ∧ r.tightened = false) ↔ (given && r.tightensNow) = true := by
    by_cases ht : (given && r.tightensNow) = true
    · obtain ⟨hgiven, hnow⟩ := (Bool.and_eq_true _ _).mp ht
      simp only [ht, iff_true]
      exact ⟨(amendedRecord_tightens ht).1, (InvoiceRecord.tightensNow_iff.mp hnow).1⟩
    · simp only [ht, w, (amendedRecord_keeps_class ht).1]
      simp
  simp only [amendSends, latch, hcls, figures, w, amendedRecord_state_closing h]

/-- A ceiling given tightens exactly as R81 says. -/
theorem ceiling_tightens_iff (ceiling : Option Nat) (r : InvoiceRecord) : (ceiling.isSome && r.tightensNow) = true ↔
    ceiling ≠ none ∧ r.tightened = false ∧ r.ceiling ≠ 0 ∧
      ((r.ceiling : Int) < r.tally ∨ (r.overrun = true ∧ r.tally = 9999)) := by
  rw [Bool.and_eq_true, InvoiceRecord.tightensNow, Bool.and_eq_true, InvoiceRecord.exceedsCeiling_iff,
    Option.isSome_iff_ne_none, Bool.not_eq_true']

/-! ### The request -/

variable {garden grade : Option Text} {ceiling allowance : Option Nat} {autoClose : Option Bool}

/-- INV-AMEND of an invoice, its fields in range: in OPEN and FULL, the mark and grade before the first chest (R90). -/
theorem ownInvAmend_eq (h1 : 1 ≤ n) (h2 : n ≤ 99999) (hgarden : ∀ t ∈ garden, validText 12 t = true)
    (hgrade : ∀ t ∈ grade, validText 6 t = true) (hceiling : ∀ c ∈ ceiling, c ≤ 9999)
    (hallowance : ∀ a ∈ allowance, a ≤ 99999) :
    ownInvAmend n ⟨keepField garden [], keepField grade [], keepField ceiling 0, keepField allowance 0,
        keepField (autoClose.map flagCode) 0⟩ s =
      (invoiceNamed n s >>= fun v => do
        require (v.record.state == .opened || v.record.state == .full) .state
        require (!((garden.isSome || grade.isSome) && v.accepted != 0)) .state
        amendAnswer n v.accepted ceiling.isSome autoClose (v.record.amend garden grade ceiling allowance autoClose) s) := by
  have valid : validInvoice n = true := within_eq_true.mpr ⟨h1, h2⟩
  have ceilings : ∀ c ∈ ceiling, within 0 9999 c = true := fun c hc =>
    within_eq_true.mpr ⟨Nat.zero_le _, hceiling c hc⟩
  have allowances : ∀ a ∈ allowance, within 0 Config.allowanceLimit a = true := fun a ha =>
    within_eq_true.mpr ⟨Nat.zero_le _, hallowance a ha⟩
  rw [ownInvAmend, require_bind, if_pos valid, keepOr_keepField hgarden, ok_bind, keepOr_keepField hgrade, ok_bind,
    keepOr_keepField ceilings, ok_bind, keepOr_keepField allowances, ok_bind, keepFlag_keepField, ok_bind]
  rfl

end

/-- The mark and grade are given before the first chest, or not at all (R90). -/
theorem markAndGrade_iff (garden grade : Option Text) (v : Invoice) :
    (!((garden.isSome || grade.isSome) && v.accepted != 0)) = true ↔
      (garden = none ∧ grade = none) ∨ v.chests = [] := by
  cases garden <;> cases grade <;> simp [Invoice.accepted]

/-- Settles O34: the amended record in full, tightened as the ceiling given is judged. -/
theorem invAmendSetsTheGivenFields : Obligations.InvAmendSetsTheGivenFields := by
  unfold Obligations.InvAmendSetsTheGivenFields
  intro tag s n garden grade ceiling allowance autoClose hp h1 h2 hgarden hgrade hceiling hallowance keep f
  have answer : ownInvAmend n f s = _ :=
    ownInvAmend_eq (autoClose := autoClose) h1 h2 hgarden hgrade hceiling hallowance
  refine ⟨fun h => ?_, fun v hv => ?_⟩
  · exact onRequest_refused hp (answer.trans (bind_of_error _ (invoiceNamed_notFound h1 h2 h)))
  rw [invoiceNamed_found h1 h2 hv, ok_bind, require_bind, require_bind] at answer
  simp only [Bool.or_eq_true, beq_iff_eq, markAndGrade_iff] at answer
  refine ⟨fun h => ?_, fun hst hfirst => ?_⟩
  · refine onRequest_refused hp (answer.trans ?_)
    split_ifs with hst hfirst
    · rcases h with ⟨hopened, hfull⟩ | ⟨hgiven, hchests⟩
      · exact absurd hst (not_or.mpr ⟨hopened, hfull⟩)
      · exact absurd hfirst (by tauto)
    · rfl
    · rfl
  · obtain rfl := InvoiceTable.number_of_find hv
    intro set tightens
    have open_or_full : set.state ≠ .closing := by
      rcases hst with e | e <;> simp [set, e]
    have judged : (ceiling.isSome && set.tightensNow) = true ↔ tightens := ceiling_tightens_iff ceiling set
    have taken := (answer.trans ((if_pos hst).trans (if_pos hfirst))).trans
      (amendAnswer_eq v.accepted ceiling.isSome autoClose set s)
    have closing : (amendedRecord ceiling.isSome (autoClose == some true && set.state == .full) set).state = .closing ↔
        autoClose = some true ∧ v.record.state = .full := by
      rw [amendedRecord_state_closing open_or_full]
      simp [set]
    have sent := amendSends_eq ceiling.isSome (autoClose == some true && set.state == .full) open_or_full
    refine ⟨_, _, onRequest_ok hp taken, ⟨_, (InvoiceTable.find_update_found hv
      (fun _ => amendedRecord_number _ _ set) _).trans (if_pos rfl), rfl, rfl⟩, rfl, amendedRecord_frame _ _ set,
      fun h => ?_, fun h => amendedRecord_keeps_class (mt judged.mp h), fun hfull hclose => ?_, fun h => ?_, ?_, rfl⟩
    · obtain ⟨hlatch, hcls⟩ := amendedRecord_tightens (closes := autoClose == some true && set.state == .full)
        (judged.mpr h)
      obtain ⟨-, clear, -⟩ := h
      refine ⟨hlatch, hcls, List.mem_append_right _ (sent ▸ List.mem_append_left _ ?_)⟩
      rw [if_pos ⟨hlatch, clear⟩]
      exact List.mem_singleton_self _
    · have closes := closing.mpr ⟨hclose, hfull⟩
      refine ⟨closes, List.mem_append_right _ (sent ▸ List.mem_append_right _ ?_)⟩
      rw [if_pos closes]
      exact List.mem_singleton_self _
    · refine if_neg ?_
      rcases h with e | e <;> simp [set, e]
    · exact (congrArg (s.transit ++ ·) sent).trans (List.append_assoc _ _ _).symm

end Sys2Proof.Machine
end

section
/-! PROOF. Stencil jobs join their queue and start on an IDLE channel (R92, R94, R123 to R125, R127, R129, R130, R142). -/

namespace Sys2Proof.Machine

/-! ### Job requests -/

section
variable {tag : Byte} {s : State} {i : Fin 2} {template : Fin 8} {serial n k : Nat} {v : Invoice} {c : Chest}

/-- The statuses in transit are taken without a change of what a snapshot reads (R91; log 4). -/
theorem takeStatuses_snapshot (s : State) (serial : Nat) :
    (s.takeStatuses.invoices.findSerial serial).map (fun p => snapshotOf p.2) =
      (s.invoices.findSerial serial).map fun p => (⟨p.2.number, p.2.gross, p.2.net⟩ : Snapshot) := by
  obtain ⟨g, hg, e⟩ := State.takeStatuses_onlyStatus s
  rw [e]
  dsimp only
  rw [InvoiceTable.findSerial_onlyStatus _ g hg, Option.map_map]
  refine congrArg (fun f => Option.map f _) (funext fun p => ?_)
  simp only [Function.comp_apply, snapshotOf]
  rw [hg p.2]

/-- The state in which a job has joined, before an IDLE channel takes the front one (R123; log 4). -/
def jobJoined (i : Fin 2) (j : Job) (s : State) : State :=
  (s.takeStatuses.setStatus j.serial .pending).setHead i
    { s.stencils.heads[i] with queue := s.stencils.heads[i].queue ++ [j] }

theorem joinQueue_eq (i : Fin 2) (j : Job) (s : State) :
    joinQueue i j (s.takeStatuses.setStatus j.serial .pending) = takeNext i (jobJoined i j s) := by
  have heads : (s.takeStatuses.setStatus j.serial .pending).stencils = s.stencils := by simp
  rw [joinQueue, heads]
  rfl

theorem exec_stencilJobRequest (hp : s.powered = true) : exec (.stencilJobRequest i template serial n) s =
    .next (takeJobRequest i template serial n (s.taken (.stencilJobRequest i template serial n))) :=
  onPower_powered hp fun s => takeJobRequest i template serial n (s.taken (.stencilJobRequest i template serial n))

theorem exec_jobRemoval (hp : s.powered = true) : exec (.jobRemoval serial) s =
    .next { s.taken (.jobRemoval serial) with
      stencils := { s.stencils with heads := s.stencils.heads.map fun h => h.removeJob serial } } :=
  onPower_powered hp fun s => { s.taken (.jobRemoval serial) with
    stencils := { s.stencils with heads := s.stencils.heads.map fun h => h.removeJob serial } }

theorem takeJobRequest_duplicate (h : s.stencils.hasJob serial = true) :
    takeJobRequest i template serial n s = missJob i template serial n .duplicate s := if_pos h

theorem takeJobRequest_full (h : s.stencils.hasJob serial = false) (hfull : 8 ≤ s.stencils.heads[i].queue.length) :
    takeJobRequest i template serial n s = missJob i template serial n .full s := by
  rw [takeJobRequest, if_neg (Bool.not_eq_true _ ▸ h)]
  exact if_pos hfull

theorem takeJobRequest_joins (h : s.stencils.hasJob serial = false) (hroom : s.stencils.heads[i].queue.length < 8) :
    takeJobRequest i template serial n s = takeNext i (jobJoined i ⟨serial, n, template,
      (s.invoices.findSerial serial).map fun p => ⟨p.2.number, p.2.gross, p.2.net⟩, .action⟩ s) := by
  rw [takeJobRequest, if_neg (Bool.not_eq_true _ ▸ h), if_neg (show ¬ Config.headQueueSize ≤ _ from Nat.not_le.mpr hroom),
    ← joinQueue_eq, ← takeStatuses_snapshot]

/-! ### STENCIL-REQUEST -/

theorem ownStencilRequest_out_of_range (hk : k = 0 ∨ 120 < k) : ownStencilRequest i template n k s = .error .range := by
  have outside : within 1 120 k = false := within_eq_false (by omega)
  rw [ownStencilRequest, index_fin, ok_bind, index_fin, ok_bind]
  exact bind_of_error _ (require_neg (by simp [outside]) _)

/-- STENCIL-REQUEST of a chest number in range goes on with the invoice named (R125). -/
theorem ownStencilRequest_in_range (h1 : 1 ≤ k) (h2 : k ≤ 120) : ownStencilRequest i template n k s =
    (invoiceNamed n s >>= fun v => orRefuse (v.chest k) .notFound >>= fun c =>
      if s.stencils.hasJob c.serial = true then .error .conflict
      else if 8 ≤ s.stencils.heads[i].queue.length then .error .full
      else .ok (takeNext i (jobJoined i ⟨c.serial, n, template, some ⟨c.number, c.gross, c.net⟩, .request⟩ s),
        .ok (.stencilQueued i c.serial (s.stencils.heads[i].queue.length + 1)))) := by
  rw [ownStencilRequest, index_fin, ok_bind, index_fin, ok_bind, require_bind,
    if_pos (within_eq_true.mpr ⟨h1, h2⟩)]
  refine congrArg (invoiceNamed n s >>= ·) (funext fun v => congrArg (orRefuse _ _ >>= ·) (funext fun c => ?_))
  have room : decide (s.stencils.heads[i].queue.length + 1 ≤ Config.headQueueSize) = true ↔
      ¬ 8 ≤ s.stencils.heads[i].queue.length := by
    rw [decide_eq_true_eq, Config.headQueueSize]
    omega
  simp only [require_bind, Bool.not_eq_true', ← Bool.not_eq_true, ite_not, room, ← joinQueue_eq]
  rfl

theorem ownStencilRequest_notFound (h1 : 1 ≤ n) (h2 : n ≤ 99999) (hk1 : 1 ≤ k) (hk2 : k ≤ 120)
    (h : ∀ v, s.invoices.find n = some v → v.chests.length < k) :
    ownStencilRequest i template n k s = .error .notFound := by
  rw [ownStencilRequest_in_range hk1 hk2]
  cases hv : s.invoices.find n with
  | none => exact bind_of_error _ (invoiceNamed_notFound h1 h2 hv)
  | some v =>
    have missing : v.chest k = none := by
      rw [Invoice.chest, if_neg (by omega), List.getElem?_eq_none]
      have := h v hv
      omega
    rw [invoiceNamed_found h1 h2 hv, ok_bind, missing]
    rfl

theorem ownStencilRequest_found (h1 : 1 ≤ n) (h2 : n ≤ 99999) (hk : k < 120) (hv : s.invoices.find n = some v)
    (hc : v.chests[k]? = some c) : ownStencilRequest i template n (k + 1) s =
      if s.stencils.hasJob c.serial = true then .error .conflict
      else if 8 ≤ s.stencils.heads[i].queue.length then .error .full
      else .ok (takeNext i (jobJoined i ⟨c.serial, n, template, some ⟨c.number, c.gross, c.net⟩, .request⟩ s),
        .ok (.stencilQueued i c.serial (s.stencils.heads[i].queue.length + 1))) := by
  have found : v.chest (k + 1) = some c := hc
  rw [ownStencilRequest_in_range (Nat.succ_pos k) hk, invoiceNamed_found h1 h2 hv, ok_bind, found]
  rfl

end

/-! ### The channel -/

section
variable {s : State} {i : Fin 2} {j : Job} {rest : List Job} {v : Invoice} {c : Snapshot}

theorem takeNext_idle (h : s.stencils.heads[i].state = .idle) : takeNext i s = takeJobs i s.stencils.heads[i].queue s :=
  if_pos (beq_iff_eq.mpr h)

theorem takeNext_busy (h : s.stencils.heads[i].state ≠ .idle) : takeNext i s = s :=
  if_neg (mt beq_iff_eq.mp h)

/-- With no job queued an IDLE channel stays as it is. -/
theorem takeNext_idle_empty (h : s.stencils.heads[i].state = .idle) (hq : s.stencils.heads[i].queue = []) :
    takeNext i s = s := by
  have same : ({ s.stencils.heads[i] with queue := [] } : Head) = s.stencils.heads[i] := by rw [← hq]
  rw [takeNext_idle h, hq, takeJobs, same, State.setHead, vector_set_same]

theorem takeJobs_empty_template (h : s.stencils.templates[j.template] = []) : takeJobs i (j :: rest) s =
    takeJobs i rest ((s.send (.stencilStatus j.serial .skipped)).notify
      (.stencilDropped i j.serial j.invoice .empty)) := by
  rw [takeJobs, h]
  rfl

theorem takeJobs_no_snapshot (h : s.stencils.templates[j.template] ≠ []) (hc : j.snapshot = none) :
    takeJobs i (j :: rest) s = takeJobs i rest (s.notify (.stencilDropped i j.serial j.invoice .gone)) := by
  have some_line : ¬ s.stencils.templates[j.template].isEmpty = true := by simpa using h
  simp only [takeJobs, if_neg some_line, hc]
  rfl

theorem takeJobs_gone (h : s.stencils.templates[j.template] ≠ []) (hc : j.snapshot ≠ none)
    (hgone : jobInvoice j s.takeStatuses = none) :
    takeJobs i (j :: rest) s =
      takeJobs i rest (s.takeStatuses.notify (.stencilDropped i j.serial j.invoice .gone)) := by
  have some_line : ¬ s.stencils.templates[j.template].isEmpty = true := by simpa using h
  obtain ⟨c, hc⟩ := Option.ne_none_iff_exists'.mp hc
  simp only [takeJobs, if_neg some_line, hc, hgone]
  rfl

theorem takeJobs_starts {h : JobInHand} (ht : s.stencils.templates[j.template] ≠ []) (hc : j.snapshot = some c)
    (hv : jobInvoice j s.takeStatuses = some v)
    (hjob : newJobInHand j c s.stencils.templates[j.template] (startAtTable j s.takeStatuses) = some h) :
    takeJobs i (j :: rest) s = (startAtTable j s.takeStatuses).setHead i
      (({ s.stencils.heads[i] with queue := rest } : Head).stream h) := by
  have some_line : ¬ s.stencils.templates[j.template].isEmpty = true := by simpa using ht
  have heads : (startAtTable j s.takeStatuses).stencils = s.stencils := by simp
  simp only [takeJobs, if_neg some_line, hc, hv, hjob, heads]

/-- The invoice of a number behind the statuses in transit: its chests differ in their statuses alone. -/
theorem takeStatuses_find (s : State) (n : Nat) : ∃ g, OnlyStatus g ∧
    s.takeStatuses.invoices.find n = (s.invoices.find n).map fun v => { v with chests := v.chests.map g } := by
  obtain ⟨g, hg, e⟩ := State.takeStatuses_onlyStatus s
  refine ⟨g, hg, ?_⟩
  rw [e]
  exact InvoiceTable.find_onlyStatus s.invoices g n

theorem OnlyStatus.serial {g : Chest → Chest} (hg : OnlyStatus g) (c : Chest) : (g c).serial = c.serial := by rw [hg c]

/-- The chest is gone when its invoice is, or no longer lists it (R92). -/
theorem jobInvoice_takeStatuses_none
    (h : ∀ v, s.invoices.find j.invoice = some v → ∀ c ∈ v.chests, c.serial ≠ j.serial) :
    jobInvoice j s.takeStatuses = none := by
  obtain ⟨g, hg, e⟩ := takeStatuses_find s j.invoice
  rw [jobInvoice, e]
  cases hv : s.invoices.find j.invoice with
  | none => rfl
  | some v => simpa [hg.serial] using h v hv

theorem jobInvoice_takeStatuses_some (hv : s.invoices.find j.invoice = some v) (h : ∃ d ∈ v.chests, d.serial = j.serial) :
    ∃ w, jobInvoice j s.takeStatuses = some w := by
  obtain ⟨g, hg, e⟩ := takeStatuses_find s j.invoice
  rw [jobInvoice, e, hv]
  simpa [hg.serial] using h

/-- The lot of an invoice behind a lot enquiry (R94). -/
def LotBinding.resolved (b : LotBinding) (t : Store) (n : Nat) : LotBinding := if b = .unresolved then t.binding n else b

theorem lotEnquiry_eq (n : Nat) (s : State) : lotEnquiry n s =
    s.updateRecord n fun r => if r.lot = .unresolved then { r with lot := s.store.binding n } else r := by
  simp only [lotEnquiry, beq_iff_eq]

/-- The record of a started job's invoice: its lot resolved when it was UNRESOLVED (R92, R94). -/
theorem startAtTable_find (hv : s.invoices.find j.invoice = some v) :
    ∃ w, (startAtTable j s).invoices.find j.invoice = some w ∧
      w.record = { v.record with lot := v.record.lot.resolved s.store j.invoice } := by
  obtain ⟨g, -, e⟩ := State.setStatus_onlyStatus (lotEnquiry j.invoice s) j.serial .marking
  have enquired : (lotEnquiry j.invoice s).invoices.find j.invoice =
      some { v with record := { v.record with lot := v.record.lot.resolved s.store j.invoice } } := by
    rw [lotEnquiry_eq]
    refine (InvoiceTable.find_update (fun w => ?_) j.invoice).trans ?_
    · dsimp only
      split <;> rfl
    · rw [if_pos rfl, hv, Option.map_some]
      unfold LotBinding.resolved
      by_cases hlot : v.record.lot = .unresolved <;> simp [hlot]
  refine ⟨⟨{ v.record with lot := v.record.lot.resolved s.store j.invoice }, v.chests.map g⟩, ?_, rfl⟩
  rw [startAtTable, e]
  exact (InvoiceTable.find_onlyStatus _ g j.invoice).trans (congrArg _ enquired)

/-- A channel that streams line 0 of a job with lines, or ends it at once when it has no character (R130). -/
theorem Head.stream_new (h : Head) (j : Job) {lines : List Text} (hlines : lines ≠ []) :
    h.stream ⟨j, lines, 0, 0⟩ = { h with
      inHand := some ⟨j, lines, 0, 0⟩, resume := .none
      state := if lines.head? = some [] then .lineWait else .streaming
      ackTimer := if lines.head? = some [] then some 0 else none
      out := if lines.head? = some [] then [.endOfLine] else h.out } := by
  cases lines with
  | nil => exact absurd rfl hlines
  | cons line rest =>
    have remaining : (⟨j, line :: rest, 0, 0⟩ : JobInHand).remaining = line.length := by
      simp [JobInHand.remaining, JobInHand.text]
    rw [Head.stream, remaining]
    cases line with
    | nil => rfl
    | cons a l => rfl

/-- The job that an IDLE channel starts: the table told, its lines composed, line 0 streamed (R92, R129, R130). -/
theorem takeJobs_started (ht : s.stencils.templates[j.template] ≠ []) (hc : j.snapshot = some c)
    (hv : s.invoices.find j.invoice = some v) (h : ∃ d ∈ v.chests, d.serial = j.serial) :
    let lot := v.record.lot.resolved s.store j.invoice
    let lines := s.stencils.templates[j.template].map (composeLine { v.record with lot := lot } c)
    takeJobs i (j :: rest) s = (startAtTable j s.takeStatuses).setHead i { s.stencils.heads[i] with
      queue := rest, inHand := some ⟨j, lines, 0, 0⟩, resume := .none
      state := if lines.head? = some [] then .lineWait else .streaming
      ackTimer := if lines.head? = some [] then some 0 else none
      out := if lines.head? = some [] then [.endOfLine] else s.stencils.heads[i].out } := by
  intro lot lines
  obtain ⟨w, hw⟩ := jobInvoice_takeStatuses_some hv h
  obtain ⟨g, -, e⟩ := takeStatuses_find s j.invoice
  rw [hv, Option.map_some] at e
  obtain ⟨x, hx, record⟩ := startAtTable_find e
  have store : s.takeStatuses.store = s.store := by simp
  have job : newJobInHand j c s.stencils.templates[j.template] (startAtTable j s.takeStatuses) =
      some ⟨j, lines, 0, 0⟩ := by
    rw [newJobInHand, hx, Option.map_some, record, store]
    rfl
  rw [takeJobs_starts ht hc hw job, Head.stream_new]
  simpa [lines] using ht

end

/-- Settles O40: the requests by their checks, and the channel by the front job of its queue. -/
theorem jobsJoinAndStart : Obligations.JobsJoinAndStart := by
  unfold Obligations.JobsJoinAndStart
  refine ⟨fun tag s i template n hp h1 h2 => ⟨fun serial => ⟨fun h => ?_, fun h hfull => ?_, fun h hroom => ?_,
      exec_jobRemoval hp⟩, fun k hk => onRequest_refused hp (ownStencilRequest_out_of_range hk),
      fun k hk1 hk2 h => onRequest_refused hp (ownStencilRequest_notFound h1 h2 hk1 hk2 h), fun k v c hk hv hc => ?_⟩,
    fun s i => ⟨takeNext_busy, takeNext_idle_empty, fun j rest hidle hqueue => ⟨?_, fun _ => rfl,
      takeJobs_empty_template, takeJobs_no_snapshot, fun ht hc h => takeJobs_gone ht hc (jobInvoice_takeStatuses_none h),
      fun c v ht hc hv h => ⟨v.record.lot.resolved s.store j.invoice, fun hlot => if_neg hlot, fun hlot => ?_, ?_⟩⟩⟩⟩
  · exact (exec_stencilJobRequest hp).trans (congrArg _ (takeJobRequest_duplicate h))
  · exact (exec_stencilJobRequest hp).trans (congrArg _ (takeJobRequest_full h hfull))
  · exact (exec_stencilJobRequest hp).trans (congrArg _ (takeJobRequest_joins h hroom))
  · have answer := ownStencilRequest_found (i := i) (template := template) h1 h2 hk hv hc
    refine ⟨fun h => onRequest_refused hp (answer.trans (if_pos h)), fun h hfull => ?_, fun h hroom => ?_⟩
    · exact onRequest_refused hp (answer.trans ((if_neg (by simp [h])).trans (if_pos hfull)))
    · exact onRequest_ok hp (answer.trans ((if_neg (by simp [h])).trans (if_neg (Nat.not_le.mpr hroom))))
  · rw [takeNext_idle hidle, hqueue]
  · exact (if_pos hlot).trans rfl
  · rw [takeJobs_started ht hc hv h, startAtTable, lotEnquiry_eq]
    simp

end Sys2Proof.Machine
end

section
/-! SUPPORT. Numbers in bytes, fields of a body, the check register and the frame the receiver assembles: what the bytes
that the part sends are read back as. -/

namespace Sys2Proof.Machine

/-! ### Numbers in bytes (R201) -/

@[simp] theorem length_natBytes (k n : Nat) : (natBytes k n).length = k := by
  induction k generalizing n with
  | zero => rfl
  | succ k ih => simp [natBytes, ih]

@[simp] theorem length_intBytes (k : Nat) (z : Int) : (intBytes k z).length = k := length_natBytes k _

theorem leNat_natBytes {k n : Nat} (h : n < 256 ^ k) : leNat (natBytes k n) = n := by
  induction k generalizing n with
  | zero => simp_all [natBytes, leNat]
  | succ k ih =>
    have hrest : n / 256 < 256 ^ k := Nat.div_lt_of_lt_mul (by rwa [Nat.pow_succ, Nat.mul_comm] at h)
    have hbyte : (BitVec.ofNat 8 n).toNat = n % 256 := rfl
    rw [natBytes, leNat, ih hrest, hbyte]
    omega

theorem leInt_intBytes {k : Nat} {z : Int} (hlow : -(256 ^ k : Int) ≤ 2 * z) (hhigh : 2 * z < (256 ^ k : Int)) :
    leInt (intBytes k z) = z := by
  have hbound : (256 ^ k : Int) = ((256 ^ k : Nat) : Int) := by push_cast; rfl
  have hpositive : 0 < 256 ^ k := by positivity
  generalize hm : 256 ^ k = m at hbound hpositive
  have hmodLow := Int.emod_nonneg z (b := (m : Int)) (by omega)
  have hmodHigh := Int.emod_lt_of_pos z (b := (m : Int)) (by omega)
  have hcode : leNat (intBytes k z) = (z % (m : Int)).toNat := by
    rw [intBytes, leNat_natBytes (by rw [hbound, hm]; omega), hbound]
  rw [leInt, length_intBytes, hcode, hm, hbound]
  rw [hbound] at hlow hhigh
  obtain hneg | hpos := lt_or_ge z 0
  · have hmod : z % (m : Int) = z + m := by
      rw [← Int.add_emod_right, Int.emod_eq_of_lt (by omega) (by omega)]
    rw [hmod, if_pos (by omega)]
    omega
  · rw [Int.emod_eq_of_lt hpos (by omega), if_neg (by omega)]
    omega

/-! ### Fields of a body -/

@[simp] theorem field_append_left {off len : Nat} {x : List Byte} (y : List Byte) (h : off + len ≤ x.length) :
    field off len (x ++ y) = field off len x := by
  rw [field, field, List.drop_append_of_le_length (by omega), List.take_append_of_le_length (by rw [List.length_drop]; omega)]

@[simp] theorem field_append_right {off len : Nat} {x : List Byte} (y : List Byte) (h : x.length ≤ off) :
    field off len (x ++ y) = field (off - x.length) len y := by
  rw [field, field, List.drop_append, List.drop_of_length_le h, List.nil_append]

@[simp] theorem field_whole {len : Nat} {x : List Byte} (h : x.length = len) : field 0 len x = x := by
  rw [field, List.drop_zero, ← h, List.take_length]

theorem natAt_of_field {off k n : Nat} {b : List Byte} (hfield : field off k b = natBytes k n) (hn : n < 256 ^ k) :
    natAt off k b = n := by
  rw [natAt, hfield, leNat_natBytes hn]

theorem intAt_of_field {off k : Nat} {z : Int} {b : List Byte} (hfield : field off k b = intBytes k z)
    (hlow : -(256 ^ k : Int) ≤ 2 * z) (hhigh : 2 * z < (256 ^ k : Int)) : intAt off k b = z := by
  rw [intAt, hfield, leInt_intBytes hlow hhigh]

theorem field_middle {off len : Nat} {front x : List Byte} (back : List Byte) (hoff : front.length = off)
    (hlen : x.length = len) : field off len (front ++ x ++ back) = x := by
  rw [field_append_left _ (by simp [hoff, hlen]), field_append_right _ hoff.le, hoff, Nat.sub_self, field_whole hlen]

theorem length_flatMap_of_width {α : Type} {enc : α → List Byte} {w : Nat} (hw : ∀ x, (enc x).length = w) (l : List α) :
    (l.flatMap enc).length = w * l.length := by
  simp [List.length_flatMap, hw, Nat.mul_comm]

/-- A field of entry `j` in a row of entries of one width, between other bytes. -/
theorem field_of_entry {α : Type} {enc : α → List Byte} {w j off len place : Nat} {l : List α} {e : α} {front : List Byte}
    (back : List Byte) (hw : ∀ x, (enc x).length = w) (he : l[j]? = some e) (hin : off + len ≤ w)
    (hplace : place = front.length + w * j + off) :
    field place len (front ++ l.flatMap enc ++ back) = field off len (enc e) := by
  obtain ⟨hj, hget⟩ := List.getElem?_eq_some_iff.mp he
  have hsplit : l.flatMap enc = (l.take j).flatMap enc ++ enc e ++ (l.drop (j + 1)).flatMap enc := by
    conv_lhs => rw [← List.take_append_drop j l, List.drop_eq_getElem_cons hj, hget]
    simp
  have hbefore : ((l.take j).flatMap enc).length = w * j := by
    rw [length_flatMap_of_width hw, List.length_take, Nat.min_eq_left hj.le]
  rw [List.append_assoc, field_append_right _ (by omega), hsplit, List.append_assoc, List.append_assoc,
    field_append_right _ (by omega), field_append_left _ (by rw [hw]; exact (by omega))]
  congr 1
  omega

/-! ### The check of a frame (R202) -/

theorem crcByte_eq (r : BitVec 16) (b : Byte) :
    crcByte r b = crcShift (crcShift (crcShift (crcShift (crcShift (crcShift (crcShift (crcShift
      (r ^^^ BitVec.ofNat 16 (b.toNat * 256))))))))) := by
  have hhigh : b.zeroExtend 16 <<< 8 = BitVec.ofNat 16 (b.toNat * 256) := by
    apply BitVec.eq_of_toNat_eq
    have := b.isLt
    simp [Nat.shiftLeft_eq]
  rw [crcByte, hhigh]
  rfl

theorem crcShift_eq (r : BitVec 16) :
    crcShift r = if r.getLsbD 15 = true then (r <<< 1) ^^^ 0x1021 else r <<< 1 := by
  rw [crcShift, BitVec.msb_eq_getLsbD_last]

theorem crc16_append_singleton (bytes : List Byte) (b : Byte) : crc16 (bytes ++ [b]) = crcByte (crc16 bytes) b := by
  simp [crc16]

theorem crcBytes_eq (bytes : List Byte) :
    crcBytes bytes = [BitVec.ofNat 8 (crc16 bytes).toNat, BitVec.ofNat 8 ((crc16 bytes).toNat / 256)] := by
  have hlow (r : BitVec 16) : r.extractLsb' 0 8 = BitVec.ofNat 8 r.toNat := by
    apply BitVec.eq_of_toNat_eq
    simp
  have hhigh (r : BitVec 16) : r.extractLsb' 8 8 = BitVec.ofNat 8 (r.toNat / 256) := by
    apply BitVec.eq_of_toNat_eq
    simp [Nat.shiftRight_eq_div_pow]
  rw [crcBytes, hlow, hhigh]

@[simp] theorem length_crcBytes (bytes : List Byte) : (crcBytes bytes).length = 2 := rfl

/-! ### Frames assembled from their bytes (R172, R173) -/

theorem frameBytes_eq (tag kind : Byte) (body : List Byte) :
    frameBytes tag kind body = startByte :: (BitVec.ofNat 8 (body.length + 2) :: (tag :: kind :: body ++
      crcBytes (BitVec.ofNat 8 (body.length + 2) :: tag :: kind :: body))) := rfl

theorem lengthByte_toNat {body : List Byte} (h : body.length ≤ 248) :
    (BitVec.ofNat 8 (body.length + 2)).toNat = body.length + 2 := by
  rw [BitVec.toNat_ofNat, Nat.mod_eq_of_lt (by omega)]

theorem assembly_bad_length {length : Byte} (rest : List Byte) (h : length.toNat < 2 ∨ 250 < length.toNat) :
    assembly (length :: rest) = .bad := by
  simp only [assembly, if_pos h]

theorem assembly_short {length : Byte} {rest : List Byte} (hlow : 2 ≤ length.toNat) (hhigh : length.toNat ≤ 250)
    (hshort : rest.length < length.toNat + 2) : assembly (length :: rest) = .more := by
  simp only [assembly]
  rw [if_neg (by omega), if_pos hshort]

/-- Once the bytes are all there, the check alone decides. -/
theorem assembly_full {tag kind : Byte} {body check : List Byte} (hbody : body.length ≤ 248) (hcheck : check.length = 2) :
    assembly (BitVec.ofNat 8 (body.length + 2) :: tag :: kind :: body ++ check) =
      if check = crcBytes (BitVec.ofNat 8 (body.length + 2) :: tag :: kind :: body) then .arrived ⟨tag, kind, body⟩
      else .bad := by
  have hlength := lengthByte_toNat hbody
  have htake : (tag :: kind :: (body ++ check)).take (body.length + 2) = tag :: kind :: body := by simp
  have hdrop : (tag :: kind :: (body ++ check)).drop (body.length + 2) = check := by simp
  simp only [List.cons_append, assembly, hlength]
  rw [if_neg (by omega), if_neg (by simp [hcheck]), htake, hdrop]
  split_ifs with h <;> simp [h]

/-! ### The kinds of requests (R176) -/

theorem requestAt_isSome_iff (tag : Byte) (kind : Nat) (b : List Byte) :
    (requestAt tag kind b).isSome = true ↔ 1 ≤ kind ∧ kind ≤ 0x37 := by
  constructor
  · intro h
    unfold requestAt at h
    split at h <;> simp_all
  · rintro ⟨hlow, hhigh⟩
    interval_cases kind <;> rfl

theorem decodeRequest_unknown_iff (f : Frame) :
    decodeRequest f = .error .unknown ↔ f.kind.toNat = 0 ∨ 0x37 < f.kind.toNat := by
  have hkind := requestAt_isSome_iff f.tag f.kind.toNat f.body
  rw [decodeRequest]
  cases h : requestAt f.tag f.kind.toNat f.body with
  | none =>
    have houtside := mt hkind.mpr (by simp [h])
    exact iff_of_true rfl (by omega)
  | some c =>
    have hinside := hkind.mp (by rw [h]; rfl)
    exact iff_of_false (by dsimp only; split_ifs <;> simp) (by omega)

theorem decodeRequest_length_iff (f : Frame) :
    decodeRequest f = .error .length ↔
      1 ≤ f.kind.toNat ∧ f.kind.toNat ≤ 0x37 ∧ bodyLengthFits f.kind.toNat f.body.length = false := by
  have hkind := requestAt_isSome_iff f.tag f.kind.toNat f.body
  rw [decodeRequest]
  cases h : requestAt f.tag f.kind.toNat f.body with
  | none =>
    have houtside := mt hkind.mpr (by simp [h])
    exact iff_of_false (by simp) (by omega)
  | some c => simp [hkind.mp (by rw [h]; rfl)]

/-! ### Text (spec/00 3.6) -/

theorem allowedChar_iff (c : Byte) :
    allowedChar c = true ↔ c.toNat ∈ "ABCDEFGHIJKLMNOPQRSTUVWXYZ0123456789 -/.&".toList.map Char.toNat := by
  have hcodes : "ABCDEFGHIJKLMNOPQRSTUVWXYZ0123456789 -/.&".toList.map Char.toNat =
      List.range' 65 26 ++ List.range' 48 10 ++ [32, 45, 47, 46, 38] := by decide
  rw [hcodes]
  simp [allowedChar]
  omega

theorem validText_iff (width : Nat) (t : Text) :
    validText width t = true ↔ t.length = width ∧ ∀ c ∈ t, allowedChar c = true := by
  simp [validText]

/-! ### Bodies the part sends (R203, R205) -/

theorem getD_le {o : Option Nat} {m : Nat} (h : ∀ n ∈ o, n ≤ m) : o.getD 0 ≤ m := by
  cases o with
  | none => exact Nat.zero_le m
  | some n => exact h n rfl

theorem getD_within {o : Option Int} (h : ∀ z ∈ o, -2147483648 ≤ z ∧ z < 2147483648) :
    -2147483648 ≤ o.getD 0 ∧ o.getD 0 < 2147483648 := by
  cases o with
  | none => decide
  | some z => exact h z rfl

theorem slotNumber_lt (slot : Option (Fin 4)) : (slot.map Fin.val).getD 255 < 256 := by
  cases slot with
  | none => decide
  | some i => exact lt_trans i.isLt (by decide)

theorem chestDecided_fields {i : Fin 4} {inv : Option Nat} {o : DecisionOutcome} {gross : Int} {net : Option Int}
    {chest serial : Option Nat} (hinv : ∀ n ∈ inv, n ≤ 99999) (hlow : -2147483648 ≤ gross) (hhigh : gross < 2147483648)
    (hnet : ∀ n ∈ net, -2147483648 ≤ n ∧ n < 2147483648) (hchest : ∀ n ∈ chest, n ≤ 120)
    (hserial : ∀ n ∈ serial, n ≤ 65535) :
    let b := noticeBody (.chestDecided i inv o gross net chest serial)
    b.length = 16 ∧ natAt 0 1 b = i ∧ natAt 1 3 b = inv.getD 0 ∧ natAt 4 1 b = o.ctorIdx ∧ intAt 5 4 b = gross ∧
      intAt 9 4 b = net.getD 0 ∧ natAt 13 1 b = chest.getD 0 ∧ natAt 14 2 b = serial.getD 0 := by
  have hinv := getD_le hinv
  have hnet := getD_within hnet
  have hchest := getD_le hchest
  have hserial := getD_le hserial
  have houtcome : o.ctorIdx < 9 := by cases o <;> decide
  simp only [noticeBody, optBytes, optWeight]
  refine ⟨by simp, natAt_of_field (by simp) ?_, natAt_of_field (by simp) ?_, natAt_of_field (by simp) ?_,
    intAt_of_field (by simp) ?_ ?_, intAt_of_field (by simp) ?_ ?_, natAt_of_field (by simp) ?_,
    natAt_of_field (by simp) ?_⟩ <;> omega

theorem dateBytes_fields {d : Date} (hday : d.day < 256) (hmonth : d.month < 256) (hlow : 2000 ≤ d.year)
    (hhigh : d.year ≤ 2255) :
    let b := dateBytes (some d)
    b.length = 3 ∧ natAt 0 1 b = d.day ∧ natAt 1 1 b = d.month ∧ natAt 2 1 b = d.year - 2000 := by
  simp only [dateBytes]
  refine ⟨by simp, natAt_of_field (by simp) ?_, natAt_of_field (by simp) ?_, natAt_of_field (by simp) ?_⟩ <;> omega

theorem readingBytes_fields {r : ClockReading} (hday : r.date.day < 256) (hmonth : r.date.month < 256)
    (hlow : 2000 ≤ r.date.year) (hhigh : r.date.year ≤ 2255) (hhour : r.hour < 256) (hminute : r.minute < 256)
    (hsecond : r.second < 256) :
    let b := readingBytes (some r)
    b.length = 6 ∧ natAt 0 1 b = r.date.day ∧ natAt 1 1 b = r.date.month ∧ natAt 2 1 b = r.date.year - 2000 ∧
      natAt 3 1 b = r.hour ∧ natAt 4 1 b = r.minute ∧ natAt 5 1 b = r.second := by
  simp only [readingBytes]
  refine ⟨by simp, natAt_of_field (by simp) ?_, natAt_of_field (by simp) ?_, natAt_of_field (by simp) ?_,
    natAt_of_field (by simp) ?_, natAt_of_field (by simp) ?_, natAt_of_field (by simp) ?_⟩ <;> omega

@[simp] theorem length_readingBytes (time : Option ClockReading) : (readingBytes time).length = 6 := by
  cases time <;> simp [readingBytes]

theorem sheetFlags_eq (h : SheetHead) :
    sheetFlags h = flagCode h.tightened + 2 * flagCode h.shortClose + 4 * flagCode h.overrun +
      8 * flagCode h.offProportion := by
  simp only [sheetFlags, flagCode, mul_ite, mul_one, mul_zero]

theorem flagCode_le (b : Bool) : flagCode b ≤ 1 := by
  cases b <;> decide

theorem length_sheetHeadBytes {h : SheetHead} (hgarden : h.garden.length = 12) (hgrade : h.grade.length = 6) :
    (sheetHeadBytes h).length = 62 := by
  simp [sheetHeadBytes, optBytes, dateBytes, hgarden, hgrade]

@[simp] theorem length_sheetEntryBytes (e : SheetEntry) : (sheetEntryBytes e).length = 5 := by
  simp [sheetEntryBytes, flagByte]

theorem sheetEntryBytes_fields {e : SheetEntry} (hlow : -32768 ≤ e.deviation) (hhigh : e.deviation ≤ 32767) :
    let b := sheetEntryBytes e
    natAt 0 1 b = e.station ∧ intAt 1 2 b = e.deviation ∧ natAt 3 1 b = e.status.ctorIdx ∧
      natAt 4 1 b = flagCode e.sample := by
  have hstatus : e.status.ctorIdx < 6 := by cases e.status <;> decide
  have hflag := flagCode_le e.sample
  simp only [sheetEntryBytes, flagByte]
  refine ⟨natAt_of_field (by simp) ?_, intAt_of_field (by simp) ?_ ?_, natAt_of_field (by simp) ?_,
    natAt_of_field (n := flagCode e.sample) (by simp [flagCode]) ?_⟩ <;> omega

@[simp] theorem length_chestBytes (c : Chest) : (chestBytes c).length = 14 := by
  simp [chestBytes, flagByte]

theorem chestBytes_fields {c : Chest} (hnumber : c.number ≤ 120) (hserial : c.serial ≤ 65535)
    (hgross : -2147483648 ≤ c.gross ∧ c.gross < 2147483648) (hnet : -2147483648 ≤ c.net ∧ c.net < 2147483648) :
    let b := chestBytes c
    natAt 0 1 b = c.number ∧ natAt 1 2 b = c.serial ∧ natAt 3 1 b = c.station ∧ intAt 4 4 b = c.gross ∧
      intAt 8 4 b = c.net ∧ natAt 12 1 b = c.status.ctorIdx ∧ natAt 13 1 b = flagCode c.sample := by
  have hstatus : c.status.ctorIdx < 6 := by cases c.status <;> decide
  have hflag := flagCode_le c.sample
  simp only [chestBytes, flagByte]
  refine ⟨natAt_of_field (by simp) ?_, natAt_of_field (by simp) ?_, natAt_of_field (by simp) ?_,
    intAt_of_field (by simp) ?_ ?_, intAt_of_field (by simp) ?_ ?_, natAt_of_field (by simp) ?_,
    natAt_of_field (n := flagCode c.sample) (by simp [flagCode]) ?_⟩ <;> omega

end Sys2Proof.Machine
end

section
/-! PROOF. The bytes on the host line, read and sent. -/

open Sys2Proof Sys2Proof.Machine

namespace Sys2Proof.Machine

theorem frameBytes_arrives (tag kind : Byte) {body : List Byte} (hbody : body.length ≤ 248) :
    ∃ bytes, frameBytes tag kind body = startByte :: bytes ∧ assembly bytes = .arrived ⟨tag, kind, body⟩ ∧
      ∀ n, n < bytes.length → assembly (bytes.take n) = .more := by
  refine ⟨_, frameBytes_eq tag kind body, (assembly_full hbody rfl).trans (if_pos rfl), fun n hn => ?_⟩
  have hlength := lengthByte_toNat hbody
  cases n with
  | zero => rfl
  | succ m =>
    have htaken : m < body.length + 4 := by simpa [Nat.lt_succ_iff] using hn
    exact assembly_short (by omega) (by omega) (by rw [List.length_take, hlength]; omega)

theorem sheetHeadBytes_fields {h : SheetHead} (hnumber : h.number ≤ 99999) (hgarden : h.garden.length = 12)
    (hgrade : h.grade.length = 6) (hpackages : h.packages ≤ 120) (hdeclared : h.declaredNet ≤ 100000)
    (htare : h.tare ≤ 65535) (htotal : h.totalDeclared < 4294967296)
    (hweights : ∀ z ∈ [h.totalGross, h.totalActual, h.giveaway], -2147483648 ≤ z ∧ z < 2147483648)
    (hallowance : h.allowance ≤ 99999) (hyear : 2000 ≤ h.date.year ∧ h.date.year ≤ 2099) (hmonth : h.date.month ≤ 12)
    (hday : h.date.day ≤ 31) (hlot : ∀ n ∈ h.lot, n ≤ 99999) (hrun : ∀ n ∈ h.bulkRun, n ≤ 65535) :
    let b := sheetHeadBytes h
    natAt 0 3 b = h.number ∧ field 3 12 b = h.garden ∧ field 15 6 b = h.grade ∧ natAt 21 1 b = h.packType ∧
      natAt 22 1 b = h.packages ∧ natAt 23 3 b = h.declaredNet ∧ natAt 26 2 b = h.tare ∧
      natAt 28 4 b = h.totalDeclared ∧ intAt 32 4 b = h.totalGross ∧ intAt 36 4 b = h.totalActual ∧
      intAt 40 4 b = h.giveaway ∧ natAt 44 1 b = sheetFlags h ∧ natAt 45 3 b = h.allowance ∧
      natAt 48 1 b = h.date.day ∧ natAt 49 1 b = h.date.month ∧ natAt 50 1 b = h.date.year - 2000 ∧
      natAt 51 3 b = h.lot.getD 0 ∧ natAt 54 2 b = h.bulkRun.getD 0 ∧ field 56 6 b = readingBytes h.time := by
  have hlot := getD_le hlot
  have hrun := getD_le hrun
  simp only [List.mem_cons, List.not_mem_nil, or_false, forall_eq_or_imp, forall_eq] at hweights
  obtain ⟨hgross, hactual, hgiveaway⟩ := hweights
  have hflags : sheetFlags h ≤ 15 := by
    have htightened := flagCode_le h.tightened
    have hshort := flagCode_le h.shortClose
    have hoverrun := flagCode_le h.overrun
    have hoff := flagCode_le h.offProportion
    rw [sheetFlags_eq]
    omega
  simp only [sheetHeadBytes, optBytes, dateBytes]
  refine ⟨natAt_of_field (by simp) ?_, by simp [hgarden], by simp [hgarden, hgrade],
    natAt_of_field (by simp [hgarden, hgrade]) ?_, natAt_of_field (by simp [hgarden, hgrade]) ?_,
    natAt_of_field (by simp [hgarden, hgrade]) ?_, natAt_of_field (by simp [hgarden, hgrade]) ?_,
    natAt_of_field (by simp [hgarden, hgrade]) ?_, intAt_of_field (by simp [hgarden, hgrade]) ?_ ?_,
    intAt_of_field (by simp [hgarden, hgrade]) ?_ ?_, intAt_of_field (by simp [hgarden, hgrade]) ?_ ?_,
    natAt_of_field (by simp [hgarden, hgrade]) ?_, natAt_of_field (by simp [hgarden, hgrade]) ?_,
    natAt_of_field (by simp [hgarden, hgrade]) ?_, natAt_of_field (by simp [hgarden, hgrade]) ?_,
    natAt_of_field (by simp [hgarden, hgrade]) ?_, natAt_of_field (by simp [hgarden, hgrade]) ?_,
    natAt_of_field (by simp [hgarden, hgrade]) ?_, by simp [hgarden, hgrade]⟩ <;> omega

/-- What a delivered part of a sheet carries before its content: slot, outcome, invoice, part and last part (R189, R203). -/
def sheetPartFront (slot : Option (Fin 4)) (n k last : Nat) : List Byte :=
  optIndex (slot.map Fin.val) ++ natBytes 1 0 ++ natBytes 3 n ++ natBytes 1 k ++ natBytes 1 last

@[simp] theorem length_sheetPartFront (slot : Option (Fin 4)) (n k last : Nat) :
    (sheetPartFront slot n k last).length = 7 := by
  simp [sheetPartFront, optIndex]

theorem okBytes_sheet (slot : Option (Fin 4)) (n k last : Nat) (c : SheetPart) :
    okBytes (.delivered slot (.fetch n) .answer (some (.sheet n k last c))) = sheetPartFront slot n k last ++ partBytes c := by
  simp only [okBytes, objectBytes, answerBytes, sheetPartFront, List.append_assoc]
  rfl

theorem sheetPart_fields {slot : Option (Fin 4)} {n k last : Nat} (rest : List Byte) (hn : n ≤ 99999) (hk : k < 256)
    (hlast : last < 256) :
    let b := sheetPartFront slot n k last ++ rest
    natAt 0 1 b = (slot.map Fin.val).getD 255 ∧ natAt 1 1 b = 0 ∧ natAt 2 3 b = n ∧ natAt 5 1 b = k ∧
      natAt 6 1 b = last := by
  have hslot := slotNumber_lt slot
  simp only [sheetPartFront, optIndex]
  refine ⟨natAt_of_field (by simp) ?_, natAt_of_field (by simp) ?_, natAt_of_field (by simp) ?_,
    natAt_of_field (by simp) ?_, natAt_of_field (by simp) ?_⟩ <;> omega

/-- The fields of entry `j` of a part lie at `j` times the width of an entry. -/
theorem sheetPart_entry_fields {slot : Option (Fin 4)} {n k last j : Nat} {es : List SheetEntry} {e : SheetEntry}
    (he : es[j]? = some e) (hlow : -32768 ≤ e.deviation) (hhigh : e.deviation ≤ 32767) :
    let b := sheetPartFront slot n k last ++ partBytes (.entries es)
    natAt (7 + 5 * j) 1 b = e.station ∧ intAt (8 + 5 * j) 2 b = e.deviation ∧
      natAt (10 + 5 * j) 1 b = e.status.ctorIdx ∧ natAt (11 + 5 * j) 1 b = flagCode e.sample := by
  have hentry {off len place : Nat} (hin : off + len ≤ 5) (hplace : place = 7 + 5 * j + off) :
      field place len (sheetPartFront slot n k last ++ partBytes (.entries es)) = field off len (sheetEntryBytes e) := by
    have := field_of_entry (front := sheetPartFront slot n k last) [] length_sheetEntryBytes he hin (by simpa using hplace)
    rwa [List.append_nil] at this
  obtain ⟨hstation, hdeviation, hstatus, hsample⟩ := sheetEntryBytes_fields hlow hhigh
  refine ⟨.trans (congrArg leNat (hentry ?_ ?_)) hstation, .trans (congrArg leInt (hentry ?_ ?_)) hdeviation,
    .trans (congrArg leNat (hentry ?_ ?_)) hstatus, .trans (congrArg leNat (hentry ?_ ?_)) hsample⟩ <;> omega

theorem captureAnswer_fields {slot : Option (Fin 4)} {i : Fin 4} {st : StationState} {q zt : Int} (hq : -2147483648 ≤ q)
    (hq' : q < 2147483648) (hzt : -32768 ≤ zt) (hzt' : zt ≤ 32767) :
    let b := okBytes (.delivered slot (.capture i) .answer (some (.capture i st q zt)))
    b.length = 10 ∧ natAt 0 1 b = (slot.map Fin.val).getD 255 ∧ natAt 1 1 b = 0 ∧ natAt 2 1 b = i ∧
      natAt 3 1 b = st.ctorIdx ∧ intAt 4 4 b = q ∧ intAt 8 2 b = zt := by
  have hslot := slotNumber_lt slot
  have hstate : st.ctorIdx < 256 := by cases st <;> decide
  have houtcome : SlotOutcome.answer.ctorIdx = 0 := rfl
  simp only [okBytes, optIndex, objectBytes, answerBytes, houtcome]
  refine ⟨by simp, natAt_of_field (by simp) ?_, natAt_of_field (by simp) ?_, natAt_of_field (by simp) ?_,
    natAt_of_field (by simp) ?_, intAt_of_field (by simp) ?_ ?_, intAt_of_field (by simp) ?_ ?_⟩ <;> omega

theorem chests_fields {accepted : Nat} {cs : List Chest} (haccepted : accepted ≤ 120) (hcount : cs.length ≤ 16) :
    let b := okBytes (.chests accepted cs)
    b.length = 2 + 14 * cs.length ∧ natAt 0 1 b = cs.length ∧ natAt (1 + 14 * cs.length) 1 b = accepted := by
  have hrow := length_flatMap_of_width length_chestBytes cs
  simp only [okBytes, listBytes]
  refine ⟨by simp [hrow]; omega, natAt_of_field ?_ ?_, natAt_of_field ?_ ?_⟩
  · simp
  · omega
  · rw [field_append_right _ (by simp [hrow])]
    simp [hrow]
  · omega

theorem chests_entry_fields {accepted j : Nat} {cs : List Chest} {c : Chest} (hc : cs[j]? = some c)
    (hnumber : c.number ≤ 120) (hserial : c.serial ≤ 65535) (hgross : -2147483648 ≤ c.gross ∧ c.gross < 2147483648)
    (hnet : -2147483648 ≤ c.net ∧ c.net < 2147483648) :
    let b := okBytes (.chests accepted cs)
    natAt (1 + 14 * j) 1 b = c.number ∧ natAt (2 + 14 * j) 2 b = c.serial ∧ natAt (4 + 14 * j) 1 b = c.station ∧
      intAt (5 + 14 * j) 4 b = c.gross ∧ intAt (9 + 14 * j) 4 b = c.net ∧
      natAt (13 + 14 * j) 1 b = c.status.ctorIdx ∧ natAt (14 + 14 * j) 1 b = flagCode c.sample := by
  have hentry {off len place : Nat} (hin : off + len ≤ 14) (hplace : place = 1 + 14 * j + off) :
      field place len (okBytes (.chests accepted cs)) = field off len (chestBytes c) :=
    field_of_entry _ length_chestBytes hc hin (by simpa using hplace)
  obtain ⟨hnumber, hserial, hstation, hgross, hnet, hstatus, hsample⟩ := chestBytes_fields hnumber hserial hgross hnet
  refine ⟨.trans (congrArg leNat (hentry ?_ ?_)) hnumber, .trans (congrArg leNat (hentry ?_ ?_)) hserial,
    .trans (congrArg leNat (hentry ?_ ?_)) hstation, .trans (congrArg leInt (hentry ?_ ?_)) hgross,
    .trans (congrArg leInt (hentry ?_ ?_)) hnet, .trans (congrArg leNat (hentry ?_ ?_)) hstatus,
    .trans (congrArg leNat (hentry ?_ ?_)) hsample⟩ <;> omega

/-- The kinds of the twenty-seven notices are 0x80 to 0x9A (R202). -/
theorem noticeKind_bounds (n : Notice) : 0x80 ≤ (noticeKind n).toNat ∧ (noticeKind n).toNat ≤ 0x9A := by
  have hindex : n.ctorIdx ≤ 26 := by cases n <;> exact Nat.le_of_ble_eq_true rfl
  rw [noticeKind, BitVec.toNat_ofNat]
  omega

/-- Settles O6, clause by clause in the order of the statement. -/
theorem bytesAreReadAndSent : Obligations.BytesAreReadAndSent := by
  unfold Obligations.BytesAreReadAndSent
  refine ⟨fun f => ⟨decodeRequest_unknown_iff f, decodeRequest_length_iff f⟩,
    fun tag kind _ hbody => frameBytes_arrives tag kind hbody, fun _ rest h => assembly_bad_length rest h, ?_, ?_,
    ⟨allowedChar_iff, validText_iff⟩, ?_, ?_, fun _ => rfl, fun number n => ⟨rfl, noticeKind_bounds n⟩,
    fun _ _ _ _ _ _ _ _ _ _ _ _ _ => ⟨rfl, rfl, rfl, rfl⟩, ?_, ?_, ?_, ?_, ?_, fun _ _ => ⟨rfl, rfl⟩, ?_⟩
  case refine_1 =>
    intro tag kind body check hbody hcheck checked hwrong
    rw [assembly_full hbody hcheck, if_neg hwrong]
  case refine_2 =>
    refine ⟨fun _ _ _ => rfl, crcBytes_eq, rfl, fun bytes b => ?_, ?_⟩
    · simp only [crc16_append_singleton, crcByte_eq, crcShift_eq]
    · decide +kernel
  case refine_3 =>
    intro k n off z front back hfront
    refine ⟨fun hn => ⟨natAt_of_field (field_middle back hfront (length_natBytes k n)) hn, length_natBytes k n⟩,
      fun _ hlow hhigh => ⟨intAt_of_field (field_middle back hfront (length_intBytes k z)) hlow hhigh, length_intBytes k z⟩⟩
  case refine_4 =>
    intro tag kind busy
    refine ⟨fun _ => rfl, fun r code hcode => ?_, fun _ => rfl⟩
    cases r <;> simp at hcode <;> subst hcode <;> rfl
  case refine_5 =>
    intro i inv o gross net chest serial hinv hlow hhigh hnet hchest hserial
    exact ⟨rfl, chestDecided_fields hinv hlow hhigh hnet hchest hserial⟩
  case refine_6 =>
    intro i d hlow hhigh hmonth hday
    obtain ⟨hlength, hdate⟩ := dateBytes_fields hday hmonth hlow hhigh
    refine ⟨rfl, rfl, rfl, hlength, hdate.1, hdate.2.1, hdate.2.2, ?_⟩
    rintro r rfl hhour hminute hsecond
    obtain ⟨hlength, hday, hmonth, hyear, hhour, hminute, hsecond⟩ :=
      readingBytes_fields hday hmonth hlow hhigh hhour hminute hsecond
    exact ⟨hlength, hday, hmonth, hyear, hhour, hminute, hsecond, rfl, rfl⟩
  case refine_7 =>
    intro h hnumber hgarden hgrade hpackages hdeclared htare htotal hweights hallowance hlow hhigh hmonth hday hlot hrun
    have hlength := length_sheetHeadBytes hgarden hgrade
    have hfields := sheetHeadBytes_fields hnumber hgarden hgrade hpackages hdeclared htare htotal hweights hallowance
      ⟨hlow, hhigh⟩ hmonth hday hlot hrun
    rw [← sheetFlags_eq]
    cases htime : h.time <;> rw [htime] at hfields <;> exact ⟨hlength, hfields⟩
  case refine_8 =>
    intro slot n k last c hn hk hlast
    simp only [okBytes_sheet]
    obtain ⟨hslot, houtcome, hinvoice, hpart, hlastPart⟩ := sheetPart_fields (slot := slot) (partBytes c) hn hk hlast
    refine ⟨hslot, houtcome, hinvoice, hpart, hlastPart, ?_, ?_⟩
    · rintro h rfl
      exact ⟨by simp [partBytes], fun hgarden hgrade => by simp [partBytes, length_sheetHeadBytes hgarden hgrade]⟩
    · rintro es rfl
      have hlength : (sheetPartFront slot n k last ++ partBytes (.entries es)).length = 7 + 5 * es.length := by
        simp [partBytes, length_flatMap_of_width length_sheetEntryBytes]
      exact ⟨hlength, fun hfull => by rw [hlength, hfull], fun j e he hlow hhigh => sheetPart_entry_fields he hlow hhigh⟩
  case refine_9 =>
    intro slot i st q zt hq hq' hzt hzt'
    exact captureAnswer_fields hq hq' hzt hzt'
  case refine_10 =>
    intro accepted cs haccepted hcount
    obtain ⟨hlength, hcountByte, hacceptedByte⟩ := chests_fields haccepted hcount
    refine ⟨hlength, hcountByte, hacceptedByte, fun j c hc hnumber hserial hweights => ?_⟩
    exact chests_entry_fields hc hnumber hserial (hweights _ (by simp)) (hweights _ (by simp))

end Sys2Proof.Machine
end

section
/-! SUPPORT. The action dispatcher's tables (spec/05 5.2, 5.3): which fields carry an action and a written set, and that the
checks pass them and refuse all others with RANGE. -/

namespace Sys2Proof.Machine

/-! ### Checks that pass, as equivalences -/

theorem index_eq_ok_iff {n x : Nat} {i : Fin n} : index n x = .ok i ↔ x = i.val := by
  constructor
  · intro h
    have hx : x < n := index_ok h
    have := (index_fin n ⟨x, hx⟩).symm.trans h
    exact congrArg Fin.val (Except.ok.inj this)
  · rintro rfl
    exact index_fin n i

theorem flag_flagCode (b : Bool) : flag (flagCode b) = .ok b := flag_of_bool b

theorem flag_eq_ok_iff {n : Nat} {b : Bool} : flag n = .ok b ↔ n = flagCode b := by
  constructor
  · intro h
    have hn : n < 2 := flag_ok h
    interval_cases n <;> cases Except.ok.inj h <;> rfl
  · rintro rfl
    exact flag_flagCode b

theorem actOnOf_eq_ok_iff {n : Nat} {a : ActOn} : actOnOf n = .ok a ↔ n = a.ctorIdx := by
  constructor
  · intro h
    unfold actOnOf at h
    split at h <;> cases h <;> rfl
  · rintro rfl
    cases a <;> rfl

theorem modeOf_eq_ok_iff {n : Nat} {m : SetMode} : modeOf n = .ok m ↔ n = m.ctorIdx := by
  constructor
  · intro h
    unfold modeOf at h
    split at h <;> cases h <;> rfl
  · rintro rfl
    cases m <;> rfl

theorem actOn_ctorIdx_lt (a : ActOn) : a.ctorIdx < 2 := by cases a <;> decide

theorem setMode_ctorIdx_lt (m : SetMode) : m.ctorIdx < 2 := by cases m <;> decide

/-! ### What carries an action -/

/-- The kind and the parameters that carry an action: the kind its own, and each parameter its own where the kind uses it
(R102; spec/11, ACTION-SET-WRITE). -/
def Action.CarriedBy (a : Action) (kind first second : Nat) : Prop :=
  kind = a.codes.1 ∧ (kind = 3 ∨ first = a.codes.2.1) ∧ (kind = 2 ∨ second = a.codes.2.2)

theorem Action.CarriedBy.actionOf_eq {kind first second : Nat} {a : Action} (h : a.CarriedBy kind first second)
    (hrange : a.inRange) : actionOf kind first second = .ok a := by
  obtain ⟨rfl, hfirst, hsecond⟩ := h
  cases a with
  | stencil head template =>
    obtain rfl : first = head.val := hfirst.resolve_left nofun
    obtain rfl : second = template.val := hsecond.resolve_left nofun
    simp [actionOf, Action.codes]
  | gate line length =>
    obtain rfl : first = line.val := hfirst.resolve_left nofun
    obtain rfl : second = length := hsecond.resolve_left nofun
    simpa [actionOf, Action.codes, Action.inRange, within_eq_true] using hrange
  | notice code =>
    obtain rfl : first = code := hfirst.resolve_left nofun
    simpa [actionOf, Action.codes, Action.inRange, within_eq_true] using hrange
  | sample grams =>
    obtain rfl : second = grams := hsecond.resolve_left nofun
    simpa [actionOf, Action.codes, Action.inRange, within_eq_true] using hrange

theorem actionOf_ok {kind first second : Nat} {a : Action} (h : actionOf kind first second = .ok a) :
    a.inRange ∧ a.CarriedBy kind first second := by
  unfold actionOf at h
  split at h
  case h_1 =>
    obtain ⟨head, hfirst, h⟩ := bind_eq_ok h
    obtain ⟨template, hsecond, h⟩ := bind_eq_ok h
    obtain rfl := Except.ok.inj h
    exact ⟨trivial, rfl, .inr (index_eq_ok_iff.mp hfirst), .inr (index_eq_ok_iff.mp hsecond)⟩
  case h_2 =>
    obtain ⟨line, hfirst, h⟩ := bind_eq_ok h
    obtain ⟨_, hsecond, h⟩ := bind_eq_ok h
    obtain rfl := Except.ok.inj h
    exact ⟨within_eq_true.mp (require_ok hsecond), rfl, .inr (index_eq_ok_iff.mp hfirst), .inr rfl⟩
  case h_3 =>
    obtain ⟨_, hfirst, h⟩ := bind_eq_ok h
    obtain rfl := Except.ok.inj h
    exact ⟨(within_eq_true.mp (require_ok hfirst)).2, rfl, .inr rfl, .inl rfl⟩
  case h_4 =>
    obtain ⟨_, hsecond, h⟩ := bind_eq_ok h
    obtain rfl := Except.ok.inj h
    exact ⟨within_eq_true.mp (require_ok hsecond), rfl, .inl rfl, .inr rfl⟩
  case h_5 => contradiction

/-- The parameters that carry an action lie within the ranges of its kind. -/
theorem Action.CarriedBy.bounds {a : Action} {kind first second : Nat} (h : a.CarriedBy kind first second)
    (hrange : a.inRange) : kind < 4 ∧ (kind = 0 → first < 2 ∧ second < 8) ∧
      (kind = 1 → first < 8 ∧ 50 ≤ second ∧ second ≤ 2000) ∧ (kind = 2 → first ≤ 255) ∧
      (kind = 3 → 1 ≤ second ∧ second ≤ 2000) := by
  obtain ⟨rfl, hfirst, hsecond⟩ := h
  cases a <;> simp only [Action.codes, Action.inRange] at * <;> omega

/-! ### What carries a written set -/

/-- The fields that carry a written part to a set: its flags and codes, its action, its reload within 1..256, and no chain
from the last set (R102). -/
structure WrittenSet.CarriedBy (w : WrittenSet) (i : Fin 32) (f : ActionSetFields) : Prop where
  enabled : f.enabled = flagCode w.enabled
  inRange : w.action.inRange
  action : w.action.CarriedBy f.kind f.first f.second
  actOn : f.actOn = w.actOn.ctorIdx
  mode : f.mode = w.mode.ctorIdx
  reload : f.reload = w.reload
  reloadInRange : 1 ≤ w.reload ∧ w.reload ≤ 256
  notify : f.notify = flagCode w.notify
  chain : f.chain = flagCode w.chain
  lastUnchained : i = 31 → w.chain = false

/-- Whether the set is not the last or the chain flag is clear, as the check has it (R102). -/
theorem last_unchained_iff {i : Fin 32} {chain : Bool} : (!(i == 31 && chain)) = true ↔ (i = 31 → chain = false) := by
  simp [or_iff_not_imp_left]

theorem WrittenSet.CarriedBy.writtenSet_eq {w : WrittenSet} {i : Fin 32} {f : ActionSetFields} (h : w.CarriedBy i f) :
    writtenSet i f = .ok w := by
  have hreload : within 1 256 w.reload = true := within_eq_true.mpr h.reloadInRange
  have hlast : (!(i == 31 && w.chain)) = true := last_unchained_iff.mpr h.lastUnchained
  simp only [writtenSet, h.enabled, h.action.actionOf_eq h.inRange, actOnOf_eq_ok_iff.mpr h.actOn,
    modeOf_eq_ok_iff.mpr h.mode, h.reload, h.notify, h.chain, flag_flagCode, ok_bind, require_pos hreload,
    require_pos hlast, pure_is_ok]

theorem writtenSet_ok {w : WrittenSet} {i : Fin 32} {f : ActionSetFields} (h : writtenSet i f = .ok w) :
    w.CarriedBy i f := by
  obtain ⟨enabled, henabled, h⟩ := bind_eq_ok h
  obtain ⟨action, haction, h⟩ := bind_eq_ok h
  obtain ⟨actOn, hactOn, h⟩ := bind_eq_ok h
  obtain ⟨mode, hmode, h⟩ := bind_eq_ok h
  obtain ⟨_, hreload, h⟩ := bind_eq_ok h
  obtain ⟨notify, hnotify, h⟩ := bind_eq_ok h
  obtain ⟨chain, hchain, h⟩ := bind_eq_ok h
  obtain ⟨_, hlast, h⟩ := bind_eq_ok h
  obtain rfl := Except.ok.inj h
  exact ⟨flag_eq_ok_iff.mp henabled, (actionOf_ok haction).1, (actionOf_ok haction).2, actOnOf_eq_ok_iff.mp hactOn,
    modeOf_eq_ok_iff.mp hmode, rfl, within_eq_true.mp (require_ok hreload), flag_eq_ok_iff.mp hnotify,
    flag_eq_ok_iff.mp hchain, last_unchained_iff.mp (require_ok hlast)⟩

/-- The fields of a written part carry it, whatever stands in the parameters its kind does not use. -/
theorem WrittenSet.carriedBy_setFields {i : Fin 32} {w : WrittenSet} {f : ActionSetFields} (hrange : w.action.inRange)
    (hreload : 1 ≤ w.reload ∧ w.reload ≤ 256) (hlast : i = 31 → w.chain = false)
    (hf : f = { setFields w with
      first := if f.kind = 3 then f.first else (setFields w).first
      second := if f.kind = 2 then f.second else (setFields w).second }) : w.CarriedBy i f where
  enabled := congrArg ActionSetFields.enabled hf
  inRange := hrange
  action := by
    have hfirst : f.first = if f.kind = 3 then f.first else w.action.codes.2.1 := congrArg ActionSetFields.first hf
    have hsecond : f.second = if f.kind = 2 then f.second else w.action.codes.2.2 := congrArg ActionSetFields.second hf
    exact ⟨congrArg ActionSetFields.kind hf, or_iff_not_imp_left.mpr fun h => hfirst.trans (if_neg h),
      or_iff_not_imp_left.mpr fun h => hsecond.trans (if_neg h)⟩
  actOn := congrArg ActionSetFields.actOn hf
  mode := congrArg ActionSetFields.mode hf
  reload := congrArg ActionSetFields.reload hf
  reloadInRange := hreload
  notify := congrArg ActionSetFields.notify hf
  chain := congrArg ActionSetFields.chain hf
  lastUnchained := hlast

/-! ### The checks refuse with RANGE only -/

theorem RefusesRangeOnly.bind {α β : Type} {x : Except Reason α} {f : α → Except Reason β} (hx : RefusesRangeOnly x)
    (hf : ∀ a, RefusesRangeOnly (f a)) : RefusesRangeOnly (x >>= f) := by
  intro r h
  cases x with
  | error e => exact hx r (congrArg Except.error (Except.error.inj h))
  | ok a => exact hf a r h

theorem ok_refusesRangeOnly {α : Type} (a : α) : RefusesRangeOnly (.ok a : Except Reason α) :=
  fun _ h => nomatch h

/-- A check that refuses with RANGE only and passes no value refuses with RANGE. -/
theorem RefusesRangeOnly.eq_range {α : Type} {x : Except Reason α} (hx : RefusesRangeOnly x) (h : ∀ a, x ≠ .ok a) :
    x = .error .range := by
  cases hc : x with
  | error r => rw [hx r hc]
  | ok a => exact absurd hc (h a)

theorem actOnOf_refusesRangeOnly (n : Nat) : RefusesRangeOnly (actOnOf n) := by
  intro r h
  unfold actOnOf at h
  split at h <;> cases h
  rfl

theorem modeOf_refusesRangeOnly (n : Nat) : RefusesRangeOnly (modeOf n) := by
  intro r h
  unfold modeOf at h
  split at h <;> cases h
  rfl

theorem actionOf_refusesRangeOnly (kind first second : Nat) : RefusesRangeOnly (actionOf kind first second) := by
  unfold actionOf
  split
  case h_1 =>
    exact (index_refusesRangeOnly 2 _).bind fun _ => (index_refusesRangeOnly 8 _).bind fun _ => ok_refusesRangeOnly _
  case h_2 =>
    exact (index_refusesRangeOnly 8 _).bind fun _ => (require_refusesRangeOnly _).bind fun _ => ok_refusesRangeOnly _
  case h_3 => exact (require_refusesRangeOnly _).bind fun _ => ok_refusesRangeOnly _
  case h_4 => exact (require_refusesRangeOnly _).bind fun _ => ok_refusesRangeOnly _
  case h_5 => exact fun _ h => (Except.error.inj h).symm

theorem writtenSet_refusesRangeOnly (i : Fin 32) (f : ActionSetFields) : RefusesRangeOnly (writtenSet i f) :=
  (flag_refusesRangeOnly _).bind fun _ => (actionOf_refusesRangeOnly _ _ _).bind fun _ =>
  (actOnOf_refusesRangeOnly _).bind fun _ => (modeOf_refusesRangeOnly _).bind fun _ =>
  (require_refusesRangeOnly _).bind fun _ => (flag_refusesRangeOnly _).bind fun _ =>
  (flag_refusesRangeOnly _).bind fun _ => (require_refusesRangeOnly _).bind fun _ => ok_refusesRangeOnly _

theorem vectorEntry_fin (set : Option (Fin 32)) : vectorEntry (set.map Fin.val) = .ok set := by
  cases set with
  | none => rfl
  | some i => simp [vectorEntry, Except.map]

theorem vectorEntry_out_of_range {k : Nat} (h : 32 ≤ k) : vectorEntry (some k) = .error .range := by
  simp [vectorEntry, index_out_of_range 32 k h, Except.map]

end Sys2Proof.Machine
end

section
/-! PROOF. The requests to the vector table and the action sets (R101 to R103, R112, R113). -/

namespace Sys2Proof.Machine

/-! ### VECTOR-SET and VECTOR-READ -/

theorem exec_vectorSet {tag : Byte} {s : State} (hp : s.powered = true) (source : Fin 20) (set : Option (Fin 32)) :
    exec (.vectorSet tag source (set.map Fin.val)) s = .next (State.reply
      { s with actions := { s.actions with vectors := s.actions.vectors.set source set } } tag 0x1E
      (.ok (.vectors (s.actions.vectors.set source set)))) :=
  onRequest_ok hp (by rw [ownVectorSet, index_fin, ok_bind, vectorEntry_fin]; rfl)

theorem vectorSet_out_of_range_refused (tag : Byte) {s : State} (hp : s.powered = true) {n : Nat} {set : Option Nat}
    (h : 20 ≤ n ∨ ∃ k, set = some k ∧ 32 ≤ k) : RefusedWithRange tag s (.vectorSet tag n set) := by
  refine refused_of_rest hp rfl rfl rfl (index_refusesRangeOnly 20 n) fun source hsource => ?_
  obtain ⟨k, rfl, hk⟩ := h.resolve_left (Nat.not_le.mpr (index_ok hsource))
  exact bind_of_error _ (vectorEntry_out_of_range hk)

theorem exec_vectorRead {tag : Byte} {s : State} (hp : s.powered = true) :
    exec (.vectorRead tag) s = .next (s.reply tag 0x1F (.ok (.dispatcher s.actions.vectors s.actions.sets
      (s.actions.gates.map fun p => p.map fun q => q.length - q.run)))) :=
  onRequest_ok hp rfl

/-! ### ACTION-SET-WRITE and ACTION-SET-READ -/

theorem exec_actionSetWrite {tag : Byte} {s : State} (hp : s.powered = true) {i : Fin 32} {w : WrittenSet}
    {f : ActionSetFields} (h : w.CarriedBy i f) : exec (.actionSetWrite tag i f) s =
      .next ((s.setActionSet i ⟨w, w.enabled, w.reload⟩).reply tag 0x20 (.ok (.actionSet ⟨w, w.enabled, w.reload⟩))) :=
  onRequest_ok hp (by rw [ownActionSetWrite, index_fin, ok_bind, h.writtenSet_eq]; rfl)

theorem actionSetWrite_out_of_range_refused (tag : Byte) {s : State} (hp : s.powered = true) {n : Nat}
    {f : ActionSetFields} (h : 32 ≤ n ∨ 2 ≤ f.enabled ∨ 4 ≤ f.kind ∨ (f.kind = 0 ∧ (2 ≤ f.first ∨ 8 ≤ f.second)) ∨
      (f.kind = 1 ∧ (8 ≤ f.first ∨ f.second < 50 ∨ 2000 < f.second)) ∨ (f.kind = 2 ∧ 255 < f.first) ∨
      (f.kind = 3 ∧ (f.second = 0 ∨ 2000 < f.second)) ∨ 2 ≤ f.actOn ∨ 2 ≤ f.mode ∨ f.reload = 0 ∨ 256 < f.reload ∨
      2 ≤ f.notify ∨ 2 ≤ f.chain ∨ (n = 31 ∧ f.chain = 1)) : RefusedWithRange tag s (.actionSetWrite tag n f) := by
  refine refused_of_rest hp rfl rfl rfl (index_refusesRangeOnly 32 n) fun i hi => bind_of_error _ ?_
  refine (writtenSet_refusesRangeOnly i f).eq_range fun w hw => ?_
  have carried := writtenSet_ok hw
  obtain ⟨hkind, hstencil, hgate, hnotice, hsample⟩ := carried.action.bounds carried.inRange
  have hset : n = i.val := index_eq_ok_iff.mp hi
  have hlast : ¬ (n = 31 ∧ f.chain = 1) := by
    rintro ⟨hn, hchain⟩
    have unchained : w.chain = false := carried.lastUnchained (Fin.ext (hset.symm.trans hn))
    simp [carried.chain, unchained, flagCode] at hchain
  have := i.isLt
  have := flag_ok (flag_eq_ok_iff.mpr carried.enabled)
  have := flag_ok (flag_eq_ok_iff.mpr carried.notify)
  have := flag_ok (flag_eq_ok_iff.mpr carried.chain)
  have := carried.actOn ▸ actOn_ctorIdx_lt w.actOn
  have := carried.mode ▸ setMode_ctorIdx_lt w.mode
  have := carried.reload ▸ carried.reloadInRange
  omega

/-- Settles O37: a written part is taken when the fields carry it, and fields out of range carry none. -/
theorem actionTablesAreSetAndRead : Obligations.ActionTablesAreSetAndRead := by
  unfold Obligations.ActionTablesAreSetAndRead
  intro tag s hp
  exact ⟨exec_vectorSet hp, fun _ _ h => (vectorSet_out_of_range_refused tag hp h).exec_eq rfl, exec_vectorRead hp,
    fun _ _ _ hrange hlow hhigh hlast hf =>
      exec_actionSetWrite hp (WrittenSet.carriedBy_setFields hrange ⟨hlow, hhigh⟩ hlast hf),
    fun _ _ h => (actionSetWrite_out_of_range_refused tag hp h).exec_eq rfl,
    fun i => onRequest_ok hp (by rw [ownActionSetRead, index_fin, ok_bind]; rfl),
    fun _ h => (set_out_of_range_refused tag hp h).exec_eq rfl⟩

end Sys2Proof.Machine
end

section
/-! SUPPORT. Runs and chains of the action dispatcher (spec/05 5.1, 5.4): what a run of one set does in each of its cases, where
a chain goes on and where it stops, and what the sets of a chain do in their order. -/

namespace Sys2Proof.Machine

section
variable {source : Fin 20} {x : EventContext}

/-! ### A run of one set (R104 to R106) -/

section
variable {i : Fin 32} {s : State}

/-- A set without the serial it needs is skipped and counts nothing (R104). -/
theorem runSet_skipped (hneeds : s.actions.sets[i].written.action.needsSerial = true) (hx : x.serial = none) :
    runSet i source x s = s.notify (.actionSkipped i source s.actions.sets[i].written.action.kind) := by
  simp [-Fin.getElem_fin, runSet, hneeds, hx]

/-- The part behind a set's action: performed at every run, or at expiry only (R105). -/
def acted (i : Fin 32) (source : Fin 20) (x : EventContext) (s : State) : State :=
  if s.actions.sets[i].performs then performAction i source x s.actions.sets[i].written.action s else s

/-- A set that has what it needs acts and counts (R105, R106). -/
theorem runSet_not_skipped (hserial : s.actions.sets[i].written.action.needsSerial = true → x.serial ≠ none) :
    runSet i source x s =
      if s.actions.sets[i].count - 1 = 0 then expireSet i source s.actions.sets[i] (acted i source x s)
      else (acted i source x s).setActionSet i { s.actions.sets[i] with count := s.actions.sets[i].count - 1 } := by
  have unskipped : ¬ (s.actions.sets[i].written.action.needsSerial && x.serial.isNone) = true := by
    simpa [Option.isNone_iff_eq_none] using hserial
  exact if_neg unskipped

/-- A count above 1 falls by one (R106). -/
theorem runSet_counts (hserial : s.actions.sets[i].written.action.needsSerial = true → x.serial ≠ none)
    (hcount : 1 < s.actions.sets[i].count) : runSet i source x s =
      (acted i source x s).setActionSet i { s.actions.sets[i] with count := s.actions.sets[i].count - 1 } := by
  rw [runSet_not_skipped hserial, if_neg (by omega)]

/-- A count of 1 expires (R106). -/
theorem runSet_expires (hserial : s.actions.sets[i].written.action.needsSerial = true → x.serial ≠ none)
    (hcount : s.actions.sets[i].count = 1) :
    runSet i source x s = expireSet i source s.actions.sets[i] (acted i source x s) := by
  rw [runSet_not_skipped hserial, if_pos (by omega)]

end

theorem ActionSet.performs_iff {a : ActionSet} (h : 1 ≤ a.count) :
    a.performs = true ↔ a.written.actOn = .every ∨ a.count = 1 := by
  have : a.count - 1 = 0 ↔ a.count = 1 := by omega
  simp [ActionSet.performs, this]

theorem expireSet_normal {a : ActionSet} (h : a.written.mode = .normal) (i : Fin 32) (s : State) :
    expireSet i source a s =
      (s.setActionSet i { a with live := false, count := 0 }).notify (.setExhausted i .normal source) := by
  simp [expireSet, h]

theorem expireSet_repeats {a : ActionSet} (h : a.written.mode = .repeats) (i : Fin 32) (s : State) :
    expireSet i source a s = if a.written.notify = true then
        (s.setActionSet i { a with count := a.written.reload }).notify (.setExhausted i .repeats source)
      else s.setActionSet i { a with count := a.written.reload } := by
  simp [expireSet, h]

/-! ### Where a chain goes on and where it stops (R100, R107) -/

section
variable {fuel : Nat} {i : Fin 32} {s : State}

theorem runChain_disabled (hlive : s.actions.sets[i].live = false) : runChain source x fuel i s = s := by
  cases fuel with
  | zero => rfl
  | succ fuel => simp [-Fin.getElem_fin, runChain, hlive]

theorem runChain_unchained (hlive : s.actions.sets[i].live = true) (hchain : s.actions.sets[i].written.chain = false) :
    runChain source x (fuel + 1) i s = runSet i source x s := by
  simp [-Fin.getElem_fin, runChain, hlive, hchain]

theorem runChain_cut (hlive : s.actions.sets[i].live = true) (hchain : s.actions.sets[i].written.chain = true) :
    runChain source x 1 i s = (runSet i source x s).notify (.chainCut source i) := by
  simp [-Fin.getElem_fin, runChain, hlive, hchain]

theorem runChain_next {k : Fin 32} (hlive : s.actions.sets[i].live = true)
    (hchain : s.actions.sets[i].written.chain = true) (hk : k.val = i.val + 1) :
    runChain source x (fuel + 2) i s = runChain source x (fuel + 1) k (runSet i source x s) := by
  have hlt : i.val + 1 < 32 := hk ▸ k.isLt
  obtain rfl : ⟨i.val + 1, hlt⟩ = k := Fin.ext hk.symm
  rw [runChain]
  simp [-Fin.getElem_fin, hlive, hchain, hlt]

theorem runChain_last_set (hlive : s.actions.sets[i].live = true) (hchain : s.actions.sets[i].written.chain = true)
    (hi : ¬ i.val + 1 < 32) : runChain source x (fuel + 2) i s = runSet i source x s := by
  simp [-Fin.getElem_fin, runChain, hlive, hchain, hi]

end

/-! ### The sets of a chain in their order (R100, R107) -/

/-- The sets run one after another on the same context. -/
def runSets (source : Fin 20) (x : EventContext) (sets : List (Fin 32)) (s : State) : State :=
  sets.foldl (fun v i => runSet i source x v) s

@[simp] theorem runSets_nil (s : State) : runSets source x [] s = s := rfl

@[simp] theorem runSets_cons (i : Fin 32) (sets : List (Fin 32)) (s : State) :
    runSets source x (i :: sets) s = runSets source x sets (runSet i source x s) := rfl

theorem runSets_append_singleton (sets : List (Fin 32)) (i : Fin 32) (s : State) :
    runSets source x (sets ++ [i]) s = runSet i source x (runSets source x sets s) := by simp [runSets]

/-- A set that is not run stays as it was. -/
theorem runSets_other {sets : List (Fin 32)} {j : Fin 32} (h : j ∉ sets) (s : State) :
    (runSets source x sets s).actions.sets[j] = s.actions.sets[j] := by
  induction sets generalizing s with
  | nil => rfl
  | cons i sets ih =>
    obtain ⟨hi, hsets⟩ := not_or.mp (mt List.mem_cons.mpr h)
    rw [runSets_cons, ih hsets, runSet_other i j source x s hi]

/-- Each set of the list is the next after the last. -/
def Consecutive (sets : List (Fin 32)) : Prop := sets.IsChain fun a b => b.val = a.val + 1

theorem consecutive_of_getElem? {sets : List (Fin 32)}
    (h : ∀ k j : Nat, ∀ a b : Fin 32, j = k + 1 → sets[k]? = some a → sets[j]? = some b → b.val = a.val + 1) :
    Consecutive sets :=
  List.isChain_iff_getElem.mpr fun k hk => h k (k + 1) _ _ rfl (List.getElem?_eq_getElem _) (List.getElem?_eq_getElem hk)

/-- Consecutive sets ascend. -/
theorem Consecutive.pairwise_lt {sets : List (Fin 32)} (h : Consecutive sets) : sets.Pairwise (· < ·) :=
  (h.imp fun a b hab => Fin.lt_def.mpr (by omega) : sets.IsChain (· < ·)).pairwise

theorem Consecutive.head_not_mem {i : Fin 32} {sets : List (Fin 32)} (h : Consecutive (i :: sets)) : i ∉ sets :=
  fun hi => lt_irrefl i ((List.pairwise_cons.mp h.pairwise_lt).1 i hi)

theorem Consecutive.lt_last {front : List (Fin 32)} {last : Fin 32} (h : Consecutive (front ++ [last])) :
    ∀ i ∈ front, i < last :=
  fun i hi => (List.pairwise_append.mp h.pairwise_lt).2.2 i hi last List.mem_cons_self

/-- A chain whose sets before `last` are live and chained runs them in order and goes on from `last`. -/
theorem runChain_reaches_last {front : List (Fin 32)} {last i : Fin 32} (fuel : Nat) {s : State}
    (hconsecutive : Consecutive (front ++ [last])) (hhead : (front ++ [last]).head? = some i)
    (hlive : ∀ j ∈ front, s.actions.sets[j].live = true)
    (hchain : ∀ j ∈ front, s.actions.sets[j].written.chain = true) :
    runChain source x (front.length + (fuel + 1)) i s = runChain source x (fuel + 1) last (runSets source x front s) := by
  induction front generalizing i s with
  | nil =>
    obtain rfl : last = i := Option.some.inj hhead
    simp
  | cons first front ih =>
    obtain rfl : first = i := Option.some.inj hhead
    obtain ⟨next, hnext⟩ : ∃ next, (front ++ [last]).head? = some next := by cases front <;> simp
    obtain ⟨hsucc, hrest⟩ := List.isChain_cons.mp hconsecutive
    have unchanged : ∀ j ∈ front, (runSet first source x s).actions.sets[j] = s.actions.sets[j] := fun j hj =>
      runSet_other _ _ _ _ _ fun e => hconsecutive.head_not_mem (e ▸ List.mem_append_left _ hj)
    calc runChain source x ((first :: front).length + (fuel + 1)) first s
        = runChain source x (front.length + fuel + 2) first s := by
          rw [List.length_cons, show front.length + 1 + (fuel + 1) = front.length + fuel + 2 by omega]
      _ = runChain source x (front.length + (fuel + 1)) next (runSet first source x s) :=
          runChain_next (hlive _ List.mem_cons_self) (hchain _ List.mem_cons_self) (hsucc next hnext)
      _ = runChain source x (fuel + 1) last (runSets source x (first :: front) s) :=
          ih hrest hnext (fun j hj => unchanged j hj ▸ hlive j (List.mem_cons_of_mem _ hj))
            fun j hj => unchanged j hj ▸ hchain j (List.mem_cons_of_mem _ hj)

end

end Sys2Proof.Machine
end

section
/-! PROOF. An event runs the sets of its chain, and what each of them does with it (R99, R100, R104 to R111). -/

namespace Sys2Proof.Machine

/-! ### Events and pulses -/

theorem exec_gatePulseEnd {s : State} (hp : s.powered = true) (line : Fin 8) : exec (.gatePulseEnd line) s =
    .next { s with actions := { s.actions with gates := s.actions.gates.set line none } } :=
  onPower_powered hp fun s => s.setGate line none

section
variable {source : Fin 20} {x : EventContext} {s : State}

theorem exec_event (hp : s.powered = true) :
    exec (.event source x) s = .next (takeEvent source x (s.taken (.event source x))) :=
  onPower_powered hp fun s => takeEvent source x (s.taken (.event source x))

theorem takeEvent_of_none (h : s.actions.vectors[source] = none) : takeEvent source x s = s := by
  simp only [takeEvent, h]

theorem takeEvent_of_some {i : Fin 32} (h : s.actions.vectors[source] = some i) :
    takeEvent source x s = runChain source x Config.chainLength i s := by
  simp only [takeEvent, h]

/-! ### The whole chain of an event -/

/-- The sets that run with an event: the vectored set and those after it up to `last`, all live and all before `last`
chained, at most eight of them (R99, R100). -/
structure EventChain (source : Fin 20) (s : State) (front : List (Fin 32)) (last : Fin 32) : Prop where
  length : front.length ≤ 7
  head : s.actions.vectors[source] = (front ++ [last]).head?
  consecutive : Consecutive (front ++ [last])
  live : ∀ i ∈ front ++ [last], s.actions.sets[i].live = true
  chained : ∀ i ∈ front, s.actions.sets[i].written.chain = true

section
variable {front : List (Fin 32)} {last : Fin 32}

/-- The event comes to the last set of its chain with what is left of the eight (R100). -/
theorem EventChain.takeEvent_eq (h : EventChain source s front last) : takeEvent source x s =
    runChain source x (7 - front.length + 1) last (runSets source x front s) := by
  obtain ⟨i, hi⟩ : ∃ i, (front ++ [last]).head? = some i := by cases front <;> simp
  have hlength : Config.chainLength = front.length + (7 - front.length + 1) := by
    have := h.length
    simp only [Config.chainLength]
    omega
  rw [takeEvent_of_some (h.head.trans hi), hlength, runChain_reaches_last _ h.consecutive hi
    (fun j hj => h.live j (List.mem_append_left _ hj)) h.chained]

/-- The last set is as the event found it when its turn comes. -/
theorem EventChain.last_unchanged (h : EventChain source s front last) :
    (runSets source x front s).actions.sets[last] = s.actions.sets[last] :=
  runSets_other (fun hmem => lt_irrefl last (h.consecutive.lt_last last hmem)) s

theorem EventChain.last_live (h : EventChain source s front last) :
    (runSets source x front s).actions.sets[last].live = true := by
  rw [h.last_unchanged, h.live last (by simp)]

theorem EventChain.last_chain (h : EventChain source s front last) :
    (runSets source x front s).actions.sets[last].written.chain = s.actions.sets[last].written.chain := by
  rw [h.last_unchanged]

/-- A clear chain flag ends the chain (R107). -/
theorem EventChain.takeEvent_unchained (h : EventChain source s front last)
    (hchain : s.actions.sets[last].written.chain = false) :
    takeEvent source x s = runSets source x (front ++ [last]) s := by
  rw [h.takeEvent_eq, runChain_unchained h.last_live (h.last_chain.trans hchain), runSets_append_singleton]

/-- A disabled set, or none after set 31, ends the chain (R107). -/
theorem EventChain.takeEvent_stopped (h : EventChain source s front last)
    (hchain : s.actions.sets[last].written.chain = true) (hlength : front.length < 7)
    (hnext : ∀ k : Fin 32, k.val = last.val + 1 → s.actions.sets[k].live = false) :
    takeEvent source x s = runSets source x (front ++ [last]) s := by
  have hchain := (h.last_chain (x := x)).trans hchain
  have hfuel : 7 - front.length + 1 = 6 - front.length + 2 := by omega
  rw [h.takeEvent_eq, hfuel, runSets_append_singleton]
  by_cases hlast : last.val + 1 < 32
  · have unchanged : (runSets source x (front ++ [last]) s).actions.sets[(⟨last.val + 1, hlast⟩ : Fin 32)] =
        s.actions.sets[(⟨last.val + 1, hlast⟩ : Fin 32)] := by
      refine runSets_other (fun hmem => ?_) s
      rcases List.mem_append.mp hmem with hfront | hlast
      · have := Fin.lt_def.mp (h.consecutive.lt_last _ hfront)
        simp at this
      · simp [Fin.ext_iff] at hlast
    rw [runChain_next (k := ⟨last.val + 1, hlast⟩) h.last_live hchain rfl, ← runSets_append_singleton]
    exact runChain_disabled (unchanged ▸ hnext _ rfl)
  · exact runChain_last_set h.last_live hchain hlast

/-- A chain flag of the eighth set is cut (R107). -/
theorem EventChain.takeEvent_cut (h : EventChain source s front last)
    (hchain : s.actions.sets[last].written.chain = true) (hlength : front.length = 7) :
    takeEvent source x s = (runSets source x (front ++ [last]) s).notify (.chainCut source last) := by
  rw [h.takeEvent_eq, hlength, runSets_append_singleton]
  exact runChain_cut h.last_live (h.last_chain.trans hchain)

end

end

/-! ### What one set does with an event -/

/-- A set whose kind needs no serial, or one behind an event that brings one, is not skipped (R104). -/
theorem serial_of_not_skipped {a : Action} {x : EventContext}
    (h : x.serial ≠ none ∨ (∃ line n, a = .gate line n) ∨ ∃ code, a = .notice code) :
    a.needsSerial = true → x.serial ≠ none := by
  rcases h with hserial | ⟨line, n, rfl⟩ | ⟨code, rfl⟩
  · exact fun _ => hserial
  · exact nofun
  · exact nofun

/-- Settles O38: the event goes along its chain to the last set, and what a set does goes by its serial, count and mode. -/
theorem eventsRunTheirChains : Obligations.EventsRunTheirChains := by
  unfold Obligations.EventsRunTheirChains
  refine ⟨fun s source x hp => ⟨exec_gatePulseEnd hp, ?_⟩, fun i source x s => ⟨fun hserial => ?_, fun hserial hcount => ?_⟩⟩
  · have event {t : State} (h : takeEvent source x (s.taken (.event source x)) = t) :
        exec (.event source x) s = .next t := (exec_event hp).trans (congrArg _ h)
    refine ⟨fun hnone => event (takeEvent_of_none hnone), fun i hi hlive => event ?_, ?_⟩
    · exact (takeEvent_of_some (s := s.taken (.event source x)) hi).trans (runChain_disabled hlive)
    · intro front last hlength hhead hconsecutive hlive hchained
      have chain : EventChain source (s.taken (.event source x)) front last :=
        ⟨hlength, hhead, consecutive_of_getElem? hconsecutive, hlive, hchained⟩
      exact ⟨fun hclear => event (chain.takeEvent_unchained hclear),
        fun hset hshort hnext => event (chain.takeEvent_stopped hset hshort hnext),
        fun hset hfull => event (chain.takeEvent_cut hset hfull)⟩
  · have skipped {a : Action} (ha : s.actions.sets[i].written.action = a) (hneeds : a.needsSerial = true) :
        runSet i source x s = s.notify (.actionSkipped i source a.kind) := by
      subst ha
      exact runSet_skipped hneeds hserial
    exact ⟨fun h t ha => skipped ha rfl, fun g ha => skipped ha rfl⟩
  · intro performed u
    have hneeds := serial_of_not_skipped hserial
    have hu : acted i source x s = u := if_congr (ActionSet.performs_iff hcount) rfl rfl
    rw [← hu]
    exact ⟨runSet_counts hneeds,
      fun hone hmode => (runSet_expires hneeds hone).trans (expireSet_normal hmode i _),
      fun hone hmode => (runSet_expires hneeds hone).trans (expireSet_repeats hmode i _)⟩

end Sys2Proof.Machine
end

section
/-! SUPPORT. The head channel (spec/06 6.3, 6.4): its current line, the line streamed again from its start, and what a
character, a fault and a channel without its job are in each state. -/

namespace Sys2Proof.Machine

/-- A head that takes the content it holds stays as it is. -/
theorem State.setHead_self (s : State) (i : Fin 2) : s.setHead i s.stencils.heads[i] = s := by
  rw [State.setHead, vector_set_same]

theorem State.setHead_head (s : State) (i : Fin 2) (h : Head) : (s.setHead i h).stencils.heads[i] = h :=
  vector_set_self ..

section
variable {h : Head} {j : JobInHand} {text : Text}

theorem JobInHand.text_of_line (hline : j.lines[j.line]? = some text) : j.text = text := by
  rw [JobInHand.text, hline, Option.getD_some]

theorem JobInHand.remaining_of_line (hline : j.lines[j.line]? = some text) : j.remaining = text.length - j.position := by
  rw [JobInHand.remaining, JobInHand.text_of_line hline]

/-! ### Streaming (R130) -/

theorem Head.stream_ended (h : Head) (hleft : j.remaining = 0) : h.stream j = h.endLine j [] := if_pos hleft

theorem Head.stream_unended (h : Head) (hleft : j.remaining ≠ 0) :
    h.stream j = { h with state := .streaming, inHand := some j, resume := .none, ackTimer := none } := if_neg hleft

/-- A line streamed from its start ends at once exactly when it has no character. -/
theorem Head.stream_from_start (h : Head) (hline : j.lines[j.line]? = some text) (hstart : j.position = 0) :
    h.stream j = if text = [] then h.endLine j []
      else { h with state := .streaming, inHand := some j, resume := .none, ackTimer := none } := by
  have hleft : j.remaining = text.length := by rw [JobInHand.remaining_of_line hline, hstart, Nat.sub_zero]
  split
  next hempty => exact h.stream_ended (by rw [hleft, hempty, List.length_nil])
  next hsome => exact h.stream_unended (by rwa [hleft, ne_eq, List.length_eq_zero_iff])

theorem Head.sendCharacter_of_not_streaming (hstate : h.state ≠ .streaming) : h.sendCharacter = h := by
  unfold Head.sendCharacter
  split
  next hstreaming _ => exact absurd hstreaming hstate
  next => rfl

/-- The character at the position goes to the head; behind the last one the line ends. -/
theorem Head.sendCharacter_of_streaming (hstate : h.state = .streaming) (hj : h.inHand = some j)
    (hline : j.lines[j.line]? = some text) {c : Byte} (hc : text[j.position]? = some c) :
    h.sendCharacter =
      if j.position + 1 = text.length then h.endLine { j with position := j.position + 1 } [.char c]
      else { h with inHand := some { j with position := j.position + 1 }, out := [.char c] } := by
  have hleft : ({ j with position := j.position + 1 } : JobInHand).remaining = 0 ↔ j.position + 1 = text.length := by
    obtain ⟨hinside, -⟩ := List.getElem?_eq_some_iff.mp hc
    rw [JobInHand.remaining_of_line (j := { j with position := j.position + 1 }) hline]
    dsimp only
    omega
  simp only [Head.sendCharacter, hstate, hj, JobInHand.text_of_line hline, hc, hleft]

/-! ### Faults (R133) -/

theorem Head.faultPoint_of_idle (hstate : h.state = .idle) : h.faultPoint = some .none := by
  simp only [Head.faultPoint, hstate]

theorem Head.faultPoint_of_held_or_off (hstate : h.state = .held ∨ h.state = .off) : h.faultPoint = none := by
  rcases hstate with hstate | hstate <;> simp only [Head.faultPoint, hstate]

theorem Head.faultPoint_of_streaming (hstate : h.state = .streaming) (hj : h.inHand = some j) :
    h.faultPoint = some (.midLine j.line j.remaining) := by
  simp only [Head.faultPoint, hstate, hj]

theorem Head.faultPoint_of_lineEnd (hstate : h.state = .lineWait ∨ h.state = .stopped) (hj : h.inHand = some j) :
    h.faultPoint = some (.atLineEnd j.line) := by
  rcases hstate with hstate | hstate <;> simp only [Head.faultPoint, hstate, hj]

/-! ### Recovery (R135, R136) -/

theorem Head.recoverable_eq_none (hstate : (h.state ≠ .held ∧ h.state ≠ .stopped) ∨ h.inHand = none) :
    h.recoverable = none := by
  unfold Head.recoverable
  split
  next hheld => exact hstate.resolve_left fun other => other.1 hheld
  next hstopped => exact hstate.resolve_left fun other => other.2 hstopped
  next => rfl

theorem Head.recoverable_of_job (hstate : h.state = .held ∨ h.state = .stopped) (hj : h.inHand = some j) :
    h.recoverable = some j := by
  rcases hstate with hstate | hstate <;> simp only [Head.recoverable, hstate, hj]

end

end Sys2Proof.Machine
end

section
/-! PROOF. What arrives from a head moves its channel, in each state of it (R130 to R133). -/

namespace Sys2Proof.Machine

section
variable {s : State} {i : Fin 2} {j : JobInHand}

/-! ### The commands -/

theorem exec_characterSent (hp : s.powered = true) :
    exec (.characterSent i) s = .next (s.setHead i s.stencils.heads[i].sendCharacter) :=
  onPower_powered hp fun s => s.setHead i s.stencils.heads[i].sendCharacter

theorem exec_lineAcknowledge (hp : s.powered = true) : exec (.lineAcknowledge i) s = .next (takeAcknowledge i s) :=
  onPower_powered hp (takeAcknowledge i)

theorem exec_ackTimerExpiry (hp : s.powered = true) : exec (.ackTimerExpiry i) s = .next (takeAckExpiry i s) :=
  onPower_powered hp (takeAckExpiry i)

theorem exec_headFault (hp : s.powered = true) : exec (.headFault i) s = .next (takeFault i s) :=
  onPower_powered hp (takeFault i)

/-! ### Acknowledges and expiries (R131, R132) -/

theorem takeAcknowledge_of_not_lineWait (h : s.stencils.heads[i].state ≠ .lineWait) : takeAcknowledge i s = s := by
  unfold takeAcknowledge
  dsimp only
  split
  next hwait _ => exact absurd hwait h
  next => rfl

theorem takeAcknowledge_of_lineWait (h : s.stencils.heads[i].state = .lineWait)
    (hj : s.stencils.heads[i].inHand = some j) : takeAcknowledge i s =
      if j.line + 1 < j.lines.length
      then s.setHead i (s.stencils.heads[i].stream { j with line := j.line + 1, position := 0 })
      else endJob i j s := by
  simp only [takeAcknowledge, h, hj]

theorem takeAcknowledge_next_line (h : s.stencils.heads[i].state = .lineWait)
    (hj : s.stencils.heads[i].inHand = some j) {next : Text} (hnext : j.lines[j.line + 1]? = some next) :
    takeAcknowledge i s = s.setHead i
      (if next = [] then s.stencils.heads[i].endLine { j with line := j.line + 1, position := 0 } []
      else { s.stencils.heads[i] with
        state := .streaming, inHand := some { j with line := j.line + 1, position := 0 }, resume := .none
        ackTimer := none }) := by
  obtain ⟨hinside, -⟩ := List.getElem?_eq_some_iff.mp hnext
  rw [takeAcknowledge_of_lineWait h hj, if_pos hinside, Head.stream_from_start _ hnext rfl]

theorem takeAcknowledge_last_line (h : s.stencils.heads[i].state = .lineWait)
    (hj : s.stencils.heads[i].inHand = some j) (hlast : j.lines[j.line + 1]? = none) :
    takeAcknowledge i s = endJob i j s := by
  rw [takeAcknowledge_of_lineWait h hj, if_neg (Nat.not_lt.mpr (List.getElem?_eq_none_iff.mp hlast))]

/-- The end of a job whose chest has a snapshot (R131). -/
theorem endJob_of_snapshot {c : Snapshot} (hc : j.job.snapshot = some c) : endJob i j s =
    takeNext i (((s.send (.stencilStatus j.job.serial .lineAcknowledged)).notify
      (.stencilDone i j.job.serial j.job.invoice c.chest)).setHead i (s.stencils.heads[i].clear .idle)) := by
  simp only [endJob, hc, Option.map_some, Option.getD_some]
  rfl

theorem takeAckExpiry_of_not_lineWait (h : s.stencils.heads[i].state ≠ .lineWait) : takeAckExpiry i s = s := by
  unfold takeAckExpiry
  dsimp only
  split
  next hwait _ => exact absurd hwait h
  next => rfl

theorem takeAckExpiry_of_lineWait (h : s.stencils.heads[i].state = .lineWait) (hj : s.stencils.heads[i].inHand = some j) :
    takeAckExpiry i s = (s.setHead i { s.stencils.heads[i] with state := .stopped, ackTimer := none }).notify
      (.headStopped i j.job.serial j.job.invoice j.line) := by
  simp only [takeAckExpiry, h, hj]

/-! ### Faults (R133) -/

/-- The channel held by a fault: its place kept, HEAD-HELD offered and the head's event raised (R98, R133). -/
def heldAt (i : Fin 2) (job : Option Job) (p : ResumePoint) (s : State) : State :=
  ((s.setHead i { s.stencils.heads[i] with state := .held, resume := p, ackTimer := none }).notify
    (.headHeld i s.stencils.heads[i].state (job.map (·.serial)) (job.map (·.invoice)) p)).raise (faultSource i)
      ⟨none, job.map (·.invoice), none⟩

theorem takeFault_ignored (h : s.stencils.heads[i].faultPoint = none) : takeFault i s = s := by
  simp only [takeFault, h]

theorem takeFault_held {p : ResumePoint} (h : s.stencils.heads[i].faultPoint = some p) :
    takeFault i s = heldAt i (s.stencils.heads[i].inHand.map (·.job)) p s := by
  simp only [takeFault, h]
  rfl

theorem takeFault_held_job {p : ResumePoint} (h : s.stencils.heads[i].faultPoint = some p)
    (hj : s.stencils.heads[i].inHand = some j) : takeFault i s = heldAt i (some j.job) p s := by
  rw [takeFault_held h, hj, Option.map_some]

end

/-- Settles O41, arrival by arrival: each is without effect in the states that ignore it, and in the others moves the channel
with its job and its current line. -/
theorem headArrivalsMoveTheChannel : Obligations.HeadArrivalsMoveTheChannel := by
  unfold Obligations.HeadArrivalsMoveTheChannel
  intro s i hp h
  refine ⟨fun hstate => ?_, fun hstate => ⟨?_, ?_⟩, fun hstate => ?_, fun hstate => ?_, fun j text hj hline =>
    ⟨fun c hstate hc => ?_, fun hstate next hnext => ?_, fun hstate hlast c hc => ?_, fun hstate => ?_, fun hstate => ?_,
      fun hstate => ?_⟩⟩
  · rw [exec_characterSent hp, Head.sendCharacter_of_not_streaming hstate, State.setHead_self]
  · rw [exec_lineAcknowledge hp, takeAcknowledge_of_not_lineWait hstate]
  · rw [exec_ackTimerExpiry hp, takeAckExpiry_of_not_lineWait hstate]
  · rw [exec_headFault hp, takeFault_ignored (Head.faultPoint_of_held_or_off hstate)]
  · rw [exec_headFault hp, takeFault_held (Head.faultPoint_of_idle hstate), heldAt, hstate, Option.map_map, Option.map_map]
    rfl
  · rw [exec_characterSent hp, Head.sendCharacter_of_streaming hstate hj hline hc]
    rfl
  · rw [exec_lineAcknowledge hp, takeAcknowledge_next_line hstate hj hnext]
    rfl
  · rw [exec_lineAcknowledge hp, takeAcknowledge_last_line hstate hj hlast, endJob_of_snapshot hc]
    rfl
  · rw [exec_ackTimerExpiry hp, takeAckExpiry_of_lineWait hstate hj]
  · rw [exec_headFault hp, takeFault_held_job (Head.faultPoint_of_streaming hstate hj) hj,
      JobInHand.remaining_of_line hline]
    rfl
  · rw [exec_headFault hp, takeFault_held_job (Head.faultPoint_of_lineEnd hstate hj) hj]
    rfl

end Sys2Proof.Machine
end

section
/-! PROOF. The recovery requests act on the head channel as its state gives (R134 to R139). -/

namespace Sys2Proof.Machine

section
variable {s : State} {i : Fin 2} {j : JobInHand}

/-! ### HEAD-RESUME (R134) -/

theorem ownHeadResume_refused (h : s.stencils.heads[i].state ≠ .held) : ownHeadResume i s = .error .state := by
  rw [ownHeadResume, index_fin, ok_bind, require_bind, if_neg (mt beq_iff_eq.mp h)]

/-- A held channel goes on as its resume point and its job say. -/
theorem ownHeadResume_midLine (h : s.stencils.heads[i].state = .held) {line left : Nat}
    (hresume : s.stencils.heads[i].resume = .midLine line left) (hj : s.stencils.heads[i].inHand = some j) :
    ownHeadResume i s = .ok (s.setHead i (s.stencils.heads[i].stream j),
      .ok (.headState (s.stencils.heads[i].stream j).state)) := by
  rw [ownHeadResume, index_fin, ok_bind, require_bind, if_pos (beq_iff_eq.mpr h), hresume, hj]
  rfl

theorem ownHeadResume_atLineEnd (h : s.stencils.heads[i].state = .held) {line : Nat}
    (hresume : s.stencils.heads[i].resume = .atLineEnd line) (hj : s.stencils.heads[i].inHand = some j) :
    ownHeadResume i s = .ok (s.setHead i (s.stencils.heads[i].endLine j []), .ok (.headState .lineWait)) := by
  rw [ownHeadResume, index_fin, ok_bind, require_bind, if_pos (beq_iff_eq.mpr h), hresume, hj]
  rfl

theorem ownHeadResume_no_job (h : s.stencils.heads[i].state = .held) (hj : s.stencils.heads[i].inHand = none) :
    ownHeadResume i s = .ok (takeNext i (s.setHead i (s.stencils.heads[i].clear .idle)), .ok (.headState .idle)) := by
  rw [ownHeadResume, index_fin, ok_bind, require_bind, if_pos (beq_iff_eq.mpr h), hj]
  cases s.stencils.heads[i].resume <;> rfl

/-! ### HEAD-RELINE and HEAD-SKIP (R135, R136) -/

theorem ownHeadReline_refused (h : s.stencils.heads[i].recoverable = none) : ownHeadReline i s = .error .state := by
  rw [ownHeadReline, index_fin, ok_bind]
  dsimp only
  rw [h]
  rfl

theorem ownHeadReline_taken (h : s.stencils.heads[i].recoverable = some j) :
    ownHeadReline i s = .ok (s.setHead i (s.stencils.heads[i].stream { j with position := 0 }), .ok .done) := by
  rw [ownHeadReline, index_fin, ok_bind]
  dsimp only
  rw [h]
  rfl

theorem ownHeadSkip_refused (h : s.stencils.heads[i].recoverable = none) : ownHeadSkip i s = .error .state := by
  rw [ownHeadSkip, index_fin, ok_bind]
  dsimp only
  rw [h]
  rfl

theorem ownHeadSkip_taken (h : s.stencils.heads[i].recoverable = some j) :
    ownHeadSkip i s = .ok (takeNext i ((s.send (.stencilStatus j.job.serial .skipped)).setHead i
      (s.stencils.heads[i].clear .idle)), .ok (.serial j.job.serial)) := by
  rw [ownHeadSkip, index_fin, ok_bind]
  dsimp only
  rw [h]
  rfl

/-! ### HEAD-RESET, HEAD-SET and HEAD-READ (R137 to R139) -/

theorem ownHeadReset_eq (s : State) (i : Fin 2) :
    ownHeadReset i s = .ok (dropJobs i .idle s, .ok (.serials (s.stencils.heads[i].jobs.map (·.serial)))) := by
  rw [ownHeadReset, index_fin, ok_bind, okWith]

theorem ownHeadSet_off (s : State) (i : Fin 2) :
    ownHeadSet i 1 s = .ok (dropJobs i .off s, .ok (.serials (s.stencils.heads[i].jobs.map (·.serial)))) := by
  rw [ownHeadSet, index_fin, ok_bind]
  rfl

theorem ownHeadSet_on (s : State) (i : Fin 2) :
    ownHeadSet i 0 s = .ok (headOn i s, .ok (.headState (headOn i s).stencils.heads[i].state)) := by
  rw [ownHeadSet, index_fin, ok_bind]
  rfl

theorem headOn_of_not_off (h : s.stencils.heads[i].state ≠ .off) : headOn i s = s := if_neg (mt beq_iff_eq.mp h)

theorem headOn_of_off (h : s.stencils.heads[i].state = .off) :
    headOn i s = takeNext i (s.setHead i (s.stencils.heads[i].clear .idle)) := if_pos (beq_iff_eq.mpr h)

/-- With no job queued a channel switched on stays IDLE (R129, R138). -/
theorem headOn_of_empty_queue (h : s.stencils.heads[i].state = .off) (hq : s.stencils.heads[i].queue = []) :
    headOn i s = s.setHead i (s.stencils.heads[i].clear .idle) := by
  rw [headOn_of_off h, takeNext_idle_empty]
  · rw [State.setHead_head]
    rfl
  · rw [State.setHead_head]
    exact hq

theorem Head.report_eq (h : Head) : h.report =
    { state := h.state
      inHand := h.inHand.map fun j => ⟨j.job.serial, j.job.invoice, j.job.template, j.lines.length, j.line, j.position,
        ((j.lines[j.line]?).getD []).length - j.position, j.job.snapshot⟩
      resume := if h.state = .held then h.resume else .none
      ackLeft := if h.state = .lineWait then h.ackTimer.map fun t => 3000 - t else none
      queue := h.queue } := by
  simp only [Head.report, beq_iff_eq]
  rfl

theorem ownHeadRead_eq (s : State) (i : Fin 2) : ownHeadRead i s = .ok (s, .ok (.head s.stencils.heads[i].report)) := by
  rw [ownHeadRead, index_fin, ok_bind, okWith]

end

/-- Settles O42, request by request: refused in the states that refuse it, and otherwise answered with the channel it leaves. -/
theorem headRequestsRecover : Obligations.HeadRequestsRecover := by
  unfold Obligations.HeadRequestsRecover
  intro tag s i hp h free
  refine ⟨fun hstate => onRequest_refused hp (ownHeadResume_refused hstate), fun hstate => ⟨?_, ?_⟩,
    fun hstate hj => onRequest_ok hp (ownHeadResume_no_job hstate hj),
    fun j text hj hline => ⟨fun line left hstate hresume hleft => ?_, fun line hstate hresume => ?_,
      fun hstate => ⟨?_, ?_⟩⟩, ⟨?_, ?_⟩, fun hstate => ?_, fun hstate hqueue => ?_, fun hstate hqueue => ?_, ?_⟩
  · exact onRequest_refused hp (ownHeadReline_refused (Head.recoverable_eq_none hstate))
  · exact onRequest_refused hp (ownHeadSkip_refused (Head.recoverable_eq_none hstate))
  · have unended : h.stream j = { h with state := .streaming, resume := .none, ackTimer := none } := by
      rw [Head.stream_unended, ← hj]
      rw [JobInHand.remaining_of_line hline]
      omega
    exact (onRequest_ok hp (ownHeadResume_midLine hstate hresume hj)).trans (by rw [unended])
  · have ended : h.endLine j [] = { h with
        state := .lineWait, resume := .none, ackTimer := some 0, out := [.endOfLine] } := by
      rw [Head.endLine, ← hj]; rfl
    exact (onRequest_ok hp (ownHeadResume_atLineEnd hstate hresume hj)).trans (by rw [ended])
  · have restarted := Head.stream_from_start (j := { j with position := 0 }) h hline rfl
    exact (onRequest_ok hp (ownHeadReline_taken (Head.recoverable_of_job hstate hj))).trans (by rw [restarted]; rfl)
  · exact onRequest_ok hp (ownHeadSkip_taken (Head.recoverable_of_job hstate hj))
  · exact onRequest_ok hp (ownHeadReset_eq s i)
  · exact onRequest_ok hp (ownHeadSet_off s i)
  · exact onRequest_ok hp ((ownHeadSet_on s i).trans (by rw [headOn_of_not_off hstate]))
  · exact onRequest_ok hp ((ownHeadSet_on s i).trans (by rw [headOn_of_empty_queue hstate hqueue, State.setHead_head]; rfl))
  · exact ⟨_, onRequest_ok hp ((ownHeadSet_on s i).trans (by rw [headOn_of_off hstate]; rfl)), rfl⟩
  · exact onRequest_ok hp ((ownHeadRead_eq s i).trans (by rw [Head.report_eq]))

end Sys2Proof.Machine
end

section
/-! SUPPORT. Templates in bytes (spec/06 6.1, R204): an item, a line and a template are read exactly from their own bytes. -/

namespace Sys2Proof.Machine

/-! ### Items -/

theorem fieldNameOf_code (name : FieldName) : fieldNameOf name.code = some name := by cases name <;> rfl

theorem FieldName.code_bounds (name : FieldName) : 0x81 ≤ name.code ∧ name.code ≤ 0x8B := by
  cases name <;> decide

theorem code_of_fieldNameOf {n : Nat} {name : FieldName} (h : fieldNameOf n = some name) : name.code = n := by
  unfold fieldNameOf at h
  split at h <;> simp only [Option.some.injEq, reduceCtorEq] at h <;> subst h <;> rfl

/-- The checks of a field item, as a statement on its width and its decimals (R116, R204). -/
theorem fieldChecks_iff {name : FieldName} {w a d : Nat} :
    (within 1 32 w && decide (a ≤ 1) && (!name.isWeight || within 1 2 d)) = true ↔
      (1 ≤ w ∧ w ≤ 32) ∧ a ≤ 1 ∧ (name.isWeight = true → 1 ≤ d ∧ d ≤ 2) := by
  cases name.isWeight <;> simp [within_eq_true, and_assoc]

/-- An item read is a valid one, and what was read are its bytes. -/
theorem readItem_sound {bytes rest : List Byte} {item : Item} (h : readItem bytes = some (item, rest)) :
    item.valid ∧ item.bytes ++ rest = bytes := by
  unfold readItem at h
  split at h
  next => contradiction
  next b tail =>
    split at h
    next hliteral =>
      split_ifs at h with hshort hallowed
      obtain ⟨rfl, rfl⟩ := Prod.mk.inj (Option.some.inj h)
      have hlength : (tail.take b.toNat).length = b.toNat := List.length_take_of_le (Nat.le_of_not_lt hshort)
      refine ⟨⟨by omega, by omega, hallowed⟩, ?_⟩
      rw [Item.bytes, hlength, BitVec.ofNat_toNat, BitVec.setWidth_eq, List.cons_append, List.take_append_drop]
    next =>
      split at h
      next name w a tail hname =>
        split at h
        next hchecks =>
          obtain ⟨rfl, rfl⟩ := Prod.mk.inj (Option.some.inj h)
          obtain ⟨⟨hlow, hhigh⟩, halign, hdecimals⟩ := fieldChecks_iff.mp hchecks
          have hbyte := a.isLt
          have hcode : (if (a.toNat % 16 == 1) = true then 1 else 0) + 16 * (a.toNat / 16) = a.toNat := by
            simp only [beq_iff_eq]
            split <;> omega
          refine ⟨⟨hlow, hhigh, by omega, hdecimals⟩, ?_⟩
          simp only [Item.bytes, hcode, code_of_fieldNameOf hname, BitVec.ofNat_toNat, BitVec.setWidth_eq,
            List.cons_append, List.nil_append]
        next => contradiction
      next => contradiction

/-- The bytes of a valid item are read as it. -/
theorem readItem_bytes {item : Item} (h : item.valid) (rest : List Byte) :
    readItem (item.bytes ++ rest) = some (item, rest) := by
  cases item with
  | literal t =>
    obtain ⟨hlow, hhigh, hallowed⟩ := h
    have hlength : (BitVec.ofNat 8 t.length).toNat = t.length := Nat.mod_eq_of_lt (by omega)
    have hinside : ¬ (t ++ rest).length < t.length := by simp
    simp only [Item.bytes, List.cons_append, readItem, hlength, if_pos (And.intro hlow hhigh), if_neg hinside,
      List.take_left, List.drop_left, hallowed, if_true]
  | field name w right decimals =>
    obtain ⟨hlow, hhigh, hnibble, hdecimals⟩ := h
    obtain ⟨hcode, hcode'⟩ := name.code_bounds
    have hname : (BitVec.ofNat 8 name.code).toNat = name.code := Nat.mod_eq_of_lt (by omega)
    have hwidth : (BitVec.ofNat 8 w).toNat = w := Nat.mod_eq_of_lt (by omega)
    have hside : (if right = true then 1 else 0) ≤ 1 := by split <;> decide
    have halign : (BitVec.ofNat 8 ((if right = true then 1 else 0) + 16 * decimals)).toNat =
        (if right = true then 1 else 0) + 16 * decimals := Nat.mod_eq_of_lt (by omega)
    have hright : ((if right = true then 1 else 0) + 16 * decimals) % 16 = if right = true then 1 else 0 := by omega
    have hnumber : ((if right = true then 1 else 0) + 16 * decimals) / 16 = decimals := by omega
    have hflag : ((if right = true then 1 else 0) == 1) = right := by cases right <;> rfl
    have hnot_literal : ¬ (1 ≤ name.code ∧ name.code ≤ 32) := by omega
    simp only [Item.bytes, List.cons_append, List.nil_append, readItem, hname, if_neg hnot_literal, fieldNameOf_code,
      hwidth, halign, hright, hnumber, hflag, if_pos (fieldChecks_iff.mpr ⟨⟨hlow, hhigh⟩, hside, hdecimals⟩)]

theorem readItem_eq_some_iff {bytes rest : List Byte} {item : Item} :
    readItem bytes = some (item, rest) ↔ item.valid ∧ item.bytes ++ rest = bytes :=
  ⟨readItem_sound, fun ⟨hvalid, hbytes⟩ => hbytes ▸ readItem_bytes hvalid rest⟩

/-- A valid item has a character. -/
theorem Item.one_le_width {item : Item} (h : item.valid) : 1 ≤ item.width := by
  cases item with
  | literal t =>
    obtain ⟨hlow, -⟩ := h
    exact hlow
  | field name w right decimals =>
    obtain ⟨hlow, -⟩ := h
    exact hlow

/-! ### Lines -/

theorem lineLength_cons (item : Item) (items : List Item) :
    lineLength (item :: items) = item.width + lineLength items := by
  rw [lineLength, List.map_cons, List.sum_cons, lineLength]

/-- The items of a line read: as many as `fuel` at most, all valid, of the length asked, from their bytes. -/
def ItemsReadFrom (fuel left : Nat) (bytes : List Byte) (items : List Item) (rest : List Byte) : Prop :=
  items.length ≤ fuel ∧ lineLength items = left ∧ (∀ item ∈ items, item.valid) ∧ items.flatMap Item.bytes ++ rest = bytes

theorem itemsReadFrom_nil {fuel left : Nat} {bytes rest : List Byte} :
    ItemsReadFrom fuel left bytes [] rest ↔ left = 0 ∧ rest = bytes := by
  simp [ItemsReadFrom, lineLength, eq_comm]

theorem not_itemsReadFrom_zero_cons {left : Nat} {bytes rest : List Byte} {item : Item} {items : List Item} :
    ¬ ItemsReadFrom 0 left bytes (item :: items) rest := by
  simp [ItemsReadFrom]

theorem itemsReadFrom_succ_cons {fuel left : Nat} {bytes rest : List Byte} {item : Item} {items : List Item} :
    ItemsReadFrom (fuel + 1) left bytes (item :: items) rest ↔
      item.width ≤ left ∧ ∃ tail, readItem bytes = some (item, tail) ∧
        ItemsReadFrom fuel (left - item.width) tail items rest := by
  simp only [ItemsReadFrom, readItem_eq_some_iff, lineLength_cons, List.length_cons, List.forall_mem_cons,
    List.flatMap_cons, List.append_assoc]
  constructor
  · rintro ⟨hcount, hlength, ⟨hvalid, hvalids⟩, hbytes⟩
    exact ⟨by omega, _, ⟨hvalid, hbytes⟩, by omega, by omega, hvalids, rfl⟩
  · rintro ⟨hwidth, tail, ⟨hvalid, hbytes⟩, hcount, hlength, hvalids, rfl⟩
    exact ⟨by omega, by omega, ⟨hvalid, hvalids⟩, hbytes⟩

/-- A line of length 0 has no item. -/
theorem ItemsReadFrom.eq_nil {fuel : Nat} {bytes rest : List Byte} {items : List Item}
    (h : ItemsReadFrom fuel 0 bytes items rest) : items = [] := by
  obtain ⟨-, hlength, hvalid, -⟩ := h
  cases items with
  | nil => rfl
  | cons item items =>
    have hwidth := Item.one_le_width (hvalid item List.mem_cons_self)
    rw [lineLength_cons] at hlength
    omega

theorem readItems_done_eq_some_iff {fuel : Nat} {bytes rest : List Byte} {items : List Item} :
    readItems fuel 0 bytes = some (items, rest) ↔ ItemsReadFrom fuel 0 bytes items rest := by
  have all_read : readItems fuel 0 bytes = some ([], bytes) := by cases fuel <;> rfl
  rw [all_read, Option.some.injEq, Prod.mk.injEq]
  constructor
  · rintro ⟨rfl, rfl⟩
    exact itemsReadFrom_nil.mpr ⟨rfl, rfl⟩
  · intro h
    obtain rfl := h.eq_nil
    obtain ⟨-, rfl⟩ := itemsReadFrom_nil.mp h
    exact ⟨rfl, rfl⟩

/-- With characters left a line is read on by one item and the rest of it. -/
theorem readItems_succ (fuel left : Nat) (bytes : List Byte) : readItems (fuel + 1) (left + 1) bytes =
    (readItem bytes).bind fun x => if left + 1 < x.1.width then none
      else (readItems fuel (left + 1 - x.1.width) x.2).map fun y => (x.1 :: y.1, y.2) := by
  rw [readItems]
  cases readItem bytes with
  | none => rfl
  | some x =>
    dsimp only [Option.bind_some]
    split
    next => rfl
    next => cases readItems fuel (left + 1 - x.1.width) x.2 <;> rfl

theorem readItems_succ_eq_some_iff {fuel left : Nat} {bytes rest : List Byte} {items : List Item} :
    readItems (fuel + 1) (left + 1) bytes = some (items, rest) ↔
      ∃ item more, items = item :: more ∧ item.width ≤ left + 1 ∧ ∃ tail, readItem bytes = some (item, tail) ∧
        readItems fuel (left + 1 - item.width) tail = some (more, rest) := by
  rw [readItems_succ, Option.bind_eq_some_iff]
  simp only [Option.ite_none_left_eq_some, Option.map_eq_some_iff, Nat.not_lt, Prod.exists, Prod.mk.injEq]
  constructor
  · rintro ⟨item, tail, hitem, hwidth, more, _, hmore, rfl, rfl⟩
    exact ⟨item, more, rfl, hwidth, tail, hitem, hmore⟩
  · rintro ⟨item, more, rfl, hwidth, tail, hitem, hmore⟩
    exact ⟨item, tail, hitem, hwidth, more, rest, hmore, rfl, rfl⟩

theorem readItems_eq_some_iff {fuel left : Nat} {bytes rest : List Byte} {items : List Item} :
    readItems fuel left bytes = some (items, rest) ↔ ItemsReadFrom fuel left bytes items rest := by
  induction fuel generalizing left bytes items with
  | zero =>
    cases left with
    | zero => exact readItems_done_eq_some_iff
    | succ left =>
      cases items with
      | nil => simp [readItems, itemsReadFrom_nil]
      | cons item items => simp [readItems, not_itemsReadFrom_zero_cons]
  | succ fuel ih =>
    cases left with
    | zero => exact readItems_done_eq_some_iff
    | succ left =>
      cases items with
      | nil => simp [readItems_succ_eq_some_iff, itemsReadFrom_nil]
      | cons item items => simp [readItems_succ_eq_some_iff, itemsReadFrom_succ_cons, ih]

/-! ### Templates -/

/-- What a line of a valid template satisfies (R115, R116). -/
def lineValid (items : List Item) : Prop := items.length ≤ 8 ∧ lineLength items ≤ 32 ∧ ∀ item ∈ items, item.valid

theorem templateBytes_cons (items : List Item) (t : Template) :
    templateBytes (items :: t) = BitVec.ofNat 8 (lineLength items) :: (items.flatMap Item.bytes ++ templateBytes t) := rfl

/-- A line's length byte and its items are read exactly when they are those of a valid line. -/
theorem lengthByte_and_items_iff {n : Byte} {bytes rest : List Byte} {items : List Item} :
    n.toNat ≤ 32 ∧ readItems 8 n.toNat bytes = some (items, rest) ↔
      lineValid items ∧ BitVec.ofNat 8 (lineLength items) = n ∧ items.flatMap Item.bytes ++ rest = bytes := by
  rw [readItems_eq_some_iff]
  constructor
  · rintro ⟨hshort, hcount, hlength, hvalid, hbytes⟩
    refine ⟨⟨hcount, hlength.trans_le hshort, hvalid⟩, ?_, hbytes⟩
    rw [hlength, BitVec.ofNat_toNat, BitVec.setWidth_eq]
  · rintro ⟨⟨hcount, hshort, hvalid⟩, rfl, hbytes⟩
    have hbyte : (BitVec.ofNat 8 (lineLength items)).toNat = lineLength items := Nat.mod_eq_of_lt (by omega)
    rw [hbyte]
    exact ⟨hshort, hcount, rfl, hvalid, hbytes⟩

theorem readLines_succ (fuel : Nat) (n : Byte) (bytes : List Byte) : readLines (fuel + 1) (n :: bytes) =
    if 32 < n.toNat then none
    else (readItems 8 n.toNat bytes).bind fun x => (readLines fuel x.2).map (x.1 :: ·) := by
  rw [readLines]
  split
  next => rfl
  next => cases readItems 8 n.toNat bytes <;> rfl

theorem readLines_succ_eq_some_iff {fuel : Nat} {n : Byte} {bytes : List Byte} {t : Template} :
    readLines (fuel + 1) (n :: bytes) = some t ↔ ∃ items more, t = items :: more ∧ ∃ rest,
      (n.toNat ≤ 32 ∧ readItems 8 n.toNat bytes = some (items, rest)) ∧ readLines fuel rest = some more := by
  rw [readLines_succ, Option.ite_none_left_eq_some, Option.bind_eq_some_iff]
  simp only [Option.map_eq_some_iff, Nat.not_lt, Prod.exists]
  constructor
  · rintro ⟨hshort, items, rest, hitems, more, hmore, rfl⟩
    exact ⟨items, more, rfl, rest, ⟨hshort, hitems⟩, hmore⟩
  · rintro ⟨items, more, rfl, rest, ⟨hshort, hitems⟩, hmore⟩
    exact ⟨hshort, items, rest, hitems, more, hmore, rfl⟩

/-- The bytes end exactly when the template has no line more. -/
theorem readLines_nil_eq_some_iff {fuel : Nat} {t : Template} :
    readLines fuel [] = some t ↔ t.length ≤ fuel ∧ (∀ line ∈ t, lineValid line) ∧ templateBytes t = [] := by
  have all_read : readLines fuel [] = some [] := by cases fuel <;> rfl
  rw [all_read, Option.some.injEq]
  cases t with
  | nil => simp [templateBytes]
  | cons items more => simp [templateBytes_cons]

theorem readLines_eq_some_iff {fuel : Nat} {bytes : List Byte} {t : Template} :
    readLines fuel bytes = some t ↔ t.length ≤ fuel ∧ (∀ line ∈ t, lineValid line) ∧ templateBytes t = bytes := by
  induction fuel generalizing bytes t with
  | zero =>
    cases bytes with
    | nil => exact readLines_nil_eq_some_iff
    | cons n bytes => cases t <;> simp [readLines, templateBytes]
  | succ fuel ih =>
    cases bytes with
    | nil => exact readLines_nil_eq_some_iff
    | cons n bytes =>
      simp only [readLines_succ_eq_some_iff, lengthByte_and_items_iff, ih]
      cases t with
      | nil => simp [templateBytes]
      | cons items more =>
        simp only [templateBytes_cons, List.cons.injEq, List.forall_mem_cons, List.length_cons, Nat.add_le_add_iff_right]
        constructor
        · rintro ⟨_, _, ⟨rfl, rfl⟩, rest, ⟨hline, hlength, hbytes⟩, hcount, hlines, rfl⟩
          exact ⟨hcount, ⟨hline, hlines⟩, hlength, hbytes⟩
        · rintro ⟨hcount, ⟨hline, hlines⟩, hlength, hbytes⟩
          exact ⟨items, more, ⟨rfl, rfl⟩, _, ⟨hline, hlength, hbytes⟩, hcount, hlines, rfl⟩

/-- The bytes of a template are those of valid ones alone (R116, R204). -/
theorem readTemplate_eq_some_iff {bytes : List Byte} {t : Template} :
    readTemplate bytes = some t ↔ templateValid t ∧ templateBytes t = bytes := by
  rw [readTemplate, readLines_eq_some_iff, templateValid, and_assoc]
  rfl

end Sys2Proof.Machine
end

section
/-! SUPPORT. The composition of a line (spec/06 6.2): widths, decimal digits, weights and dates. -/

namespace Sys2Proof.Machine

/-! ### Texts in their widths (R118, R119) -/

theorem length_align {width : Nat} (right : Bool) {t : Text} (h : t.length ≤ width) :
    (align width right t).length = width := by
  cases right <;> simp [align, spaces] <;> omega

theorem length_showNumber (width : Nat) (right : Bool) (t : Text) : (showNumber width right t).length = width := by
  unfold showNumber
  split
  next => exact List.length_replicate
  next hfits => exact length_align right (Nat.le_of_not_lt hfits)

theorem length_showText (width : Nat) (right : Bool) (t : Text) : (showText width right t).length = width :=
  length_align right (List.length_take_le width t)

theorem showNumber_too_wide {width : Nat} {t : Text} (right : Bool) (h : width < t.length) :
    showNumber width right t = .replicate width 0x23 := if_pos h

theorem showNumber_fits {width : Nat} {t : Text} (right : Bool) (h : t.length ≤ width) :
    showNumber width right t = align width right t := if_neg (Nat.not_lt.mpr h)

theorem showText_fits {width : Nat} {t : Text} (right : Bool) (h : t.length ≤ width) :
    showText width right t = align width right t := by
  rw [showText, List.take_of_length_le h]

/-- A text too wide is cut to its width, with nothing to pad. -/
theorem showText_too_wide {width : Nat} {t : Text} (right : Bool) (h : width < t.length) :
    showText width right t = t.take width := by
  have hcut : (t.take width).length = width := List.length_take_of_le (Nat.le_of_lt h)
  rw [showText, align, hcut, Nat.sub_self]
  cases right <;> simp [spaces]

/-- The spaces that end a text are taken off, and no other character. -/
theorem trimRight_append_spaces {t : Text} (h : t.getLast? ≠ some 0x20) (k : Nat) :
    trimRight (t ++ .replicate k 0x20) = t := by
  have spaces_dropped : (List.replicate k (0x20 : Byte) ++ t.reverse).dropWhile (· == 0x20) =
      t.reverse.dropWhile (· == 0x20) := List.dropWhile_append_of_pos (by simp)
  have kept : t.reverse.dropWhile (· == 0x20) = t.reverse := by
    cases hr : t.reverse with
    | nil => rfl
    | cons a l =>
      have hlast : t.getLast? = some a := by rw [← List.head?_reverse, hr, List.head?_cons]
      refine List.dropWhile_cons_of_neg fun ha => h ?_
      rw [hlast, beq_iff_eq.mp ha]
  rw [trimRight, List.reverse_append, List.reverse_replicate, spaces_dropped, kept, List.reverse_reverse]

/-! ### Lines (R118) -/

theorem length_fieldText (r : InvoiceRecord) (c : Snapshot) (name : FieldName) (width : Nat) (right : Bool)
    (decimals : Nat) : (fieldText r c name width right decimals).length = width := by
  cases name with
  | garden | grade => exact length_showText ..
  | lot =>
    unfold fieldText
    dsimp only
    split
    next => exact length_showNumber ..
    next => exact List.length_replicate
  | _ => exact length_showNumber ..

theorem composeLine_cons (r : InvoiceRecord) (c : Snapshot) (item : Item) (rest : List Item) :
    composeLine r c (item :: rest) = itemText r c item ++ composeLine r c rest := rfl

theorem length_composeLine (r : InvoiceRecord) (c : Snapshot) (items : List Item) :
    (composeLine r c items).length = lineLength items := by
  induction items with
  | nil => rfl
  | cons item rest ih =>
    have hitem : (itemText r c item).length = item.width := by
      cases item with
      | literal t => rfl
      | field name width right decimals => exact length_fieldText ..
    rw [composeLine_cons, List.length_append, hitem, ih, lineLength_cons]

theorem fieldText_lot_bound {r : InvoiceRecord} {lot : Nat} (h : r.lot = .bound lot) (c : Snapshot) (width : Nat)
    (right : Bool) (decimals : Nat) :
    fieldText r c .lot width right decimals = showNumber width right (decimal lot) := by
  simp only [fieldText, h]

theorem fieldText_lot_none {r : InvoiceRecord} (h : ∀ lot, r.lot ≠ .bound lot) (c : Snapshot) (width : Nat)
    (right : Bool) (decimals : Nat) : fieldText r c .lot width right decimals = spaces width := by
  unfold fieldText
  dsimp only
  split
  next lot hlot => exact absurd hlot (h lot)
  next => rfl

/-! ### Decimal digits (R120) -/

theorem digit_toNat (n : Nat) : (digit n).toNat = 48 + n % 10 := Nat.mod_eq_of_lt (by omega)

theorem digit_is_decimal (n : Nat) : 48 ≤ (digit n).toNat ∧ (digit n).toNat ≤ 57 := by
  rw [digit_toNat]
  omega

theorem digit_ne_zero_char {n : Nat} (h : n % 10 ≠ 0) : digit n ≠ 0x30 := by
  intro e
  have hvalue := congrArg BitVec.toNat e
  rw [digit_toNat] at hvalue
  exact h (Nat.add_left_cancel hvalue)

/-- The number that a text of decimal digits says. -/
def decimalValue (t : Text) : Nat := t.foldl (fun v b => 10 * v + (b.toNat - 48)) 0

theorem decimalValue_append_digit (t : Text) (n : Nat) :
    decimalValue (t ++ [digit n]) = 10 * decimalValue t + n % 10 := by
  rw [decimalValue, List.foldl_concat, digit_toNat, Nat.add_sub_cancel_left, decimalValue]

/-- All digits of a number but its last one. -/
theorem div_ten_lt_pow {fuel n : Nat} (h : n < 10 ^ (fuel + 1)) : n / 10 < 10 ^ fuel :=
  Nat.div_lt_of_lt_mul (by rwa [Nat.pow_succ'] at h)

theorem decimalValue_digitsUpTo {fuel n : Nat} (h : n < 10 ^ fuel) : decimalValue (digitsUpTo fuel n) = n := by
  induction fuel generalizing n with
  | zero =>
    obtain rfl := Nat.lt_one_iff.mp h
    rfl
  | succ fuel ih =>
    rw [digitsUpTo]
    split
    next hone =>
      have value := decimalValue_append_digit [] n
      rw [Nat.mod_eq_of_lt hone] at value
      exact value.trans (Nat.zero_add n)
    next =>
      rw [decimalValue_append_digit, ih (div_ten_lt_pow h)]
      omega

theorem digitsUpTo_are_decimal (fuel n : Nat) : ∀ b ∈ digitsUpTo fuel n, 48 ≤ b.toNat ∧ b.toNat ≤ 57 := by
  induction fuel generalizing n with
  | zero => exact fun b hb => absurd hb List.not_mem_nil
  | succ fuel ih =>
    intro b hb
    rw [digitsUpTo] at hb
    split at hb
    next =>
      obtain rfl := List.mem_singleton.mp hb
      exact digit_is_decimal n
    next =>
      rcases List.mem_append.mp hb with hb | hb
      · exact ih _ b hb
      · obtain rfl := List.mem_singleton.mp hb
        exact digit_is_decimal n

theorem digitsUpTo_succ_ne_nil (fuel n : Nat) : digitsUpTo (fuel + 1) n ≠ [] := by
  rw [digitsUpTo]
  split <;> simp

/-- A number but 0 is shown without leading zeros. -/
theorem digitsUpTo_head {fuel n : Nat} (h : n < 10 ^ fuel) (hn : n ≠ 0) : (digitsUpTo fuel n).head? ≠ some 0x30 := by
  induction fuel generalizing n with
  | zero => exact absurd (Nat.lt_one_iff.mp h) hn
  | succ fuel ih =>
    rw [digitsUpTo]
    split
    next hone =>
      rw [List.head?_cons, ne_eq, Option.some.injEq]
      exact digit_ne_zero_char (by omega)
    next hmore =>
      have front := ih (n := n / 10) (div_ten_lt_pow h) (by omega)
      cases fuel with
      | zero => exact absurd h (by omega)
      | succ fuel => rwa [List.head?_append_of_ne_nil _ (digitsUpTo_succ_ne_nil fuel _)]

/-! ### Weights and dates (R121, R122) -/

/-- The rounded quotient of a signed number lies within half of `m` of the exact one, and of two nearest it is the one
farther from 0 (spec/00 3.3). -/
theorem roundDiv_nearest (w : Int) {m : Nat} (hm : 0 < m) :
    2 * (w - m * roundDiv w m).natAbs ≤ m ∧
      (2 * (w - m * roundDiv w m).natAbs = m → w.natAbs < (m * roundDiv w m).natAbs) := by
  have hbounds := roundNat_bounds w.natAbs hm
  have hproduct : (m : Int) * roundDiv w m =
      if w < 0 then -((m * roundNat w.natAbs m : Nat) : Int) else ((m * roundNat w.natAbs m : Nat) : Int) := by
    unfold roundDiv
    split <;> simp
  rw [hproduct]
  split <;> omega

/-- The minus sign of a figure below zero, and nothing before any other. -/
def signText (z : Int) : Text := if z < 0 then [0x2D] else []

theorem weightText_hundredths (w : Int) : weightText 2 w =
    signText (roundDiv w 10) ++ decimal ((roundDiv w 10).natAbs / 100) ++
      [0x2E, digit ((roundDiv w 10).natAbs / 10), digit (roundDiv w 10).natAbs] :=
  List.append_assoc ..

theorem weightText_tenths (w : Int) : weightText 1 w =
    signText (roundDiv w 100) ++ decimal ((roundDiv w 100).natAbs / 10) ++ [0x2E, digit (roundDiv w 100).natAbs] :=
  List.append_assoc ..

theorem dateText_eq (d : Date) : dateText d =
    [digit (d.day / 10), digit d.day, 0x2F, digit (d.month / 10), digit d.month, 0x2F, digit (d.year / 1000),
      digit (d.year / 100), digit (d.year / 10), digit d.year] := by
  have hundreds : d.year / 10 / 10 = d.year / 100 := Nat.div_div_eq_div_mul ..
  have thousands : d.year / 100 / 10 = d.year / 1000 := Nat.div_div_eq_div_mul ..
  simp only [dateText, paddedDigits, hundreds, thousands, List.cons_append, List.nil_append]

end Sys2Proof.Machine
end

section
/-! PROOF. Templates are read, replaced and reported, and lines composed from them (R115 to R122, R204). -/

namespace Sys2Proof.Machine

section
variable {s : State} {t : Fin 8} {bytes : List Byte}

theorem ownTemplateLoad_taken {c : Template} (hlength : bytes.length ≤ 246) (hc : readTemplate bytes = some c) :
    ownTemplateLoad t bytes s =
      .ok ({ s with stencils := { s.stencils with templates := s.stencils.templates.set t c } },
        .ok (.templateLoaded t (c.map lineLength))) := by
  rw [ownTemplateLoad, require_bind, if_pos (decide_eq_true hlength), index_fin, ok_bind, hc]
  rfl

theorem ownTemplateLoad_refused (hlength : bytes.length ≤ 246) (hnone : readTemplate bytes = none) :
    ownTemplateLoad t bytes s = .error .range := by
  rw [ownTemplateLoad, require_bind, if_pos (decide_eq_true hlength), index_fin, ok_bind, hnone]
  rfl

theorem ownTemplateLoad_out_of_range {n : Nat} (hlength : bytes.length ≤ 246) (hn : 7 < n) :
    ownTemplateLoad n bytes s = .error .range := by
  rw [ownTemplateLoad, require_bind, if_pos (decide_eq_true hlength)]
  exact bind_of_error _ (index_out_of_range 8 n hn)

theorem ownTemplateRead_eq : ownTemplateRead t s = .ok (s, .ok (.template s.stencils.templates[t])) := by
  rw [ownTemplateRead, index_fin, ok_bind, okWith]

/-- Bytes that are those of no valid template are read as none. -/
theorem readTemplate_eq_none (h : ∀ c, templateValid c → templateBytes c ≠ bytes) : readTemplate bytes = none := by
  refine Option.eq_none_iff_forall_ne_some.mpr fun c hc => ?_
  obtain ⟨hvalid, hbytes⟩ := readTemplate_eq_some_iff.mp hc
  exact h c hvalid hbytes

end

/-- Settles O39: the reader against the bytes of valid templates, then the composition from its widths, digits, weights and
dates. -/
theorem templatesAreReadAndComposed : Obligations.TemplatesAreReadAndComposed := by
  unfold Obligations.TemplatesAreReadAndComposed
  refine ⟨⟨fun bytes c => readTemplate_eq_some_iff, fun tag s t hp => ⟨fun c hvalid hlength => ?_,
      fun bytes hlength hnone => ?_, fun n bytes hn hlength => ?_, onRequest_ok hp ownTemplateRead_eq⟩⟩,
    ⟨length_composeLine, fun r c rest => ⟨rfl, fun _ => rfl, fun _ _ _ _ => rfl⟩, fun width t right =>
      ⟨showNumber_too_wide right, fun hfits => ?_, showText_too_wide right⟩, fun r c width right decimals =>
      ⟨rfl, rfl, rfl, rfl, rfl, rfl, fun lot hlot => fieldText_lot_bound hlot .., fun hlot => fieldText_lot_none hlot ..,
        rfl, fun t k ht => ⟨fun hgarden => ?_, fun hgrade => ?_⟩, fun _ _ _ => ?_⟩⟩,
    fun n hn => ⟨decimalValue_digitsUpTo hn, digitsUpTo_are_decimal 16 n, digitsUpTo_succ_ne_nil 15 n, digitsUpTo_head hn,
      rfl⟩,
    fun w => ⟨⟨roundDiv w 10, weightText_hundredths w, roundDiv_nearest w (by decide)⟩,
      ⟨roundDiv w 100, weightText_tenths w, roundDiv_nearest w (by decide)⟩⟩⟩
  · exact onRequest_ok hp (ownTemplateLoad_taken hlength (readTemplate_eq_some_iff.mpr ⟨hvalid, rfl⟩))
  · exact onRequest_refused hp (ownTemplateLoad_refused hlength (readTemplate_eq_none hnone))
  · exact onRequest_refused hp (ownTemplateLoad_out_of_range hlength hn)
  · rw [showNumber_fits right hfits, showText_fits right hfits]
    exact ⟨rfl, rfl⟩
  · rw [fieldText, hgarden, trimRight_append_spaces ht]
  · rw [fieldText, hgrade, trimRight_append_spaces ht]
  · exact congrArg (showNumber width right) (dateText_eq r.date)

end Sys2Proof.Machine
end

section
/-! SUPPORT. The record store (spec/07 7.3, 7.4): the build line's front sheet and what becomes of it, and the place where space
is reserved. -/

namespace Sys2Proof.Machine

section
variable {t : Store} {h : Sheet} {front back : List Sheet}

/-! ### The build line -/

/-- With no sheet reserved nothing is built. -/
theorem Store.building_none (hall : ∀ k ∈ t.sheets, k.written = true) : t.building = none := by
  simpa [Store.building, List.find?_eq_none] using hall

/-- The front of the build line is the first sheet not written (R149). -/
theorem Store.building_front (e : t.sheets = front ++ h :: back) (hfront : ∀ k ∈ front, k.written = true)
    (hh : h.written = false) : t.building = some h :=
  List.find?_eq_some_iff_append.mpr ⟨by simp [hh], front, back, e, by simpa using hfront⟩

theorem Store.building_unwritten (hb : t.building = some h) : h.written = false := by
  simpa using List.find?_some hb

/-- The sheet being built stands behind written ones, and with invoice numbers that differ no other is of its number. -/
theorem Store.building_split (hnumbers : (t.sheets.map fun k => k.invoice).Nodup) (hb : t.building = some h) :
    ∃ front back, t.sheets = front ++ h :: back ∧ (∀ k ∈ front, k.written = true) ∧ h.written = false ∧
      ∀ k ∈ back, k.invoice ≠ h.invoice := by
  obtain ⟨-, front, back, e, hfront⟩ := List.find?_eq_some_iff_append.mp hb
  rw [e, List.map_append, List.map_cons] at hnumbers
  have hback := (List.nodup_cons.mp (List.nodup_append.mp hnumbers).2.1).1
  exact ⟨front, back, e, by simpa using hfront, Store.building_unwritten hb,
    fun k hk same => hback (List.mem_map.mpr ⟨k, hk, same⟩)⟩

/-- An update of the reserved sheet of a number leaves the written ones and those of other numbers. -/
theorem map_updateReserved_of_other {l : List Sheet} {n : Nat} {f : Sheet → Sheet}
    (hl : ∀ k ∈ l, k.written = true ∨ k.invoice ≠ n) :
    l.map (fun k => if k.invoice == n && !k.written then f k else k) = l :=
  (List.map_congr_left fun k hk => if_neg (by rcases hl k hk with e | e <;> simp [e])).trans (List.map_id' l)

/-- An update of the sheet being built changes that sheet alone. -/
theorem Store.updateReserved_front (e : t.sheets = front ++ h :: back) (hfront : ∀ k ∈ front, k.written = true)
    (hh : h.written = false) (hback : ∀ k ∈ back, k.invoice ≠ h.invoice) (f : Sheet → Sheet) :
    t.updateReserved h.invoice f = { t with sheets := front ++ f h :: back } := by
  have hupdates : (h.invoice == h.invoice && !h.written) = true := by simp [hh]
  rw [Store.updateReserved, e, List.map_append, List.map_cons, if_pos hupdates,
    map_updateReserved_of_other fun k hk => .inl (hfront k hk), map_updateReserved_of_other fun k hk => .inr (hback k hk)]

/-! ### The place of a sheet (R148) -/

theorem Store.inUse_iff {page : Nat} : t.inUse page = true ↔ ∃ k ∈ t.sheets, k.page = page := by
  simp [Store.inUse]

theorem nextPage_eq {p : Nat} (hp : p < 24) : nextPage p = (p + 1) % 24 := by
  unfold nextPage Config.storePages
  split <;> omega

theorem Store.place_here {z : Nat} (hfits : t.freeSlot + z ≤ 32) : t.place z = some (t.freePage, t.freeSlot) :=
  if_pos hfits

theorem Store.place_next {z : Nat} (hfull : 32 < t.freeSlot + z) (hnext : ∀ k ∈ t.sheets, k.page ≠ nextPage t.freePage) :
    t.place z = some (nextPage t.freePage, 0) :=
  (if_neg (Nat.not_le.mpr hfull)).trans (if_neg (by simpa [Store.inUse_iff] using hnext))

theorem Store.place_none {z : Nat} (hfull : 32 < t.freeSlot + z) (hnext : ∃ k ∈ t.sheets, k.page = nextPage t.freePage) :
    t.place z = none :=
  (if_neg (Nat.not_le.mpr hfull)).trans (if_pos (Store.inUse_iff.mpr hnext))

/-- Space lies at the free point where it fits there, or at the start of the next page with no sheet on it. -/
theorem Store.place_cases {z page slot : Nat} (hplace : t.place z = some (page, slot)) :
    (page = t.freePage ∧ slot = t.freeSlot ∧ t.freeSlot + z ≤ 32) ∨
      (page = nextPage t.freePage ∧ slot = 0 ∧ ∀ k ∈ t.sheets, k.page ≠ page) := by
  unfold Store.place at hplace
  split at hplace
  · rename_i hfits
    obtain ⟨rfl, rfl⟩ := Prod.mk.inj (Option.some.inj hplace)
    exact .inl ⟨rfl, rfl, hfits⟩
  · split at hplace
    · contradiction
    · rename_i hfree
      obtain ⟨rfl, rfl⟩ := Prod.mk.inj (Option.some.inj hplace)
      exact .inr ⟨rfl, rfl, fun k hk e => hfree (Store.inUse_iff.mpr ⟨k, hk, e⟩)⟩

/-- The store with space for the sheet of an invoice reserved at a place (R148). -/
def Store.reserveAt (t : Store) (invoice chests page slot : Nat) : Store :=
  { t with
    sheets := t.sheets ++ [⟨invoice, chests, page, slot, sheetSlots chests, false, none, []⟩]
    freePage := page, freeSlot := slot + sheetSlots chests }

theorem Store.reserve_of_place {n chests page slot : Nat} (hplace : t.place (sheetSlots chests) = some (page, slot)) :
    t.reserve n chests = some (t.reserveAt n chests page slot) := by
  rw [Store.reserve, hplace]
  rfl

theorem Store.reserve_of_full {n chests : Nat} (hplace : t.place (sheetSlots chests) = none) : t.reserve n chests = none := by
  rw [Store.reserve, hplace]
  rfl

theorem Store.reserve_some {n chests : Nat} {u : Store} (hu : t.reserve n chests = some u) :
    ∃ page slot, t.place (sheetSlots chests) = some (page, slot) ∧ u = t.reserveAt n chests page slot := by
  obtain ⟨⟨page, slot⟩, hplace, rfl⟩ := Option.map_eq_some_iff.mp hu
  exact ⟨page, slot, hplace, rfl⟩

theorem sheetSlots_eq (n : Nat) : sheetSlots n = 3 + (n + 7) / 8 := rfl

end

end Sys2Proof.Machine
end

section
/-! SUPPORT. A sound record store (R146, R147, R152): its shape, what reserving, building and releasing must keep of it, and the
states of the invoices with a written sheet. -/

namespace Sys2Proof.Machine

/-! ### The shape of the store -/

/-- What soundness says of the store alone. -/
structure StoreShape (t : Store) : Prop where
  whole : ∀ h ∈ t.sheets, h.page < 24 ∧ h.first + h.slots ≤ 32 ∧ h.slots = sheetSlots h.chests
  free : t.freePage < 24 ∧ t.freeSlot ≤ 32
  apart : t.sheets.Pairwise fun a b => a.page = b.page → a.first + a.slots ≤ b.first
  clear : ∀ h ∈ t.sheets, h.page = t.freePage → h.first + h.slots ≤ t.freeSlot
  order : t.sheets.Pairwise fun a b => b.written = true → a.written = true
  numbers : (t.waiting ++ t.sheets.map (·.invoice)).Nodup

/-- What soundness says of the store and the invoice table together: an invoice with a written sheet is SHEETED. -/
def WrittenSheeted (t : Store) (i : InvoiceTable) : Prop :=
  ∀ h ∈ t.sheets, h.written = true → ∀ v ∈ i.invoices, v.record.number = h.invoice → v.record.state = .sheeted

theorem storeSound_iff {s : State} : StoreSound s ↔ StoreShape s.store ∧ WrittenSheeted s.store s.invoices :=
  ⟨fun h => ⟨⟨h.whole, h.free, h.apart, h.clear, h.order, h.numbers⟩, h.sheeted⟩,
    fun ⟨h, k⟩ => ⟨h.whole, h.free, h.apart, h.clear, h.order, h.numbers, k⟩⟩

section
variable {t : Store} {h k : Sheet} {front back : List Sheet}

/-- No invoice number stands twice among the stored sheets. -/
theorem StoreShape.sheet_numbers (hs : StoreShape t) : (t.sheets.map fun h => h.invoice).Nodup :=
  (List.nodup_append.mp hs.numbers).2.1

/-- Fewer invoices wait. -/
theorem StoreShape.fewer_waiting {l : List Nat} (hs : StoreShape t) (hl : l.Sublist t.waiting) :
    StoreShape { t with waiting := l } :=
  { hs with numbers := hs.numbers.sublist (hl.append (.refl _)) }

/-- An invoice of no stored sheet joins the waiting line (R149). -/
theorem StoreShape.join_waiting {n : Nat} (hs : StoreShape t) (hwaiting : n ∉ t.waiting)
    (hsheets : ∀ h ∈ t.sheets, h.invoice ≠ n) : StoreShape { t with waiting := t.waiting ++ [n] } := by
  have joined : (t.waiting ++ [n] ++ t.sheets.map (·.invoice)).Perm (n :: (t.waiting ++ t.sheets.map (·.invoice))) := by
    simp [List.perm_middle]
  refine { hs with numbers := joined.nodup_iff.mpr (List.nodup_cons.mpr ⟨?_, hs.numbers⟩) }
  simpa [hwaiting] using hsheets

/-- Windows do not bear on the shape. -/
theorem StoreShape.set_windows (hs : StoreShape t) (w : Vector Window 4) : StoreShape { t with windows := w } := { hs with }

theorem nextPage_lt (p : Nat) : nextPage p < 24 := by
  unfold nextPage Config.storePages
  split <;> omega

/-- A sheet of an invoice that has none and does not wait is reserved at its place (R147, R148). -/
theorem StoreShape.reserve {n chests page slot : Nat} (hs : StoreShape t)
    (hplace : t.place (sheetSlots chests) = some (page, slot)) (hchests : chests ≤ 120) (hwaiting : n ∉ t.waiting)
    (hsheets : ∀ h ∈ t.sheets, h.invoice ≠ n) : StoreShape (t.reserveAt n chests page slot) := by
  have hfits : page < 24 ∧ slot + sheetSlots chests ≤ 32 := by
    rcases Store.place_cases hplace with ⟨rfl, rfl, hfits⟩ | ⟨rfl, rfl, -⟩
    · exact ⟨hs.free.1, hfits⟩
    · rw [sheetSlots_eq]
      exact ⟨nextPage_lt _, by omega⟩
  have behind : ∀ h ∈ t.sheets, h.page = page → h.first + h.slots ≤ slot := by
    rcases Store.place_cases hplace with ⟨rfl, rfl, -⟩ | ⟨-, -, hfree⟩
    · exact hs.clear
    · exact fun h hh e => absurd e (hfree h hh)
  unfold Store.reserveAt
  constructor
  case whole => exact List.forall_mem_append.mpr ⟨hs.whole, by simpa using hfits⟩
  case free => exact hfits
  case apart => exact List.pairwise_append.mpr ⟨hs.apart, List.pairwise_singleton _ _, by simpa using behind⟩
  case clear =>
    refine List.forall_mem_append.mpr ⟨fun h hh e => (behind h hh e).trans (Nat.le_add_right _ _), by simp⟩
  case order => exact List.pairwise_append.mpr ⟨hs.order, List.pairwise_singleton _ _, by simp⟩
  case numbers =>
    rw [List.map_append, ← List.append_assoc, List.map_singleton]
    refine List.concat_eq_append ▸ hs.numbers.concat ?_
    simpa [hwaiting] using hsheets

/-- A sheet in the place of another, with the place and the number it has, and written where it may be. -/
theorem StoreShape.replace (hs : StoreShape t) (e : t.sheets = front ++ h :: back)
    (hplace : (k.invoice, k.chests, k.page, k.first, k.slots) = (h.invoice, h.chests, h.page, h.first, h.slots))
    (hfront : k.written = true → ∀ g ∈ front, g.written = true) (hwritten : h.written = true → k.written = true) :
    StoreShape { t with sheets := front ++ k :: back } := by
  obtain ⟨hinvoice, hchests, hpage, hfirst, hslots⟩ : k.invoice = h.invoice ∧ k.chests = h.chests ∧ k.page = h.page ∧
    k.first = h.first ∧ k.slots = h.slots := by simpa using hplace
  obtain ⟨whole, free, apart, clear, order, numbers⟩ := hs
  rw [e] at whole apart clear order numbers
  constructor
  case free => exact free
  case whole =>
    simpa only [List.forall_mem_append, List.forall_mem_cons, hchests, hpage, hfirst, hslots] using whole
  case apart => simpa [List.pairwise_append, hpage, hfirst, hslots] using apart
  case clear => simpa only [List.forall_mem_append, List.forall_mem_cons, hpage, hfirst, hslots] using clear
  case numbers => simpa [hinvoice] using numbers
  case order =>
    obtain ⟨inFront, inBack, across⟩ := List.pairwise_append.mp order
    obtain ⟨behind, inBack⟩ := List.pairwise_cons.mp inBack
    refine List.pairwise_append.mpr ⟨inFront, List.pairwise_cons.mpr ⟨fun b hb w => hwritten (behind b hb w), inBack⟩, ?_⟩
    exact fun a ha => List.forall_mem_cons.mpr
      ⟨fun w => hfront w a ha, fun b hb => across a ha b (List.mem_cons_of_mem _ hb)⟩

/-- Sheets leave the store (R158). -/
theorem StoreShape.filter (hs : StoreShape t) (p : Sheet → Bool) : StoreShape { t with sheets := t.sheets.filter p } where
  whole h hh := hs.whole h (List.mem_of_mem_filter hh)
  free := hs.free
  apart := hs.apart.sublist List.filter_sublist
  clear h hh := hs.clear h (List.mem_of_mem_filter hh)
  order := hs.order.sublist List.filter_sublist
  numbers := hs.numbers.sublist ((List.Sublist.refl _).append (List.filter_sublist.map _))

/-- At a warm restart the free point goes back to where the earliest reserved sheet began, behind every written one on its page
(R162). -/
theorem StoreShape.warm (hs : StoreShape t) (m : Image) : StoreShape (t.warm m) := by
  have kept : StoreShape { t with sheets := t.sheets.filter fun h => h.written, waiting := [] } :=
    (hs.filter _).fewer_waiting (List.nil_sublist _)
  cases hb : t.building with
  | none =>
    rw [Store.warm, hb]
    exact kept.set_windows _
  | some h =>
    obtain ⟨front, back, e, -, hh, -⟩ := Store.building_split hs.sheet_numbers hb
    obtain ⟨hpage, hfits, -⟩ := hs.whole h (by simp [e])
    have behind : ∀ g ∈ t.sheets, g.written = true → g.page = h.page → g.first + g.slots ≤ h.first := by
      intro g hg hwritten hsame
      have order := hs.order
      have apart := hs.apart
      rw [e] at hg order apart
      rcases List.mem_append.mp hg with hg | hg
      · exact (List.pairwise_append.mp apart).2.2 g hg h (by simp) hsame
      · rcases List.mem_cons.mp hg with rfl | hg
        · simp [hh] at hwritten
        · have := (List.pairwise_cons.mp (List.pairwise_append.mp order).2.1).1 g hg hwritten
          simp [hh] at this
    rw [Store.warm, hb]
    refine { kept with free := ⟨hpage, (Nat.le_add_right _ _).trans hfits⟩, clear := fun g hg => ?_ }
    obtain ⟨hg, hwritten⟩ := List.mem_filter.mp hg
    exact behind g hg hwritten

theorem StoreShape.start (m : Image) : StoreShape (Store.start m) := by
  constructor <;> simp [Store.start]

end

end Sys2Proof.Machine
end

section
/-! SUPPORT. What the record store rests on in the invoice table: the state of an invoice with a written sheet and the length of
its chest list, and that the operations of the table and of the heads keep both. -/

namespace Sys2Proof.Machine

/-! ### Invoices that follow -/

/-- Every invoice of a number was in the table before, and is SHEETED if it was. -/
def StatesFollow (t u : InvoiceTable) : Prop :=
  ∀ w ∈ u.invoices, ∃ v ∈ t.invoices, v.record.number = w.record.number ∧
    (v.record.state = .sheeted → w.record.state = .sheeted)

/-- The states follow, and no chest list is longer than one that was there. -/
structure InvoicesFollow (t u : InvoiceTable) : Prop where
  states : StatesFollow t u
  chests : ∀ w ∈ u.invoices, ∃ v ∈ t.invoices, w.chests.length ≤ v.chests.length

section
variable {t u w : InvoiceTable}

theorem StatesFollow.written (h : StatesFollow t u) {st : Store} (hs : WrittenSheeted st t) : WrittenSheeted st u := by
  intro k hk hwritten v hv hnumber
  obtain ⟨v₀, hv₀, hsame, hsheeted⟩ := h v hv
  exact hsheeted (hs k hk hwritten v₀ hv₀ (hsame.trans hnumber))

theorem InvoicesFollow.trans (h : InvoicesFollow t u) (k : InvoicesFollow u w) : InvoicesFollow t w where
  states x hx := by
    obtain ⟨v, hv, hnumber, hsheeted⟩ := k.states x hx
    obtain ⟨v₀, hv₀, hnumber₀, hsheeted₀⟩ := h.states v hv
    exact ⟨v₀, hv₀, hnumber₀.trans hnumber, hsheeted ∘ hsheeted₀⟩
  chests x hx := by
    obtain ⟨v, hv, hle⟩ := k.chests x hx
    obtain ⟨v₀, hv₀, hle₀⟩ := h.chests v hv
    exact ⟨v₀, hv₀, hle.trans hle₀⟩

/-- Each invoice changed by a function that leaves its number, SHEETED and its chest count. -/
theorem InvoicesFollow.map {f : Invoice → Invoice} (hu : u.invoices = t.invoices.map f)
    (hnumber : ∀ v, (f v).record.number = v.record.number)
    (hstate : ∀ v, v.record.state = .sheeted → (f v).record.state = .sheeted)
    (hchests : ∀ v, (f v).chests.length = v.chests.length) : InvoicesFollow t u where
  states := by
    rw [StatesFollow, hu]
    exact List.forall_mem_map.mpr fun v hv => ⟨v, hv, (hnumber v).symm, hstate v⟩
  chests := by
    rw [hu]
    exact List.forall_mem_map.mpr fun v hv => ⟨v, hv, (hchests v).le⟩

theorem InvoicesFollow.of_eq (hu : u.invoices = t.invoices) : InvoicesFollow t u :=
  .map (f := id) (by simpa using hu) (fun _ => rfl) (fun _ => id) fun _ => rfl

/-- Chests of the table rewritten one by one. -/
theorem InvoicesFollow.of_chests {g : Invoice → Chest → Chest}
    (hu : u.invoices = t.invoices.map fun v => { v with chests := v.chests.map (g v) }) : InvoicesFollow t u :=
  .map hu (fun _ => rfl) (fun _ => id) fun _ => List.length_map _

/-- The invoice of a number changed in its record, not from SHEETED. -/
theorem InvoicesFollow.update_record {n : Nat} {f : InvoiceRecord → InvoiceRecord}
    (hnumber : ∀ r, (f r).number = r.number) (hstate : ∀ r, r.state = .sheeted → (f r).state = .sheeted) :
    InvoicesFollow t (t.update n fun v => { v with record := f v.record }) := by
  refine .map rfl (fun v => ?_) (fun v => ?_) fun v => ?_
  · split
    · exact hnumber _
    · rfl
  · split
    · exact hstate _
    · exact id
  · split <;> rfl

/-- Invoices leave the table. -/
theorem InvoicesFollow.filter {p : Invoice → Bool} (hu : u.invoices = t.invoices.filter p) : InvoicesFollow t u where
  states v hv := ⟨v, List.mem_of_mem_filter (hu ▸ hv), rfl, id⟩
  chests v hv := ⟨v, List.mem_of_mem_filter (hu ▸ hv), le_rfl⟩

/-- The invoice of a number that is not SHEETED takes any content of its number. -/
theorem StatesFollow.update_found {n : Nat} {v : Invoice} {f : Invoice → Invoice} (hv : t.find n = some v)
    (hst : v.record.state ≠ .sheeted) (hf : ∀ k, k.record.number = n → (f k).record.number = n) :
    StatesFollow t (t.update n f) := by
  refine List.forall_mem_map.mpr fun k hk => ?_
  split
  · rename_i hn
    exact ⟨v, List.mem_of_find?_eq_some hv, (InvoiceTable.number_of_find hv).trans (hf k (beq_iff_eq.mp hn)).symm,
      fun e => absurd e hst⟩
  · exact ⟨k, hk, rfl, id⟩

/-- The invoice of a number that is not SHEETED takes a content of its number with no more chests than it has or `v` has. -/
theorem InvoicesFollow.update_found {n : Nat} {v : Invoice} {f : Invoice → Invoice} (hv : t.find n = some v)
    (hst : v.record.state ≠ .sheeted) (hf : ∀ k, k.record.number = n → (f k).record.number = n)
    (hchests : ∀ k, (f k).chests.length ≤ k.chests.length ∨ (f k).chests.length ≤ v.chests.length) :
    InvoicesFollow t (t.update n f) where
  states := .update_found hv hst hf
  chests := by
    refine List.forall_mem_map.mpr fun k hk => ?_
    split
    · rcases hchests k with h | h
      · exact ⟨k, hk, h⟩
      · exact ⟨v, List.mem_of_find?_eq_some hv, h⟩
    · exact ⟨k, hk, le_rfl⟩

end

/-! ### Operations of the table -/

section
variable {s u : State} {n : Nat} {v : Invoice} {form : Form}

/-- The state of an invoice that is not SHEETED. -/
theorem setInvoiceState_follows {st : InvoiceState} (hv : s.invoices.find n = some v) (hst : v.record.state ≠ .sheeted) :
    InvoicesFollow s.invoices (s.setInvoiceState n st).invoices :=
  .update_found hv hst (fun _ => id) fun _ => .inl le_rfl

theorem setSheeted_follows (n : Nat) (s : State) :
    InvoicesFollow s.invoices (s.setInvoiceState n .sheeted).invoices :=
  .update_record (f := fun r => { r with state := .sheeted }) (fun _ => rfl) fun _ _ => rfl

theorem lotEnquiry_follows (n : Nat) (s : State) : InvoicesFollow s.invoices (lotEnquiry n s).invoices :=
  .update_record (f := fun r => if r.lot == .unresolved then { r with lot := s.store.binding n } else r)
    (fun r => by split <;> rfl) fun r => by split <;> exact id

theorem setStatus_follows (serial : Nat) (st : StencilStatus) (s : State) :
    InvoicesFollow s.invoices (s.setStatus serial st).invoices :=
  .of_chests rfl

theorem takeStatus_follows (serial : Nat) (a : StatusArrival) (s : State) :
    InvoicesFollow s.invoices (s.takeStatus serial a).invoices := by
  unfold State.takeStatus
  split
  · exact setStatus_follows serial _ s
  · exact .of_eq rfl

theorem takeStatuses_follows (s : State) : InvoicesFollow s.invoices s.takeStatuses.invoices := by
  obtain ⟨g, -, e⟩ := State.takeStatuses_onlyStatus s
  rw [e]
  exact .of_chests (g := fun _ => g) rfl

theorem takeSampleMark_follows (serial grams : Nat) (s : State) :
    InvoicesFollow s.invoices (takeSampleMark serial grams s).invoices := by
  have marked : ∀ n, InvoicesFollow s.invoices (markSample n serial grams s).invoices := fun n =>
    (InvoicesFollow.update_record (n := n)
      (f := fun r => { r with allowance := min Config.allowanceLimit (r.allowance + grams) }) (fun _ => rfl)
      fun _ => id).trans (.of_chests rfl)
  unfold takeSampleMark
  split
  · exact .of_eq rfl
  · split
    · exact marked _
    · exact marked _
    · exact marked _
    · exact .of_eq rfl
    · exact .of_eq rfl

/-- An append changes an OPEN invoice, or none (R77, R78). -/
theorem takeAppend_states (station : Fin 4) (n : Nat) (gross net : Int) (s : State) :
    StatesFollow s.invoices (takeAppend station n gross net s).invoices := by
  unfold takeAppend
  split
  · rename_i v hv
    split
    · rename_i hst
      have hopen : v.record.state = .opened := beq_iff_eq.mp hst
      obtain rfl := InvoiceTable.number_of_find hv
      rw [acceptAppend_eq]
      exact StatesFollow.update_found hv (by simp [hopen]) fun _ _ => v.appended_number _
    · exact (InvoicesFollow.of_eq rfl).states
  · exact (InvoicesFollow.of_eq rfl).states

theorem ownInvVoidLast_follows {expected : Nat} (e : ownInvVoidLast n expected s = .ok (u, form)) :
    InvoicesFollow s.invoices u.invoices := by
  obtain ⟨_, -, e⟩ := bind_eq_ok e
  obtain ⟨v, hnamed, e⟩ := bind_eq_ok e
  obtain ⟨_, hst, e⟩ := bind_eq_ok e
  obtain ⟨c, -, e⟩ := bind_eq_ok e
  obtain ⟨_, -, e⟩ := bind_eq_ok e
  obtain ⟨_, -, e⟩ := bind_eq_ok e
  obtain ⟨rfl, -⟩ := Prod.mk.inj (Except.ok.inj e)
  have hv := find_of_invoiceNamed hnamed
  have hstate : v.record.state = .opened ∨ v.record.state = .full := by simpa using require_ok hst
  have hnumber : (voidRecord v.record c).number = n := by
    rw [← InvoiceTable.number_of_find hv, voidRecord, InvoiceRecord.subGiveaway_frame]
  have voided : InvoicesFollow s.invoices
      (s.updateInvoice n fun _ => ⟨voidRecord v.record c, v.chests.dropLast⟩).invoices :=
    .update_found hv (by rcases hstate with h | h <;> simp [h]) (fun _ _ => hnumber)
      fun _ => .inr (List.dropLast_sublist _).length_le
  split
  · exact voided
  · exact voided

theorem closeShort_follows (hv : s.invoices.find n = some v) (hst : v.record.state ≠ .sheeted) :
    InvoicesFollow s.invoices (closeShort v s).invoices := by
  have hn := InvoiceTable.number_of_find hv
  have closed : InvoicesFollow s.invoices (s.invoices.update n (Invoice.closedShort v.chests.length)) :=
    .update_found hv hst (fun _ => id) fun _ => .inl le_rfl
  rw [closeShort_eq, hn]
  exact closed.trans (.of_eq rfl)

theorem ownInvClose_follows {short : Nat} (e : ownInvClose n short s = .ok (u, form)) :
    InvoicesFollow s.invoices u.invoices := by
  obtain ⟨_, -, e⟩ := bind_eq_ok e
  obtain ⟨v, hnamed, e⟩ := bind_eq_ok e
  have hv := find_of_invoiceNamed hnamed
  split at e
  · rename_i hst
    obtain ⟨rfl, -⟩ := Prod.mk.inj (Except.ok.inj e)
    exact setInvoiceState_follows hv (by simp [hst])
  · rename_i hst
    obtain ⟨_, -, e⟩ := bind_eq_ok e
    obtain ⟨rfl, -⟩ := Prod.mk.inj (Except.ok.inj e)
    exact closeShort_follows hv (by simp [hst])
  · contradiction

theorem ownInvCancel_follows (e : ownInvCancel n s = .ok (u, form)) : InvoicesFollow s.invoices u.invoices := by
  obtain ⟨v, -, e⟩ := bind_eq_ok e
  obtain ⟨_, -, e⟩ := bind_eq_ok e
  obtain ⟨rfl, -⟩ := Prod.mk.inj (Except.ok.inj e)
  have left := cancelled_eq v n s
  unfold cancelled at left
  rw [left]
  exact .filter rfl

theorem ownStationQueueAdd_follows {station : Nat} (e : ownStationQueueAdd station n s = .ok (u, form)) :
    InvoicesFollow s.invoices u.invoices := by
  obtain ⟨_, -, e⟩ := bind_eq_ok e
  obtain ⟨_, -, e⟩ := bind_eq_ok e
  obtain ⟨_, -, e⟩ := bind_eq_ok e
  obtain ⟨_, -, e⟩ := bind_eq_ok e
  obtain ⟨_, -, e⟩ := bind_eq_ok e
  obtain ⟨rfl, -⟩ := Prod.mk.inj (Except.ok.inj e)
  exact .of_eq rfl

theorem ownStationQueueRemove_follows {station : Nat} (e : ownStationQueueRemove station n s = .ok (u, form)) :
    InvoicesFollow s.invoices u.invoices := by
  obtain ⟨_, -, e⟩ := bind_eq_ok e
  obtain ⟨_, -, e⟩ := bind_eq_ok e
  obtain ⟨_, -, e⟩ := bind_eq_ok e
  obtain ⟨rfl, -⟩ := Prod.mk.inj (Except.ok.inj e)
  exact .of_eq rfl

theorem ownInvAmend_follows {f : InvAmendFields} (e : ownInvAmend n f s = .ok (u, form)) :
    InvoicesFollow s.invoices u.invoices := by
  obtain ⟨_, -, e⟩ := bind_eq_ok e
  obtain ⟨garden, -, e⟩ := bind_eq_ok e
  obtain ⟨grade, -, e⟩ := bind_eq_ok e
  obtain ⟨ceiling, -, e⟩ := bind_eq_ok e
  obtain ⟨allowance, -, e⟩ := bind_eq_ok e
  obtain ⟨autoClose, -, e⟩ := bind_eq_ok e
  obtain ⟨v, hnamed, e⟩ := bind_eq_ok e
  obtain ⟨_, hst, e⟩ := bind_eq_ok e
  obtain ⟨_, -, e⟩ := bind_eq_ok e
  have hv := find_of_invoiceNamed hnamed
  obtain rfl := InvoiceTable.number_of_find hv
  have hstate : v.record.state = .opened ∨ v.record.state = .full := by simpa using require_ok hst
  have e : amendAnswer v.record.number v.accepted ceiling.isSome autoClose
    (v.record.amend garden grade ceiling allowance autoClose) s = .ok (u, form) := e
  have answer := amendAnswer_eq v.accepted ceiling.isSome autoClose
    (v.record.amend garden grade ceiling allowance autoClose) s
  obtain ⟨rfl, -⟩ := Prod.mk.inj (Except.ok.inj (answer.symm.trans e))
  exact .update_found hv (by rcases hstate with h | h <;> simp [h]) (fun _ _ => amendedRecord_number _ _ _)
    fun _ => .inl le_rfl

/-! ### Operations of the heads -/

theorem startAtTable_follows (j : Job) (s : State) : InvoicesFollow s.invoices (startAtTable j s).invoices :=
  (lotEnquiry_follows j.invoice s).trans (setStatus_follows j.serial .marking _)

theorem takeJobs_follows (i : Fin 2) (l : List Job) (s : State) :
    InvoicesFollow s.invoices (takeJobs i l s).invoices := by
  induction l generalizing s with
  | nil => exact .of_eq rfl
  | cons j rest ih =>
    unfold takeJobs
    dsimp only
    split
    · exact ih (dropJob i j .empty (s.send (.stencilStatus j.serial .skipped)))
    · split
      · exact ih (dropJob i j .gone s)
      · have statuses := takeStatuses_follows s
        split
        · exact statuses.trans (ih (dropJob i j .gone s.takeStatuses))
        · have started := statuses.trans (startAtTable_follows j _)
          split
          · exact started
          · exact started

theorem takeNext_follows (i : Fin 2) (s : State) : InvoicesFollow s.invoices (takeNext i s).invoices := by
  unfold takeNext
  split
  · exact takeJobs_follows i _ s
  · exact .of_eq rfl

theorem joinQueue_follows (i : Fin 2) (j : Job) (s : State) : InvoicesFollow s.invoices (joinQueue i j s).invoices :=
  takeNext_follows i (s.setHead i { s.stencils.heads[i] with queue := s.stencils.heads[i].queue ++ [j] })

theorem joinQueue_pending_follows (i : Fin 2) (j : Job) (s : State) :
    InvoicesFollow s.invoices (joinQueue i j (s.takeStatuses.setStatus j.serial .pending)).invoices :=
  ((takeStatuses_follows s).trans (setStatus_follows j.serial .pending _)).trans (joinQueue_follows i j _)

theorem takeJobRequest_follows (i : Fin 2) (template : Fin 8) (serial n : Nat) (s : State) :
    InvoicesFollow s.invoices (takeJobRequest i template serial n s).invoices := by
  unfold takeJobRequest
  split
  · exact .of_eq rfl
  · split
    · exact .of_eq rfl
    · exact joinQueue_pending_follows i _ s

theorem endJob_follows (i : Fin 2) (j : JobInHand) (s : State) : InvoicesFollow s.invoices (endJob i j s).invoices := by
  unfold endJob
  exact takeNext_follows i (State.setHead ((s.send _).notify _) i _)

theorem takeAcknowledge_follows (i : Fin 2) (s : State) : InvoicesFollow s.invoices (takeAcknowledge i s).invoices := by
  unfold takeAcknowledge
  dsimp only
  split
  · split
    · exact .of_eq rfl
    · exact endJob_follows i _ s
  · exact .of_eq rfl

theorem ownStencilRequest_follows {head template chest : Nat}
    (e : ownStencilRequest head template n chest s = .ok (u, form)) : InvoicesFollow s.invoices u.invoices := by
  obtain ⟨i, -, e⟩ := bind_eq_ok e
  obtain ⟨t, -, e⟩ := bind_eq_ok e
  obtain ⟨_, -, e⟩ := bind_eq_ok e
  obtain ⟨v, -, e⟩ := bind_eq_ok e
  obtain ⟨c, -, e⟩ := bind_eq_ok e
  obtain ⟨_, -, e⟩ := bind_eq_ok e
  obtain ⟨_, -, e⟩ := bind_eq_ok e
  obtain ⟨rfl, -⟩ := Prod.mk.inj (Except.ok.inj e)
  exact joinQueue_pending_follows i _ s

theorem ownHeadResume_follows {head : Nat} (e : ownHeadResume head s = .ok (u, form)) :
    InvoicesFollow s.invoices u.invoices := by
  obtain ⟨i, -, e⟩ := bind_eq_ok e
  obtain ⟨_, -, e⟩ := bind_eq_ok e
  split at e
  · obtain ⟨rfl, -⟩ := Prod.mk.inj (Except.ok.inj e)
    exact .of_eq rfl
  · obtain ⟨rfl, -⟩ := Prod.mk.inj (Except.ok.inj e)
    exact .of_eq rfl
  · obtain ⟨rfl, -⟩ := Prod.mk.inj (Except.ok.inj e)
    exact takeNext_follows i (s.setHead i (s.stencils.heads[i].clear .idle))

theorem ownHeadSkip_follows {head : Nat} (e : ownHeadSkip head s = .ok (u, form)) :
    InvoicesFollow s.invoices u.invoices := by
  obtain ⟨i, -, e⟩ := bind_eq_ok e
  obtain ⟨j, -, e⟩ := bind_eq_ok e
  obtain ⟨rfl, -⟩ := Prod.mk.inj (Except.ok.inj e)
  exact takeNext_follows i
    ((s.send (.stencilStatus j.job.serial .skipped)).setHead i (s.stencils.heads[i].clear .idle))

theorem ownHeadSet_follows {head setting : Nat} (e : ownHeadSet head setting s = .ok (u, form)) :
    InvoicesFollow s.invoices u.invoices := by
  obtain ⟨i, -, e⟩ := bind_eq_ok e
  split at e
  · obtain ⟨rfl, -⟩ := Prod.mk.inj (Except.ok.inj e)
    unfold headOn
    dsimp only
    split
    · exact takeNext_follows i (s.setHead i (s.stencils.heads[i].clear .idle))
    · exact .of_eq rfl
  · obtain ⟨rfl, -⟩ := Prod.mk.inj (Except.ok.inj e)
    exact .of_eq rfl
  · contradiction

end

end Sys2Proof.Machine
end

section
/-! SUPPORT. The sheet builder and the record store keep a sound store (R145 to R158): builds begun and ended, requests reserved
or kept waiting, sheets released. -/

namespace Sys2Proof.Machine

/-- The store is sound and no chest list exceeds the packages an invoice may have, so that every sheet fits on a page. -/
structure StoreReady (s : State) : Prop where
  shape : StoreShape s.store
  sheeted : WrittenSheeted s.store s.invoices
  room : ∀ v ∈ s.invoices.invoices, v.chests.length ≤ 120

/-- What an operation keeps of the record store. -/
def StoreKept (s u : State) : Prop := StoreReady s → StoreReady u

section
variable {s u w : State} {n : Nat}

theorem StoreReady.sound (h : StoreReady s) : StoreSound s := storeSound_iff.mpr ⟨h.shape, h.sheeted⟩

theorem StoreReady.of_sound (h : StoreSound s) (ht : TableSound s.invoices) : StoreReady s :=
  ⟨(storeSound_iff.mp h).1, (storeSound_iff.mp h).2, fun v hv => (ht.each v hv).room.trans (ht.each v hv).packages⟩

/-- The sheets of an invoice that is not SHEETED are reserved ones. -/
theorem StoreReady.reserved_of_state (h : StoreReady s) {v : Invoice} (hv : s.invoices.find n = some v)
    (hst : v.record.state ≠ .sheeted) {k : Sheet} (hk : k ∈ s.store.sheets) (hn : k.invoice = n) : k.written = false := by
  by_contra hwritten
  exact hst (h.sheeted k hk (by simpa using hwritten) v (List.mem_of_find?_eq_some hv)
    ((InvoiceTable.number_of_find hv).trans hn.symm))

/-! ### Operations of other blocks -/

/-- The store as it was, and the states of the invoices following. -/
theorem StoreSound.of_states (h : StoreSound s) (hstore : u.store = s.store) (hstates : StatesFollow s.invoices u.invoices) :
    StoreSound u := by
  obtain ⟨shape, sheeted⟩ := storeSound_iff.mp h
  exact storeSound_iff.mpr ⟨hstore ▸ shape, hstore ▸ hstates.written sheeted⟩

theorem StoreKept.refl (s : State) : StoreKept s s := id

theorem StoreKept.trans (h : StoreKept s u) (k : StoreKept u w) : StoreKept s w := k ∘ h

/-- An operation of the invoice table or of the heads. -/
theorem StoreKept.of_follow (hstore : u.store = s.store) (h : InvoicesFollow s.invoices u.invoices) : StoreKept s u :=
  fun r => ⟨hstore ▸ r.shape, hstore ▸ h.states.written r.sheeted, fun w hw => by
    obtain ⟨v, hv, hle⟩ := h.chests w hw
    exact hle.trans (r.room v hv)⟩

/-- An operation of another block. -/
theorem StoreKept.of_eq (hstore : u.store = s.store) (hinvoices : u.invoices = s.invoices) : StoreKept s u :=
  .of_follow hstore (.of_eq (congrArg InvoiceTable.invoices hinvoices))

/-- An operation that starts from what another block leaves. -/
theorem StoreKept.after (h : StoreKept u w) (hstore : u.store = s.store) (hinvoices : u.invoices = s.invoices) :
    StoreKept s w :=
  (StoreKept.of_eq hstore hinvoices).trans h

/-- At a start the invoice table is empty (R97). -/
theorem StoreKept.start (hstore : StoreShape s.store → StoreShape u.store) (hinvoices : u.invoices = InvoiceTable.start) :
    StoreKept s u := fun r => by
  refine ⟨hstore r.shape, ?_, ?_⟩ <;> simp [WrittenSheeted, hinvoices, InvoiceTable.start]

/-! ### Builds (R150 to R152) -/

/-- The sheet being built takes another content in its place, still reserved. -/
theorem updateSheet_kept {h : Sheet} {f : Sheet → Sheet} (hb : s.store.building = some h)
    (hplace : ((f h).invoice, (f h).chests, (f h).page, (f h).first, (f h).slots) =
      (h.invoice, h.chests, h.page, h.first, h.slots))
    (hsame : (f h).written = h.written) : StoreKept s (s.updateSheet h.invoice f) := by
  intro r
  obtain ⟨front, back, e, hfront, hh, hback⟩ := Store.building_split r.shape.sheet_numbers hb
  have updated := Store.updateReserved_front e hfront hh hback f
  have hk : (f h).written = false := hsame.trans hh
  refine ⟨?_, ?_, r.room⟩
  · rw [State.updateSheet_store, updated]
    exact r.shape.replace e hplace (by simp [hk]) (by simp [hh])
  · have sheeted := r.sheeted
    rw [State.updateSheet_store, updated]
    simp only [WrittenSheeted, e, List.forall_mem_append, List.forall_mem_cons] at sheeted ⊢
    obtain ⟨inFront, -, inBack⟩ := sheeted
    exact ⟨inFront, by simp [hk], inBack⟩

theorem beginBuild_storeKept (s : State) : StoreKept s (beginBuild s) := by
  unfold beginBuild
  split
  · exact .refl s
  · rename_i h hb
    split
    · exact .refl s
    · dsimp only
      have resolved : StoreKept s (lotEnquiry h.invoice s) := .of_follow rfl (lotEnquiry_follows _ s)
      split
      · exact resolved
      · exact resolved.trans (updateSheet_kept (s := lotEnquiry h.invoice s) hb rfl rfl)

/-- The end of a build: the sheet is written behind written ones, and its invoice is SHEETED (R152). -/
theorem sheetWritten_kept {h k : Sheet} (hb : s.store.building = some h)
    (hplace : (k.invoice, k.chests, k.page, k.first, k.slots) = (h.invoice, h.chests, h.page, h.first, h.slots)) :
    StoreKept s ((s.updateSheet h.invoice fun _ => { k with written := true }).setInvoiceState h.invoice .sheeted) := by
  intro r
  obtain ⟨front, back, e, hfront, hh, hback⟩ := Store.building_split r.shape.sheet_numbers hb
  have updated := Store.updateReserved_front e hfront hh hback fun _ => { k with written := true }
  have follows := setSheeted_follows h.invoice s
  have hinvoice : k.invoice = h.invoice := congrArg Prod.fst hplace
  have followed : StoreReady (s.setInvoiceState h.invoice .sheeted) := StoreKept.of_follow (s := s) rfl follows r
  refine ⟨?_, ?_, followed.room⟩
  · rw [State.setInvoiceState_store, State.updateSheet_store, updated]
    exact r.shape.replace e hplace (fun _ => hfront) (by simp [hh])
  · have sheeted := follows.states.written r.sheeted
    rw [State.setInvoiceState_store, State.updateSheet_store, updated]
    simp only [WrittenSheeted, e, List.forall_mem_append, List.forall_mem_cons] at sheeted ⊢
    obtain ⟨inFront, -, inBack⟩ := sheeted
    refine ⟨inFront, fun _ v hv hn => ?_, inBack⟩
    obtain ⟨v₀, -, rfl⟩ := List.mem_map.mp hv
    split
    · rfl
    · rename_i other
      rw [if_neg other] at hn
      exact absurd (beq_iff_eq.mpr (hn.trans hinvoice)) other

/-- A build that ends with the sheet's last entry. -/
theorem endBuild_storeKept {h k : Sheet} (hb : s.store.building = some h)
    (hplace : (k.invoice, k.chests, k.page, k.first, k.slots) = (h.invoice, h.chests, h.page, h.first, h.slots)) :
    StoreKept s (endBuild k s) := by
  have written := sheetWritten_kept hb hplace
  rw [← show k.invoice = h.invoice from congrArg Prod.fst hplace] at written
  unfold endBuild
  refine (written.trans ?_).trans (beginBuild_storeKept _)
  exact .of_eq (by simp) (by simp)

theorem writeEntry_storeKept (s : State) : StoreKept s (writeEntry s) := by
  unfold writeEntry
  split
  · exact .refl s
  · rename_i h hb
    split
    · split
      · exact .refl s
      · dsimp only
        split
        · exact endBuild_storeKept hb rfl
        · exact updateSheet_kept (h := h) hb rfl rfl
    · exact .refl s

/-! ### Sheet requests and the waiting line (R149, R153) -/

/-- The part with another waiting line. -/
def State.withWaiting (s : State) (l : List Nat) : State := { s with store := { s.store with waiting := l } }

/-- An invoice with no written sheet moves to any state. -/
theorem setInvoiceState_storeReady (r : StoreReady s) (hn : ∀ k ∈ s.store.sheets, k.invoice = n → k.written = false)
    (st : InvoiceState) : StoreReady (s.setInvoiceState n st) := by
  refine ⟨r.shape, fun k hk hwritten => ?_, ?_⟩
  · refine List.forall_mem_map.mpr fun v hv => ?_
    split
    · rename_i same
      exact fun e => absurd hwritten (by simp [hn k hk (e.symm.trans (beq_iff_eq.mp same))])
    · exact r.sheeted k hk hwritten v hv
  · refine List.forall_mem_map.mpr fun v hv => ?_
    split <;> exact r.room v hv

/-- A CLOSING invoice in no line has no stored sheet. -/
theorem StoreReady.no_sheet_of_closing (r : StoreReady s) {v : Invoice} (hv : s.invoices.find n = some v)
    (hst : v.record.state = .closing) (hline : s.store.inLine n = false) :
    n ∉ s.store.waiting ∧ ∀ k ∈ s.store.sheets, k.invoice ≠ n := by
  obtain ⟨hwaiting, hreserved⟩ : n ∉ s.store.waiting ∧ ∀ k ∈ s.store.sheets, k.invoice = n → k.written = true := by
    simpa [Store.inLine] using hline
  refine ⟨hwaiting, fun k hk e => ?_⟩
  have reserved := r.reserved_of_state hv (by simp [hst]) hk e
  simp [hreserved k hk e] at reserved

theorem joinWaiting_storeKept {v : Invoice} (hv : s.invoices.find n = some v) (hst : v.record.state = .closing)
    (hline : s.store.inLine n = false) (chests : Nat) : StoreKept s (joinWaiting n chests s) := by
  intro r
  obtain ⟨hwaiting, hsheets⟩ := r.no_sheet_of_closing hv hst hline
  have waits : StoreReady (s.withWaiting (s.store.waiting ++ [n])) :=
    ⟨r.shape.join_waiting hwaiting hsheets, r.sheeted, r.room⟩
  have moved := setInvoiceState_storeReady waits (fun k hk e => absurd e (hsheets k hk)) .waiting
  exact ⟨moved.shape, moved.sheeted, moved.room⟩

/-- Space reserved for the sheet of an invoice that has none and does not wait (R148). -/
theorem reserve_storeReady {v : Invoice} {t : Store} (r : StoreReady s) (hv : s.invoices.find n = some v)
    (hwaiting : n ∉ s.store.waiting) (hsheets : ∀ k ∈ s.store.sheets, k.invoice ≠ n)
    (ht : s.store.reserve n v.accepted = some t) : StoreReady { s with store := t } := by
  obtain ⟨page, slot, hplace, rfl⟩ := Store.reserve_some ht
  refine ⟨r.shape.reserve hplace (r.room v (List.mem_of_find?_eq_some hv)) hwaiting hsheets, ?_, r.room⟩
  exact List.forall_mem_append.mpr ⟨r.sheeted, by simp⟩

theorem takeSheetRequest_storeKept (n : Nat) (s : State) : StoreKept s (takeSheetRequest n s) := by
  unfold takeSheetRequest
  split
  · exact .refl s
  · rename_i v hv
    split
    · exact .refl s
    · rename_i hnew
      obtain ⟨hst, hline⟩ : v.record.state = .closing ∧ s.store.inLine n = false := by simpa using hnew
      split
      · exact joinWaiting_storeKept hv hst hline _
      · split
        · rename_i t ht
          intro r
          obtain ⟨hwaiting, hsheets⟩ := r.no_sheet_of_closing hv hst hline
          exact beginBuild_storeKept _ (reserve_storeReady r hv hwaiting hsheets ht)
        · exact joinWaiting_storeKept hv hst hline _

/-- A build begins alike whoever waits. -/
theorem beginBuild_withWaiting (s : State) (l : List Nat) :
    beginBuild (s.withWaiting l) = (beginBuild s).withWaiting l := by
  have hb : (s.withWaiting l).store.building = s.store.building := rfl
  unfold beginBuild
  rw [hb]
  split
  · rfl
  · split
    · rfl
    · dsimp only
      split <;> rename_i hv <;> rw [show (lotEnquiry _ s).invoices.find _ = _ from hv] <;> rfl

/-- The waiting line tried from its front, with the line it is tried for in the store. -/
theorem tryWaiting_ready (l : List Nat) (s : State) (r : StoreReady (s.withWaiting l)) : StoreReady (tryWaiting l s) := by
  induction l generalizing s with
  | nil => exact r
  | cons n rest ih =>
    have behind : StoreReady (s.withWaiting rest) :=
      ⟨r.shape.fewer_waiting (List.sublist_cons_self n rest), r.sheeted, r.room⟩
    obtain ⟨hwaiting, hsheets⟩ : n ∉ rest ∧ ∀ k ∈ s.store.sheets, k.invoice ≠ n := by
      simpa [State.withWaiting] using (List.nodup_cons.mp r.shape.numbers).1
    unfold tryWaiting
    split
    · exact ih s behind
    · rename_i v hv
      split
      · rename_i t ht
        refine ih _ ?_
        rw [← beginBuild_withWaiting]
        refine beginBuild_storeKept _ ?_
        obtain ⟨page, slot, hplace, rfl⟩ := Store.reserve_some ht
        have reserved := reserve_storeReady (s := s.withWaiting rest) behind hv hwaiting hsheets
          (Store.reserve_of_place hplace)
        refine setInvoiceState_storeReady (s := { s with store := _ }) reserved ?_ .closing
        exact List.forall_mem_append.mpr ⟨fun k hk e => absurd e (hsheets k hk), by simp⟩
      · exact r

/-! ### Releases (R158) -/

theorem sheetReleased_storeKept (n : Nat) (s : State) : StoreKept s (sheetReleased n s) := by
  unfold sheetReleased
  split
  · exact .refl s
  · have removed : StoreKept s (s.removeInvoice n) := .of_follow rfl (.filter rfl)
    exact removed.trans (.of_eq (by simp) (by simp))

theorem releaseSheet_storeKept (h : Sheet) (s : State) : StoreKept s (releaseSheet h s) := by
  intro r
  have left : StoreReady
      { s with store := { s.store with sheets := s.store.sheets.filter fun t => t.invoice != h.invoice } } :=
    ⟨r.shape.filter _, fun k hk => r.sheeted k (List.mem_of_mem_filter hk), r.room⟩
  have released := sheetReleased_storeKept h.invoice _ left
  simp only [releaseSheet]
  split
  · exact tryWaiting_ready _ _ released
  · exact released

theorem ownSheetRelease_storeKept {form : Form} (e : ownSheetRelease n s = .ok (u, form)) : StoreKept s u := by
  obtain ⟨_, -, e⟩ := bind_eq_ok e
  obtain ⟨h, -, e⟩ := bind_eq_ok e
  obtain ⟨_, -, e⟩ := bind_eq_ok e
  obtain ⟨_, -, e⟩ := bind_eq_ok e
  obtain ⟨_, -, e⟩ := bind_eq_ok e
  obtain ⟨rfl, -⟩ := Prod.mk.inj (Except.ok.inj e)
  exact releaseSheet_storeKept h s

/-! ### New invoices and new windows (R75, R143) -/

theorem ownInvOpen_storeKept {r : InvOpenFields} {form : Form} (e : ownInvOpen r s = .ok (u, form)) : StoreKept s u := by
  obtain ⟨_, -, e⟩ := bind_eq_ok e
  obtain ⟨_, -, e⟩ := bind_eq_ok e
  obtain ⟨_, -, e⟩ := bind_eq_ok e
  obtain ⟨_, -, e⟩ := bind_eq_ok e
  obtain ⟨_, hnew, e⟩ := bind_eq_ok e
  obtain ⟨_, -, e⟩ := bind_eq_ok e
  obtain ⟨_, -, e⟩ := bind_eq_ok e
  obtain ⟨⟨w, g⟩, hcommit, e⟩ := bind_eq_ok e
  obtain ⟨_, -, e⟩ := bind_eq_ok e
  obtain ⟨rfl, -⟩ := Prod.mk.inj (Except.ok.inj e)
  have kept := openCommitment_keeps r s hcommit
  have invoices : w.invoices = s.invoices := by rw [kept]
  have store : w.store = s.store := by rw [kept]
  have unstored : ∀ k ∈ s.store.sheets, k.invoice ≠ r.number := fun k hk same => by
    have free : ¬ numberTaken r.number s = true := by simpa using require_ok hnew
    exact free (numberTaken_iff.mpr (.inr ⟨k, hk, same⟩))
  refine fun ready => ⟨store ▸ ready.shape, fun k hk hwritten => ?_, ?_⟩
  · have hk : k ∈ s.store.sheets := store ▸ hk
    refine List.forall_mem_append.mpr ⟨invoices ▸ ready.sheeted k hk hwritten, ?_⟩
    simpa using fun same : r.number = k.invoice => absurd same.symm (unstored k hk)
  · exact List.forall_mem_append.mpr ⟨invoices ▸ ready.room, by simp⟩

theorem ownWindowSet_storeKept {window : Nat} {r : WindowFields} {form : Form}
    (e : ownWindowSet window r s = .ok (u, form)) : StoreKept s u := by
  obtain ⟨i, -, e⟩ := bind_eq_ok e
  obtain ⟨_, -, e⟩ := bind_eq_ok e
  obtain ⟨_, -, e⟩ := bind_eq_ok e
  obtain ⟨_, -, e⟩ := bind_eq_ok e
  obtain ⟨_, -, e⟩ := bind_eq_ok e
  obtain ⟨rfl, -⟩ := Prod.mk.inj (Except.ok.inj e)
  exact fun ready => ⟨ready.shape.set_windows _, ready.sheeted, ready.room⟩

end

end Sys2Proof.Machine
end

section
/-! PROOF. Every step keeps the record store sound (R146, R147, R152): request by request and arrival by arrival, most of them
writing neither the store nor what it rests on in the invoice table. -/

namespace Sys2Proof.Machine

/-! ### Requests, taken and served -/

theorem answerRequest_storeKept {tag kind : Byte} {s : State} {a : Answer}
    (ha : ∀ u form, a = .ok (u, form) → StoreKept s u) : StoreKept s (answerRequest tag kind s a) := by
  cases a with
  | error r => exact .of_eq rfl rfl
  | ok p => exact (ha p.1 p.2 rfl).trans (.of_eq rfl rfl)

/-- A request whose owner leaves the store, and whose invoices follow. -/
theorem answerRequest_storeKept_of_follow {tag kind : Byte} {s : State} {a : Answer}
    (ha : ∀ u form, a = .ok (u, form) → u.store = s.store ∧ InvoicesFollow s.invoices u.invoices) :
    StoreKept s (answerRequest tag kind s a) :=
  answerRequest_storeKept fun u form e => .of_follow (ha u form e).1 (ha u form e).2

/-- A request whose owner leaves the store and the invoices of the table. -/
theorem answerRequest_storeKept_of_eq {tag kind : Byte} {s : State} {a : Answer}
    (ha : ∀ u form, a = .ok (u, form) → u.store = s.store ∧ u.invoices.invoices = s.invoices.invoices) :
    StoreKept s (answerRequest tag kind s a) :=
  answerRequest_storeKept fun u form e => .of_follow (ha u form e).1 (.of_eq (ha u form e).2)

theorem takeSaveSettings_storeKept (tag : Byte) (s : State) : StoreKept s (takeSaveSettings tag s) :=
  .of_eq (by simp) (by simp)

theorem takeRestart_storeKept (tag : Byte) (form : Nat) (s : State) : StoreKept s (takeRestart tag form s) := by
  unfold takeRestart
  split <;> exact .of_eq rfl rfl

theorem takeRequest_storeKept (s : State) : ∀ i, StoreKept s (takeRequest i s)
  | .invOpen .. => answerRequest_storeKept fun _ _ e => ownInvOpen_storeKept e
  | .windowSet .. => answerRequest_storeKept fun _ _ e => ownWindowSet_storeKept e
  | .sheetRelease .. => answerRequest_storeKept fun _ _ e => ownSheetRelease_storeKept e
  | .invAmend .. =>
    answerRequest_storeKept_of_follow fun _ _ e => ⟨by simp [ownInvAmend_keeps _ _ _ e], ownInvAmend_follows e⟩
  | .invVoidLast .. =>
    answerRequest_storeKept_of_follow fun _ _ e => ⟨by simp [ownInvVoidLast_keeps _ _ _ e], ownInvVoidLast_follows e⟩
  | .invClose .. =>
    answerRequest_storeKept_of_follow fun _ _ e => ⟨by simp [ownInvClose_keeps _ _ _ e], ownInvClose_follows e⟩
  | .invCancel .. =>
    answerRequest_storeKept_of_follow fun _ _ e => ⟨by simp [ownInvCancel_keeps _ _ e], ownInvCancel_follows e⟩
  | .stencilRequest .. =>
    answerRequest_storeKept_of_follow fun _ _ e =>
      ⟨by simp [ownStencilRequest_keeps _ _ _ _ _ e], ownStencilRequest_follows e⟩
  | .headResume .. =>
    answerRequest_storeKept_of_follow fun _ _ e => ⟨by simp [ownHeadResume_keeps _ _ e], ownHeadResume_follows e⟩
  | .headSkip .. =>
    answerRequest_storeKept_of_follow fun _ _ e => ⟨by simp [ownHeadSkip_keeps _ _ e], ownHeadSkip_follows e⟩
  | .headSet .. =>
    answerRequest_storeKept_of_follow fun _ _ e => ⟨by simp [ownHeadSet_keeps _ _ _ e], ownHeadSet_follows e⟩
  | .headReline .. => answerRequest_storeKept_of_eq fun _ _ e => by simp [ownHeadReline_keeps _ _ e]
  | .headReset .. => answerRequest_storeKept_of_eq fun _ _ e => by simp [ownHeadReset_keeps _ _ e]
  | .templateLoad .. => answerRequest_storeKept_of_eq fun _ _ e => by simp [ownTemplateLoad_keeps _ _ _ e]
  | .stationQueueAdd .. =>
    answerRequest_storeKept_of_follow fun _ _ e => ⟨by simp [ownStationQueueAdd_keeps _ _ _ e], ownStationQueueAdd_follows e⟩
  | .stationQueueRemove .. =>
    answerRequest_storeKept_of_follow fun _ _ e =>
      ⟨by simp [ownStationQueueRemove_keeps _ _ _ e], ownStationQueueRemove_follows e⟩
  | .bulkDefine .. => answerRequest_storeKept_of_eq fun _ _ e => by simp [ownBulkDefine_keeps _ _ _ _ e]
  | .bulkStart .. => answerRequest_storeKept_of_eq fun _ _ e => by simp [ownBulkStart_keeps _ _ e]
  | .bulkNext .. => answerRequest_storeKept_of_eq fun _ _ e => by simp [ownBulkNext_keeps _ _ e]
  | .bulkHold .. => answerRequest_storeKept_of_eq fun _ _ e => by simp [ownBulkHold_keeps _ _ e]
  | .bulkResume .. => answerRequest_storeKept_of_eq fun _ _ e => by simp [ownBulkResume_keeps _ _ e]
  | .bulkShort .. => answerRequest_storeKept_of_eq fun _ _ e => by simp [ownBulkShort_keeps _ _ e]
  | .bulkAbort .. => answerRequest_storeKept_of_eq fun _ _ e => by simp [ownBulkAbort_keeps _ _ e]
  | .bulkRetire .. => answerRequest_storeKept_of_eq fun _ _ e => by simp [ownBulkRetire_keeps _ _ e]
  | .bulkConfig .. => answerRequest_storeKept_of_eq fun _ _ e => by simp [ownBulkConfig_keeps _ _ _ _ e]
  | .bulkRead .. => answerRequest_storeKept_of_eq fun _ _ e => by simp [ownBulkRead_keeps _ _ e]
  | .stationConfig .. => answerRequest_storeKept_of_eq fun _ _ e => by simp [ownStationConfig_keeps _ _ e]
  | .stationCal .. => answerRequest_storeKept_of_eq fun _ _ e => by simp [ownStationCal_keeps _ _ _ _ e]
  | .stationRestart .. => answerRequest_storeKept_of_eq fun _ _ e => by simp [ownStationRestart_keeps _ _ e]
  | .stationZero .. => answerRequest_storeKept_of_eq fun _ _ e => by simp [ownStationZero_keeps _ _ e]
  | .weighCapture .. => answerRequest_storeKept_of_eq fun _ _ e => by simp [ownWeighCapture_keeps _ _ e]
  | .stationRead .. => answerRequest_storeKept_of_eq fun _ _ e => by simp [ownStationRead_keeps _ _ e]
  | .packtypeSet .. => answerRequest_storeKept_of_eq fun _ _ e => by simp [ownPacktypeSet_keeps _ _ _ _ _ e]
  | .tareListClear .. => answerRequest_storeKept_of_eq fun _ _ e => by simp [ownTareListClear_keeps _ _ e]
  | .tareListRead .. => answerRequest_storeKept_of_eq fun _ _ e => by simp [ownTareListRead_keeps _ _ e]
  | .classSet .. => answerRequest_storeKept_of_eq fun _ _ e => by simp [ownClassSet_keeps _ _ e]
  | .invRead .. => answerRequest_storeKept_of_eq fun _ _ e => by simp [ownInvRead_keeps _ _ _ e]
  | .vectorSet .. => answerRequest_storeKept_of_eq fun _ _ e => by simp [ownVectorSet_keeps _ _ _ e]
  | .actionSetWrite .. => answerRequest_storeKept_of_eq fun _ _ e => by simp [ownActionSetWrite_keeps _ _ _ e]
  | .actionSetRead .. => answerRequest_storeKept_of_eq fun _ _ e => by simp [ownActionSetRead_keeps _ _ e]
  | .templateRead .. => answerRequest_storeKept_of_eq fun _ _ e => by simp [ownTemplateRead_keeps _ _ e]
  | .headRead .. => answerRequest_storeKept_of_eq fun _ _ e => by simp [ownHeadRead_keeps _ _ e]
  | .windowRead .. => answerRequest_storeKept_of_eq fun _ _ e => by simp [ownWindowRead_keeps _ _ e]
  | .sheetFetch .. => answerRequest_storeKept_of_eq fun _ _ e => by simp [ownSheetFetch_keeps _ _ _ e]
  | .storeRead .. => answerRequest_storeKept_of_eq fun _ _ e => by simp [ownStoreRead_keeps _ _ e]
  | .clockSet .. => answerRequest_storeKept_of_eq fun _ _ e => by simp [ownClockSet_keeps _ _ e]
  | .clockRound .. => answerRequest_storeKept_of_eq fun _ _ e => by simp [ownClockRound_keeps _ e]
  | .noticeMask .. => answerRequest_storeKept_of_eq fun _ _ e => by simp [ownNoticeMask_keeps _ _ e]
  | .linkSpeed .. => answerRequest_storeKept_of_eq fun _ _ e => by simp [ownLinkSpeed_keeps _ _ e]
  | .saveSettings tag => takeSaveSettings_storeKept tag s
  | .restart tag form => takeRestart_storeKept tag form s
  | .classRead tag | .vectorRead tag | .clockRead tag | .status tag => .of_eq rfl rfl
  | .sampleWord .. | .signalTimerExpiry .. | .append .. | .appendAnswer .. | .tareSample .. | .tareAnswer ..
  | .reading .. | .leaveReport | .stallTimerExpiry | .sampleMark .. | .event .. | .gatePulseEnd ..
  | .stencilJobRequest .. | .stencilStatus .. | .jobRemoval .. | .characterSent .. | .lineAcknowledge ..
  | .ackTimerExpiry .. | .headFault .. | .sheetRequest .. | .chestEntryWritten | .secondAdvance | .frameReceived ..
  | .badFrame | .frameGapTimeout | .frameSent | .noticeOffer .. | .captureWaitTimeout .. | .slotDiscard ..
  | .saveWriteEnd .. | .powerOn | .powerLoss | .byteReceived .. => .refl s

theorem serve_storeKept (s : State) : StoreKept s s.serve := by
  refine State.serve_keeps (StoreKept s) (fun u h => h.trans (.of_eq rfl rfl)) (fun u f rest h _ => h.trans ?_) s (.refl s)
  unfold takeFrame
  split
  · exact .of_eq rfl rfl
  · exact (takeRequest_storeKept _ _).after rfl rfl

/-! ### Starts -/

theorem startIn_storeKept (form : RestartForm) (s : State) : StoreKept s (startIn form s) := by
  cases form with
  | warm => exact .start (fun h => h.warm _) rfl
  | cold => exact .start (fun _ => .start _) rfl

theorem takeFrameSent_storeKept (s : State) : StoreKept s (takeFrameSent s) := by
  have next : StoreKept s (sendNext s) := (serve_storeKept _).after rfl rfl
  unfold takeFrameSent
  split
  · exact .refl s
  · split
    · split
      · exact startIn_storeKept _ s
      · exact next
    · exact next

/-! ### Arrivals and expiries -/

theorem frameArrives_storeKept (f : Frame) (s : State) : StoreKept s (frameArrives f s) :=
  (serve_storeKept _).after (by simp) (by simp)

theorem takeByte_storeKept (b : Byte) (stopBit : Bool) (s : State) : StoreKept s (takeByte b stopBit s) := by
  unfold takeByte
  split
  · exact .of_eq rfl rfl
  · split
    · exact .of_eq rfl rfl
    · split
      · exact .of_eq rfl rfl
      · unfold assembleByte
        split
        · exact .of_eq rfl rfl
        · exact .of_eq rfl rfl
        · exact frameArrives_storeKept _ s

theorem takeSaveWriteEnd_storeKept (verified : Bool) (s : State) : StoreKept s (takeSaveWriteEnd verified s) := by
  unfold takeSaveWriteEnd
  split
  · exact .refl s
  · dsimp only
    split
    · exact (serve_storeKept _).after rfl rfl
    · exact (serve_storeKept _).after rfl rfl

/-! ### Commands and steps -/

section
variable {s t : State}

/-- A command that a powered part takes. -/
theorem onPower_storeKept {f : State → State} (e : onPower s f = .next t) (hf : StoreKept s (f s)) : StoreKept s t := by
  obtain rfl := Host.Outcome.next.inj e
  split
  · exact hf
  · exact .refl s

/-- A command taken by an operation that leaves the store, and whose invoices follow. -/
theorem onPower_storeKept_of_follow {f : State → State} (e : onPower s f = .next t) (hstore : (f s).store = s.store)
    (h : InvoicesFollow s.invoices (f s).invoices) : StoreKept s t :=
  onPower_storeKept e (.of_follow hstore h)

theorem exec_arrival_storeKept {c : Instr} (hc : c.requestKind = none)
    (happend : ∀ station n gross net, c ≠ .append station n gross net) (e : exec c s = .next t) : StoreKept s t := by
  unfold exec at e
  cases c with
  | append station n gross net => exact absurd rfl (happend station n gross net)
  | sampleMark serial grams => exact onPower_storeKept_of_follow e (by simp) (takeSampleMark_follows serial grams (s.taken _))
  | stencilStatus serial a => exact onPower_storeKept_of_follow e (by simp) (takeStatus_follows serial a (s.taken _))
  | stencilJobRequest i template serial n =>
    exact onPower_storeKept_of_follow e (by simp) (takeJobRequest_follows i template serial n (s.taken _))
  | lineAcknowledge i => exact onPower_storeKept_of_follow e (by simp) (takeAcknowledge_follows i s)
  | sheetRequest n => exact onPower_storeKept e ((takeSheetRequest_storeKept n _).after rfl rfl)
  | chestEntryWritten => exact onPower_storeKept e (writeEntry_storeKept s)
  | frameReceived f => exact onPower_storeKept e (frameArrives_storeKept f s)
  | byteReceived b stopBit => exact onPower_storeKept e (takeByte_storeKept (dataByte b) stopBit s)
  | frameSent => exact onPower_storeKept e (takeFrameSent_storeKept s)
  | saveWriteEnd verified => exact onPower_storeKept e (takeSaveWriteEnd_storeKept verified s)
  | powerOn =>
    obtain rfl := Host.Outcome.next.inj e
    exact .start (fun _ => .start _) rfl
  | powerLoss => exact onPower_storeKept e (.start (fun _ => .start _) rfl)
  | sampleWord => exact onPower_storeKept e (.of_eq (by split <;> simp) (by split <;> simp))
  | frameGapTimeout => exact onPower_storeKept e (.of_eq (by split <;> rfl) (by split <;> rfl))
  | ackTimerExpiry => exact onPower_storeKept e (.of_eq (by simp) (by simp))
  | headFault => exact onPower_storeKept e (.of_eq (by simp) (by simp))
  | signalTimerExpiry => exact onPower_storeKept e (.of_eq (by simp) (by simp))
  | appendAnswer => exact onPower_storeKept e (.of_eq (by simp) (by simp))
  | tareSample => exact onPower_storeKept e (.of_eq (by simp) (by simp))
  | tareAnswer => exact onPower_storeKept e (.of_eq (by simp) (by simp))
  | reading => exact onPower_storeKept e (.of_eq (by simp) (by simp))
  | leaveReport => exact onPower_storeKept e (.of_eq (by simp) (by simp))
  | stallTimerExpiry => exact onPower_storeKept e (.of_eq (by simp) (by simp))
  | event => exact onPower_storeKept e (.of_eq (by simp) (by simp))
  | secondAdvance => exact onPower_storeKept e (.of_eq (by simp) (by simp))
  | captureWaitTimeout => exact onPower_storeKept e (.of_eq (by simp) (by simp))
  | slotDiscard => exact onPower_storeKept e (.of_eq (by simp) (by simp))
  | jobRemoval => exact onPower_storeKept e (.of_eq rfl rfl)
  | characterSent => exact onPower_storeKept e (.of_eq rfl rfl)
  | gatePulseEnd => exact onPower_storeKept e (.of_eq rfl rfl)
  | badFrame => exact onPower_storeKept e (.of_eq rfl rfl)
  | noticeOffer => exact onPower_storeKept e (.of_eq rfl rfl)
  | _ => contradiction

/-- An append changes an OPEN invoice or none, and so none with a written sheet. -/
theorem exec_append_storeSound {station : Fin 4} {n : Nat} {gross net : Int} (h : StoreSound s)
    (e : exec (.append station n gross net) s = .next t) : StoreSound t := by
  obtain rfl := Host.Outcome.next.inj e
  split
  · exact h.of_states (by simp) (takeAppend_states station n gross net (s.taken _))
  · exact h

theorem exec_storeSound {c : Instr} (ht : TableSound s.invoices) (h : StoreSound s) (e : exec c s = .next t) :
    StoreSound t := by
  have ready := StoreReady.of_sound h ht
  cases hk : c.requestKind with
  | none =>
    by_cases happend : ∃ station n gross net, c = .append station n gross net
    · obtain ⟨station, n, gross, net, rfl⟩ := happend
      exact exec_append_storeSound h e
    · exact (exec_arrival_storeKept hk (by simpa using happend) e ready).sound
  | some k =>
    by_cases hs : k = 0x36
    · obtain ⟨tag, rfl⟩ := eq_saveSettings (hs ▸ hk)
      exact (onPower_storeKept e (takeRequest_storeKept s (.saveSettings tag)) ready).sound
    · rw [exec_request_onPower s hk hs] at e
      exact (onPower_storeKept e ((takeRequest_storeKept s c).trans (serve_storeKept _)) ready).sound

end

/-- Settles O60: each command, and each of the part's own acts, keeps the record store sound. -/
theorem theRecordStoreStaysSound : Obligations.TheRecordStoreStaysSound := by
  unfold Obligations.TheRecordStoreStaysSound
  intro s t ht h e
  unfold step at e
  split at e
  · refine exec_storeSound ?_ ?_ e
    · exact ht
    · exact h.of_states rfl (InvoicesFollow.of_eq rfl).states
  · split at e
    · exact exec_storeSound ht h e
    · obtain rfl := Host.Outcome.next.inj e
      unfold idle
      split
      · exact h.of_states (by simp) (InvoicesFollow.of_eq (by simp)).states
      · exact h

end Sys2Proof.Machine
end

section
/-! SUPPORT. The lowest place that passes a test (R142, R183, R185): the window that gives a lot, the slot that holds a key and
the FREE slot; and the numbers of invoices (R1). -/

namespace Sys2Proof.Machine

theorem validInvoice_eq_true {n : Nat} (h1 : 1 ≤ n) (h2 : n ≤ 99999) : validInvoice n = true := within_eq_true.mpr ⟨h1, h2⟩

/-- The first place that passes is found. -/
theorem find_finRange_lowest {n : Nat} {p : Fin n → Bool} {i : Fin n} (hi : p i = true) (hlow : ∀ j, j < i → p j = false) :
    (List.finRange n).find? p = some i := by
  refine List.find?_eq_some_iff_getElem.mpr ⟨hi, i.val, by simp, by simp, fun j hj => ?_⟩
  simpa using hlow ⟨j, hj.trans i.isLt⟩ hj

theorem find_finRange_none {n : Nat} {p : Fin n → Bool} (h : ∀ i, p i = false) : (List.finRange n).find? p = none := by
  simp [List.find?_eq_none, h]

/-- With distinct keys the slot that holds a key is the one found (R183, R184). -/
theorem Link.findSlot_of_key {s : State} {i : Fin 4} {k : SlotKey} (hd : SlotKeysDistinct s)
    (hk : s.link.slots[i].key = some k) : s.link.findSlot k = some i := by
  refine find_finRange_lowest (by simpa using hk) fun j hj => ?_
  have other := hd i j (Fin.ne_of_gt hj) (by simp [-Fin.getElem_fin, hk])
  rw [hk] at other
  simpa using other.symm

theorem Link.freeSlot_lowest {l : Link} {i : Fin 4} (hi : l.slots[i] = .free)
    (hlow : ∀ j : Fin 4, j < i → l.slots[j] ≠ .free) : l.freeSlot = some i :=
  find_finRange_lowest (by simpa using hi) (by simpa using hlow)

theorem Link.freeSlot_none {l : Link} (h : ∀ i : Fin 4, l.slots[i] ≠ .free) : l.freeSlot = none :=
  find_finRange_none (by simpa using h)

/-- A window gives a number its lot: it is enabled and covers the number (R142). -/
def Window.Covers (w : Window) (n : Nat) : Prop := w.enabled = true ∧ w.base ≤ n ∧ n < w.base + w.span

theorem Store.lotOf_lowest {t : Store} {n : Nat} {i : Fin 4} (hi : t.windows[i].Covers n)
    (hlow : ∀ j : Fin 4, j < i → ¬ t.windows[j].Covers n) :
    t.lotOf n = some (i, t.windows[i].lotBase + (n - t.windows[i].base)) := by
  have found : ((List.finRange 4).find? fun i : Fin 4 =>
      t.windows[i].enabled && decide (t.windows[i].base ≤ n ∧ n < t.windows[i].base + t.windows[i].span)) = some i :=
    find_finRange_lowest (by simpa [Window.Covers] using hi) (by simpa [Window.Covers] using hlow)
  rw [Store.lotOf, found]
  rfl

theorem Store.lotOf_none {t : Store} {n : Nat} (h : ∀ i : Fin 4, ¬ t.windows[i].Covers n) : t.lotOf n = none := by
  rw [Store.lotOf, find_finRange_none (by simpa [Window.Covers] using h)]
  rfl

end Sys2Proof.Machine
end

section
/-! PROOF. WINDOW-SET and WINDOW-READ (R142 to R144). -/

namespace Sys2Proof.Machine

/-- The fields of WINDOW-SET, but for the flag, lie in range (R143). -/
def windowInRange (f : WindowFields) : Prop :=
  (f.span = 10 ∨ f.span = 100 ∨ f.span = 1000) ∧ f.base ≤ 99999 ∧ f.span ∣ f.base ∧ 1 ≤ f.lotBase ∧ f.lotBase ≤ 99999 ∧
    f.lotBase + f.span - 1 ≤ 99999

/-- The three checks of WINDOW-SET before its flag. -/
theorem windowInRange_iff (f : WindowFields) : windowInRange f ↔
    (f.span == 10 || f.span == 100 || f.span == 1000) = true ∧
      (within 0 99999 f.base && f.base % f.span == 0) = true ∧
      (within 1 99999 f.lotBase && decide (f.lotBase + f.span - 1 ≤ 99999)) = true := by
  simp only [windowInRange, Bool.or_eq_true, Bool.and_eq_true, beq_iff_eq, within_eq_true, decide_eq_true_iff,
    Nat.dvd_iff_mod_eq_zero, Nat.zero_le, true_and, and_assoc, or_assoc]

section
variable {tag : Byte} {s : State} {n : Nat}

theorem exec_windowSet_taken (hp : s.powered = true) (i : Fin 4) {f : WindowFields} {enabled : Bool}
    (hflag : f.enabled = flagCode enabled) (h : windowInRange f) : exec (.windowSet tag i f) s =
      .next (State.reply { s with store := { s.store with
        windows := s.store.windows.set i ⟨f.base, f.span, f.lotBase, enabled⟩ } } tag 0x2B
        (.ok (.windows (s.store.windows.set i ⟨f.base, f.span, f.lotBase, enabled⟩) none))) := by
  obtain ⟨hspan, hbase, hlot⟩ := (windowInRange_iff f).mp h
  refine onRequest_ok hp ?_
  rw [ownWindowSet, index_fin, ok_bind, require_pos hspan, ok_bind, require_pos hbase, ok_bind, require_pos hlot, ok_bind,
    hflag, flag_flagCode]
  rfl

theorem exec_windowSet_refused (hp : s.powered = true) (i : Fin 4) {f : WindowFields} (h : ¬ windowInRange f) :
    RefusedWithRange tag s (.windowSet tag i f) := by
  refine refused_of_rest hp rfl rfl rfl (index_refusesRangeOnly 4 i) fun i _ => ?_
  refine (require_refusesRangeOnly _).bind_range fun _ hspan => (require_refusesRangeOnly _).bind_range fun _ hbase => ?_
  exact bind_of_error _ (require_neg (fun hlot =>
    h ((windowInRange_iff f).mpr ⟨require_ok hspan, require_ok hbase, hlot⟩)) _)

theorem exec_windowSet_out_of_range (hp : s.powered = true) {f : WindowFields} (h : 3 < n ∨ 2 ≤ f.enabled) :
    RefusedWithRange tag s (.windowSet tag n f) := by
  refine refused_of_rest hp rfl rfl rfl (index_refusesRangeOnly 4 n) fun i hi => ?_
  have hflag : 2 ≤ f.enabled := h.resolve_left (Nat.not_lt.mpr (Nat.le_of_lt_succ (index_ok hi)))
  refine (require_refusesRangeOnly _).bind_range fun _ _ => (require_refusesRangeOnly _).bind_range fun _ _ =>
    (require_refusesRangeOnly _).bind_range fun _ _ => bind_of_error _ (flag_out_of_range _ hflag)

theorem exec_windowRead (hp : s.powered = true) (h1 : 1 ≤ n) (h2 : n ≤ 99999) :
    exec (.windowRead tag (some n)) s =
      .next (s.reply tag 0x2C (.ok (.windows s.store.windows (some (s.store.lotOf n))))) :=
  onRequest_ok hp (by
    rw [ownWindowRead, require_pos (validInvoice_eq_true h1 h2), ok_bind]
    rfl)

end

/-- Settles O43: the checks of WINDOW-SET refuse with RANGE only, and the lowest-numbered window that covers a number gives its
lot. -/
theorem windowsGiveTheLot : Obligations.WindowsGiveTheLot := by
  unfold Obligations.WindowsGiveTheLot
  intro tag s hp
  refine ⟨fun i f enabled hflag => ?_, fun n f h => (exec_windowSet_out_of_range hp h).exec_eq rfl, onRequest_ok hp rfl,
    fun n h => ?_, fun n h1 h2 => ⟨fun hnone => ?_, fun i hi hlow => ?_⟩⟩
  · split_ifs with h
    · exact exec_windowSet_taken hp i hflag h
    · exact (exec_windowSet_refused hp i h).exec_eq rfl
  · exact onRequest_refused hp (bind_of_error _ (require_validInvoice_out_of_range h))
  · rw [exec_windowRead hp h1 h2, Store.lotOf_none hnone]
  · rw [exec_windowRead hp h1 h2, Store.lotOf_lowest hi hlow]

end Sys2Proof.Machine
end

section
/-! SUPPORT. Sheet requests and builds, case by case (R149 to R152, R155, R156): space reserved or the invoice kept waiting, the
head written, the entries written, the slot that waits answered. -/

namespace Sys2Proof.Machine

section
variable {s : State} {n : Nat} {v : Invoice}

/-! ### Sheet requests (R149) -/

theorem exec_sheetRequest (hp : s.powered = true) (n : Nat) :
    exec (.sheetRequest n) s = .next (takeSheetRequest n (s.taken (.sheetRequest n))) :=
  onPower_powered hp fun s => takeSheetRequest n (s.taken (.sheetRequest n))

/-- A number in neither line. -/
theorem Store.inLine_eq_false {t : Store} (hwaiting : n ∉ t.waiting)
    (hreserved : ∀ h ∈ t.sheets, h.invoice = n → h.written = true) : t.inLine n = false := by
  simpa [Store.inLine] using And.intro hwaiting hreserved

theorem takeSheetRequest_reserves {page slot : Nat} (hv : s.invoices.find n = some v) (hst : v.record.state = .closing)
    (hline : s.store.inLine n = false) (hempty : s.store.waiting = [])
    (hplace : s.store.place (sheetSlots v.chests.length) = some (page, slot)) :
    takeSheetRequest n s = beginBuild { s with store := s.store.reserveAt n v.chests.length page slot } := by
  simp [takeSheetRequest, hv, hst, hline, hempty, Invoice.accepted, Store.reserve_of_place hplace]

theorem takeSheetRequest_waits (hv : s.invoices.find n = some v) (hst : v.record.state = .closing)
    (hline : s.store.inLine n = false)
    (h : s.store.waiting ≠ [] ∨ s.store.place (sheetSlots v.chests.length) = none) :
    takeSheetRequest n s = joinWaiting n v.chests.length s := by
  by_cases hempty : s.store.waiting = []
  · have hfull := Store.reserve_of_full (n := n) (h.resolve_left (not_not_intro hempty))
    simp [takeSheetRequest, hv, hst, hline, hempty, Invoice.accepted, hfull]
  · simp [takeSheetRequest, hv, hst, hline, hempty, Invoice.accepted]

theorem joinWaiting_eq (n chests : Nat) (s : State) : joinWaiting n chests s =
    ((s.withWaiting (s.store.waiting ++ [n])).setInvoiceState n .waiting).notify
      (.invoiceWaiting n (3 + (chests + 7) / 8) (s.store.waiting.length + 1)) := by
  have place : (s.store.waiting ++ [n]).length = s.store.waiting.length + 1 := List.length_append
  rw [← place]
  rfl

/-! ### The build (R150) -/

/-- The invoice of a number behind a lot enquiry: its lot resolved when it was UNRESOLVED (R94). -/
theorem lotEnquiry_find (n k : Nat) (s : State) : (lotEnquiry n s).invoices.find k =
    if k = n then (s.invoices.find n).map fun v =>
      { v with record := { v.record with lot := v.record.lot.resolved s.store n } }
    else s.invoices.find k := by
  have resolves : ∀ v : Invoice, { v with record :=
      if v.record.lot = .unresolved then { v.record with lot := s.store.binding n } else v.record } =
      { v with record := { v.record with lot := v.record.lot.resolved s.store n } } := fun v => by
    unfold LotBinding.resolved
    by_cases h : v.record.lot = .unresolved <;> simp [h]
  rw [lotEnquiry_eq]
  simp only [State.updateRecord, State.updateInvoice, resolves]
  exact InvoiceTable.find_update
    (f := fun v => { v with record := { v.record with lot := v.record.lot.resolved s.store n } }) (fun _ => rfl) k

section
variable {h : Sheet} {front back : List Sheet}

theorem beginBuild_none (hall : ∀ k ∈ s.store.sheets, k.written = true) : beginBuild s = s := by
  rw [beginBuild, Store.building_none hall]

theorem beginBuild_begun (e : s.store.sheets = front ++ h :: back) (hfront : ∀ k ∈ front, k.written = true)
    (hh : h.written = false) (hhead : h.head ≠ none) : beginBuild s = s := by
  obtain ⟨hd, hhead⟩ := Option.ne_none_iff_exists'.mp hhead
  simp only [beginBuild, Store.building_front e hfront hh, hhead]

/-- A build begins: the lot is resolved, and the head written from the record so resolved and the whole chest list. -/
theorem beginBuild_begins (e : s.store.sheets = front ++ h :: back) (hfront : ∀ k ∈ front, k.written = true)
    (hh : h.written = false) (hback : ∀ k ∈ back, k.invoice ≠ h.invoice) (hhead : h.head = none)
    (hv : s.invoices.find h.invoice = some v) :
    let w : Invoice := { v with record := { v.record with lot := v.record.lot.resolved s.store h.invoice } }
    beginBuild s = { s with
      invoices := (lotEnquiry h.invoice s).invoices
      store := { s.store with sheets := front ++ { h with head := some (sheetHead w s.clock.reading) } :: back } } := by
  intro w
  have found : (lotEnquiry h.invoice s).invoices.find h.invoice = some w := by
    rw [lotEnquiry_find, if_pos rfl, hv]
    rfl
  have written := Store.updateReserved_front e hfront hh hback fun t => { t with head := some (sheetHead w s.clock.reading) }
  simp only [beginBuild, Store.building_front e hfront hh, hhead, found]
  rw [State.updateSheet, ← written]
  rfl

/-! ### Entries and the end of a build (R151, R152, R156) -/

theorem writeEntry_none (hall : ∀ k ∈ s.store.sheets, k.written = true) : writeEntry s = s := by
  rw [writeEntry, Store.building_none hall]

theorem writeEntry_writes {hd : SheetHead} {c : Chest} (hb : s.store.building = some h) (hhead : h.head = some hd)
    (hv : s.invoices.find h.invoice = some v) (hc : v.chests[h.entries.length]? = some c) :
    let k := { h with entries := h.entries ++ [sheetEntry v.record c] }
    writeEntry s = if h.entries.length + 1 = h.chests then endBuild k s else s.updateSheet h.invoice fun _ => k := by
  simp [writeEntry, hb, hhead, hv, hc]

/-- The answer that carries a part of a sheet with its head written (spec/07 7.6, R155). -/
theorem Sheet.answer_of_head {hd : SheetHead} (hhead : h.head = some hd) (k : Nat) :
    h.answer k = some (.sheet h.invoice k ((h.chests + 39) / 40)
      (if k = 0 then .head hd else .entries ((h.entries.drop (40 * (k - 1))).take 40))) := by
  rw [Sheet.answer, Sheet.part, hhead]
  split <;> rfl

/-- The sheet is written, the invoice SHEETED, and both told (R152). -/
def sheetEnded (h : Sheet) (s : State) : State :=
  (((s.updateSheet h.invoice fun _ => { h with written := true }).setInvoiceState h.invoice .sheeted).raise 13
    ⟨none, some h.invoice, none⟩).notify (.invoiceSheeted h.invoice h.page h.first h.slots (h.head.bind fun d => d.lot))

theorem endBuild_eq (h : Sheet) (s : State) :
    endBuild h s = beginBuild (answerSheetSlot { h with written := true } (sheetEnded h s)) := rfl

theorem answerSheetSlot_none (hfree : ∀ i : Fin 4, s.link.slots[i].key ≠ some (.fetch h.invoice)) :
    answerSheetSlot h s = s := by
  rw [answerSheetSlot, Link.findSlot_eq_none hfree]

/-- The slot that waits for the sheet is READY with the part it holds (R156, R186). -/
theorem answerSheetSlot_ready {hd : SheetHead} {i : Fin 4} {part : Nat} {wait : Option Nat}
    (hdistinct : SlotKeysDistinct s) (hhead : h.head = some hd) (hslot : s.link.slots[i] = .waiting (.fetch h.invoice) (some part) wait) :
    answerSheetSlot h s =
      (s.setSlot i (.ready (.fetch h.invoice) (some part) .answer
        (some (.sheet h.invoice part ((h.chests + 39) / 40)
          (if part = 0 then .head hd else .entries ((h.entries.drop (40 * (part - 1))).take 40)))) 0)).notify
            (.slotReady i (.fetch h.invoice) .answer) := by
  have found : s.link.findSlot (.fetch h.invoice) = some i := Link.findSlot_of_key hdistinct (by rw [hslot]; rfl)
  rw [answerSheetSlot, found]
  simp only [hslot]
  rw [State.slotBecomesReady, hslot]
  simp only [Option.getD_some, Sheet.answer_of_head hhead]

end

end

end Sys2Proof.Machine
end

section
/-! PROOF. A sheet request reserves slots or waits, a build begins with the head, and the last entry ends the sheet (R145, R146,
R148 to R152, R156, R186). -/

namespace Sys2Proof.Machine

/-- Settles O44: a sheet request by the place there is for its sheet, and a build by the front sheet of the build line. -/
theorem sheetsAreReservedAndBegun : Obligations.SheetsAreReservedAndBegun := by
  unfold Obligations.SheetsAreReservedAndBegun
  refine ⟨fun s n v hp hv hst hwaiting hwritten => ?_, fun s front back hfront => ⟨fun e => ?_, fun h hh e =>
    ⟨beginBuild_begun e hfront hh, fun v hhead hv hback => ?_⟩⟩⟩
  · intro u z next reserved hpage
    have hline : s.store.inLine n = false := Store.inLine_eq_false hwaiting hwritten
    have hnext : next = nextPage s.store.freePage := (nextPage_eq hpage).symm
    refine ⟨fun hempty hfits => ?_, fun hempty hfull hfree => ?_, fun h => ?_⟩
    · rw [exec_sheetRequest hp, takeSheetRequest_reserves (s := u) hv hst hline hempty (Store.place_here hfits)]
      rfl
    · rw [hnext] at hfree ⊢
      rw [exec_sheetRequest hp, takeSheetRequest_reserves (s := u) hv hst hline hempty (Store.place_next hfull hfree)]
      rfl
    · rw [hnext] at h
      rw [exec_sheetRequest hp, takeSheetRequest_waits (s := u) hv hst hline
        (h.imp id fun ⟨hfull, hused⟩ => Store.place_none hfull hused), joinWaiting_eq]
      rfl
  · exact beginBuild_none (e ▸ hfront)
  · have built := beginBuild_begins e hfront hh hback hhead hv
    refine ⟨v.record.lot.resolved s.store h.invoice, _, fun hlot => if_neg hlot, fun hlot => if_pos hlot, rfl, beginBuild s,
      rfl, ?_, ?_, fun k hk => ?_, ?_, ?_⟩
    · rw [built]
      rfl
    · rw [built]
      exact (lotEnquiry_find _ _ s).trans (by rw [if_pos rfl, hv]; rfl)
    · rw [built]
      exact (lotEnquiry_find _ _ s).trans (if_neg hk)
    · rw [built]
      rfl
    · rw [built]
      rfl

/-- Settles O45: an entry is written into the front sheet, and the last of them ends its build. -/
theorem entriesEndTheSheet : Obligations.EntriesEndTheSheet := by
  unfold Obligations.EntriesEndTheSheet
  intro s hp
  have taken : exec .chestEntryWritten s = .next (writeEntry s) := onPower_powered hp writeEntry
  refine ⟨fun hall => by rw [taken, writeEntry_none hall], fun front back h hd v c e hfront hh hhead hback hv hc => ?_⟩
  intro entries stored
  have hb := Store.building_front e hfront hh
  have writes := writeEntry_writes hb hhead hv hc
  refine ⟨fun hmore => ?_, fun hlast => ?_⟩
  · have updated := Store.updateReserved_front e hfront hh hback fun _ => { h with entries := entries }
    have reserved : ({ h with entries := entries, written := false } : Sheet) = { h with entries := entries } := by
      rw [← hh]
    rw [taken, writes, if_neg hmore]
    simp only [stored, reserved]
    rw [← updated]
    rfl
  · intro u
    have updated := Store.updateReserved_front e hfront hh hback fun _ => { h with entries := entries, written := true }
    have ended : sheetEnded { h with entries := entries } s = u := by
      have lot : (h.head.bind fun d => d.lot) = hd.lot := by rw [hhead]; rfl
      simp only [u, stored, sheetEnded, lot]
      rw [← updated]
      rfl
    have last : writeEntry s = beginBuild (answerSheetSlot { h with entries := entries, written := true } u) := by
      rw [writes, if_pos hlast, endBuild_eq, ← ended]
      rfl
    refine ⟨fun hfree => ?_, fun i part wait hdistinct hslot => ?_⟩
    · rw [taken, last, answerSheetSlot_none]
      exact hfree
    · rw [taken, last,
        answerSheetSlot_ready (s := u) (h := { h with entries := entries, written := true }) hdistinct hhead hslot]

end Sys2Proof.Machine
end

section
/-! PROOF. SHEET-FETCH is answered at once or through a slot (R155, R156, R184, R185). -/

namespace Sys2Proof.Machine

/-- The one element of a list that passes is found. -/
theorem find_of_unique {α : Type} {l : List α} {p : α → Bool} {a : α} (ha : a ∈ l) (hp : p a = true)
    (hone : ∀ b ∈ l, p b = true → b = a) : l.find? p = some a := by
  obtain ⟨b, hb⟩ := Option.isSome_iff_exists.mp (List.find?_isSome.mpr ⟨a, ha, hp⟩)
  rw [hb, hone b (List.mem_of_find?_eq_some hb) (List.find?_some hb)]

/-- A part number above the last is refused with RANGE (R155, R160). -/
theorem require_part {β : Type} {k last : Nat} (f : Unit → Except Reason β) :
    (require (decide (k ≤ last)) .range >>= f) = if last < k then .error .range else f () := by
  rw [require_bind]
  by_cases hpart : last < k
  · rw [if_neg (by simpa using hpart), if_pos hpart]
  · rw [if_pos (by simpa using hpart), if_neg hpart]

section
variable {s : State} {n k : Nat}

/-! ### A slot of the invoice (R184) -/

theorem ownSheetFetch_of_slot {i : Fin 4} (hdistinct : SlotKeysDistinct s) (hk : s.link.slots[i].key = some (.fetch n)) :
    ownSheetFetch n k s = answerFromSlot s i := by
  rw [ownSheetFetch, Link.findSlot_of_key hdistinct hk]

theorem ownSheetFetch_waiting {i : Fin 4} {part wait : Option Nat} (hdistinct : SlotKeysDistinct s)
    (hslot : s.link.slots[i] = .waiting (.fetch n) part wait) : ownSheetFetch n k s = .ok (s, .pending i) := by
  rw [ownSheetFetch_of_slot hdistinct (by rw [hslot]; rfl), answerFromSlot, hslot]

theorem ownSheetFetch_ready {i : Fin 4} {part : Option Nat} {o : SlotOutcome} {a : Option SlotAnswer} {disc : Nat}
    (hdistinct : SlotKeysDistinct s) (hslot : s.link.slots[i] = .ready (.fetch n) part o a disc) :
    ownSheetFetch n k s = okWith (s.setSlot i .free) (.delivered (some i) (.fetch n) o a) := by
  rw [ownSheetFetch_of_slot hdistinct (by rw [hslot]; rfl), answerFromSlot, hslot]

/-! ### The sheet builder (R155, R156) -/

theorem ownSheetFetch_of_no_slot (hfree : ∀ i : Fin 4, s.link.slots[i].key ≠ some (.fetch n)) :
    ownSheetFetch n k s = ownFetch n k s := by
  rw [ownSheetFetch, Link.findSlot_eq_none hfree]

theorem find_written_none (hreserved : ∀ h ∈ s.store.sheets, h.invoice = n → h.written = false) :
    s.store.sheets.find? (fun h => h.invoice == n && h.written) = none := by
  simpa [List.find?_eq_none] using hreserved

section
variable (h1 : 1 ≤ n) (h2 : n ≤ 99999)
include h1 h2

/-- A written sheet answers with the part asked for, if it has one. -/
theorem ownFetch_written {h : Sheet} {hd : SheetHead} (hmem : h ∈ s.store.sheets) (hn : h.invoice = n)
    (hwritten : h.written = true) (hhead : h.head = some hd) (hone : ∀ g ∈ s.store.sheets, g.invoice = n → g = h) :
    ownFetch n k s = if (h.chests + 39) / 40 < k then .error .range else
      okWith s (.delivered none (.fetch n) .answer (some (.sheet n k ((h.chests + 39) / 40)
        (if k = 0 then .head hd else .entries ((h.entries.drop (40 * (k - 1))).take 40))))) := by
  have found : s.store.sheets.find? (fun h => h.invoice == n && h.written) = some h :=
    find_of_unique hmem (by simp [hn, hwritten]) fun g hg hpass => hone g hg (by simp_all)
  have last : lastSheetPart h.chests = (h.chests + 39) / 40 := rfl
  rw [ownFetch, require_pos (validInvoice_eq_true h1 h2), ok_bind, found]
  simp only [require_part, last, Sheet.answer_of_head hhead, hn]

variable (hreserved : ∀ h ∈ s.store.sheets, h.invoice = n → h.written = false)
include hreserved

/-- With no written sheet of its number an invoice in CLOSING or WAITING takes a slot for a part its sheet will have. -/
theorem ownFetch_promised {chests : Nat} (hc : closingChests n s = some chests) :
    ownFetch n k s = if (chests + 39) / 40 < k then .error .range else askSlot s (.fetch n) (some k) := by
  have last : lastSheetPart chests = (chests + 39) / 40 := rfl
  rw [ownFetch, require_pos (validInvoice_eq_true h1 h2), ok_bind, find_written_none hreserved]
  simp only [hc, require_part, last]

theorem ownFetch_refused (hc : closingChests n s = none) :
    ownFetch n k s = if (s.invoices.find n).isSome then .error .state else .error .notFound := by
  rw [ownFetch, require_pos (validInvoice_eq_true h1 h2), ok_bind, find_written_none hreserved]
  simp only [hc]

variable {v : Invoice} (hv : s.invoices.find n = some v)
include hv

theorem ownFetch_closing (hst : v.record.state = .closing ∨ v.record.state = .waiting) :
    ownFetch n k s = if (v.chests.length + 39) / 40 < k then .error .range else askSlot s (.fetch n) (some k) := by
  have chests : closingChests n s = some v.chests.length := by
    rcases hst with hst | hst <;> simp only [closingChests, hv, hst] <;> rfl
  exact ownFetch_promised h1 h2 hreserved chests

theorem ownFetch_open (hst : v.record.state = .opened ∨ v.record.state = .full) : ownFetch n k s = .error .state := by
  have chests : closingChests n s = none := by
    rcases hst with hst | hst <;> simp only [closingChests, hv, hst]
  rw [ownFetch_refused h1 h2 hreserved chests]
  simp [hv]

end

theorem askSlot_free {i : Fin 4} (hi : s.link.slots[i] = .free) (hlow : ∀ j : Fin 4, j < i → s.link.slots[j] ≠ .free) :
    askSlot s (.fetch n) (some k) = .ok (s.setSlot i (.waiting (.fetch n) (some k) none), .pending i) := by
  rw [askSlot, Link.freeSlot_lowest hi hlow]

theorem askSlot_busy (h : ∀ i : Fin 4, s.link.slots[i] ≠ .free) : askSlot s (.fetch n) (some k) = .error .busy := by
  rw [askSlot, Link.freeSlot_none h]

end

/-- Settles O46: SHEET-FETCH by the slot of its key, else by the sheet and the invoice of its number. -/
theorem fetchesAreAnsweredOrKeepASlot : Obligations.FetchesAreAnsweredOrKeepASlot := by
  unfold Obligations.FetchesAreAnsweredOrKeepASlot
  intro tag s n k hp h1 h2
  refine ⟨fun i part wait hslot hdistinct => onRequest_ok hp (ownSheetFetch_waiting hdistinct hslot),
    fun i part o a disc hslot hdistinct => onRequest_ok hp (ownSheetFetch_ready hdistinct hslot), fun hfree => ?_⟩
  have fetch := ownSheetFetch_of_no_slot (k := k) hfree
  refine ⟨fun h hd hmem hn hwritten hhead hone => ?_, fun hreserved => ⟨fun v hv hst => ?_, fun v hv hst => ?_⟩,
    fun hnone hv => ?_⟩
  · have answer := fetch.trans (ownFetch_written (k := k) h1 h2 hmem hn hwritten hhead hone)
    by_cases hpart : (h.chests + 39) / 40 < k
    · rw [if_pos hpart] at answer ⊢
      exact onRequest_refused hp answer
    · rw [if_neg hpart] at answer ⊢
      exact onRequest_ok hp answer
  · have answer := fetch.trans (ownFetch_closing (k := k) h1 h2 hreserved hv hst)
    refine ⟨fun hpart => onRequest_refused hp (answer.trans (if_pos hpart)), fun hpart => ?_⟩
    have asks := answer.trans (if_neg (Nat.not_lt.mpr hpart))
    exact ⟨fun i hi hlow => onRequest_ok hp (asks.trans (askSlot_free hi hlow)),
      fun hbusy => onRequest_refused hp (asks.trans (askSlot_busy hbusy))⟩
  · exact onRequest_refused hp (fetch.trans (ownFetch_open h1 h2 hreserved hv hst))
  · have chests : closingChests n s = none := by simp only [closingChests, hv]
    refine onRequest_refused hp (fetch.trans ?_)
    rw [ownFetch_refused h1 h2 (fun h hh e => absurd e (hnone h hh)) chests]
    simp [hv]

end Sys2Proof.Machine
end

section
/-! PROOF. SHEET-RELEASE frees the oldest written sheet and tries the waiting line, and STORE-READ reports (R153, R157, R158,
R160). -/

namespace Sys2Proof.Machine

section
variable {tag : Byte} {s : State} {n : Nat} {h : Sheet} {v : Invoice}

/-! ### The refusals (R157) -/

theorem ownSheetRelease_notFound (h1 : 1 ≤ n) (h2 : n ≤ 99999) (hnone : ∀ h ∈ s.store.sheets, h.invoice ≠ n) :
    ownSheetRelease n s = .error .notFound := by
  have absent : s.store.sheets.find? (fun h => h.invoice == n) = none := by simpa [List.find?_eq_none] using hnone
  rw [ownSheetRelease, require_pos (validInvoice_eq_true h1 h2), ok_bind, absent]
  rfl

/-- The one sheet of a number is released when it is written, the oldest and named by no job. -/
theorem ownSheetRelease_found (hmem : h ∈ s.store.sheets) (hone : ∀ g ∈ s.store.sheets, g.invoice = h.invoice → g = h)
    (h1 : 1 ≤ h.invoice) (h2 : h.invoice ≤ 99999) :
    ownSheetRelease h.invoice s =
      if h.written = true ∧ s.store.sheets.head? = some h ∧ ∀ j ∈ s.stencils.jobs, j.invoice ≠ h.invoice then
        okWith (releaseSheet h s) (.released h.invoice (releaseSheet h s).store.pagesInUse
          (releaseSheet h s).store.freePage (releaseSheet h s).store.freeSlot)
      else .error .state := by
  have found : s.store.sheets.find? (fun g => g.invoice == h.invoice) = some h :=
    find_of_unique hmem (by simp) (by simpa using hone)
  have oldest : (s.store.sheets.head?.map (·.invoice) == some h.invoice) = true ↔ s.store.sheets.head? = some h := by
    constructor
    · intro same
      obtain ⟨g, hg, hn⟩ := Option.map_eq_some_iff.mp (beq_iff_eq.mp same)
      rw [hg, hone g (List.mem_of_mem_head? hg) hn]
    · intro same
      simp [same]
  have unnamed : (!s.stencils.namesInvoice h.invoice) = true ↔ ∀ j ∈ s.stencils.jobs, j.invoice ≠ h.invoice := by
    simp [Formatter.namesInvoice]
  rw [ownSheetRelease, require_pos (validInvoice_eq_true h1 h2), ok_bind, found]
  simp only [orRefuse_some, ok_bind, require_bind, oldest, unnamed, ite_and]

/-! ### The release (R158) -/

/-- The part behind a release, before the waiting line is tried: the sheet out of the store, its invoice out of the table, and
the run it was bound to told. -/
def sheetOut (h : Sheet) (s : State) : State :=
  { s with
    store := { s.store with sheets := s.store.sheets.filter fun g => g.invoice != h.invoice }
    invoices := { s.invoices with invoices := s.invoices.invoices.filter fun v => v.record.number != h.invoice }
    bulking := match (s.invoices.find h.invoice).bind fun v => v.record.bulkRun with
      | some run => s.bulking.update run fun r => { r with bound := r.bound - 1 }
      | none => s.bulking }

theorem sheetReleased_eq (n : Nat) (s : State) : sheetReleased n s =
    { s with
      invoices := { s.invoices with invoices := s.invoices.invoices.filter fun v => v.record.number != n }
      bulking := match (s.invoices.find n).bind fun v => v.record.bulkRun with
        | some run => s.bulking.update run fun r => { r with bound := r.bound - 1 }
        | none => s.bulking } := by
  unfold sheetReleased
  cases hv : s.invoices.find n with
  | none =>
    have all_kept : s.invoices.invoices.filter (fun v => v.record.number != n) = s.invoices.invoices :=
      List.filter_eq_self.mpr (by simpa [InvoiceTable.find] using hv)
    rw [all_kept]
    rfl
  | some v => cases hrun : v.record.bulkRun <;> simp [invoiceLeaves, hrun] <;> rfl

/-- The waiting line is tried when no sheet is left on the page of the one released. -/
theorem releaseSheet_eq (h : Sheet) (s : State) : releaseSheet h s =
    if (sheetOut h s).store.inUse h.page then sheetOut h s else tryWaiting s.store.waiting (sheetOut h s) := by
  simp only [releaseSheet, sheetReleased_eq]
  by_cases hused : (sheetOut h s).store.inUse h.page = true
  · rw [if_pos hused, if_neg]
    · rfl
    · simpa [sheetOut, Store.inUse] using hused
  · rw [if_neg hused, if_pos]
    · rfl
    · simpa [sheetOut, Store.inUse] using hused

/-! ### The waiting line (R153) -/

theorem tryWaiting_reserves {page slot : Nat} (rest : List Nat) (hv : s.invoices.find n = some v)
    (hplace : s.store.place (sheetSlots v.chests.length) = some (page, slot)) :
    tryWaiting (n :: rest) s = tryWaiting rest (beginBuild
      (({ s with store := s.store.reserveAt n v.chests.length page slot } : State).setInvoiceState n .closing)) := by
  rw [tryWaiting, hv]
  simp only [Invoice.accepted, Store.reserve_of_place hplace]

theorem tryWaiting_full (rest : List Nat) (hv : s.invoices.find n = some v)
    (hplace : s.store.place (sheetSlots v.chests.length) = none) :
    tryWaiting (n :: rest) s = s.withWaiting (n :: rest) := by
  rw [tryWaiting, hv]
  simp only [Invoice.accepted, Store.reserve_of_full hplace]
  rfl

/-! ### STORE-READ (R160) -/

theorem ownStoreRead_eq (k : Nat) (s : State) : ownStoreRead k s =
    if (s.store.sheets.length + 31) / 32 < k then .error .range
    else if k = 0 then okWith s (.storeSummary s.store.freePage s.store.freeSlot s.store.pagesInUse s.store.sheets.length
      ((s.store.sheets.length + 31) / 32) (s.store.building.map fun h => (h.invoice, h.entries.length)) (waitingSlots s))
    else okWith s (.storeList ((s.store.sheets.length + 31) / 32)
      (((s.store.sheets.drop (32 * (k - 1))).take 32).map Sheet.line)) := by
  have last : ceilDiv s.store.sheets.length Config.storePartSize = (s.store.sheets.length + 31) / 32 := rfl
  simp only [ownStoreRead, require_part, last]
  rfl

end

/-- Settles O47: SHEET-RELEASE by its checks, the waiting line by the place there is, STORE-READ by its part. -/
theorem releasesFreeTheOldestSheet : Obligations.ReleasesFreeTheOldestSheet := by
  unfold Obligations.ReleasesFreeTheOldestSheet
  intro tag s hp
  refine ⟨fun n h1 h2 hnone => onRequest_refused hp (ownSheetRelease_notFound h1 h2 hnone),
    fun h hmem hone h1 h2 => ⟨fun hrefused => ?_, fun hwritten holdest hnamed => ?_⟩, fun n rest v hv => ?_, rfl, fun k => ?_⟩
  · refine onRequest_refused hp ((ownSheetRelease_found hmem hone h1 h2).trans (if_neg ?_))
    rintro ⟨hwritten, holdest, hnamed⟩
    rcases hrefused with h | h | ⟨j, hj, h⟩
    · simp [hwritten] at h
    · exact h holdest
    · exact hnamed j hj h
  · intro left u t
    have released : releaseSheet h s = t := by
      rw [releaseSheet_eq]
      simp only [Store.inUse_iff]
      rfl
    have answer := (ownSheetRelease_found hmem hone h1 h2).trans (if_pos ⟨hwritten, holdest, hnamed⟩)
    rw [released] at answer
    exact onRequest_ok hp answer
  · intro z next reserved hpage
    have hnext : next = nextPage s.store.freePage := (nextPage_eq hpage).symm
    rw [hnext]
    exact ⟨fun hfits => tryWaiting_reserves rest hv (Store.place_here hfits),
      fun hfull hfree => tryWaiting_reserves rest hv (Store.place_next hfull hfree),
      fun hfull hused => tryWaiting_full rest hv (Store.place_none hfull hused)⟩
  · have answer := ownStoreRead_eq k s
    split_ifs with hpart hzero
    · exact onRequest_refused hp (answer.trans (if_pos hpart))
    · exact onRequest_ok hp (answer.trans ((if_neg hpart).trans (if_pos hzero)))
    · exact onRequest_ok hp (answer.trans ((if_neg hpart).trans (if_neg hzero)))

end Sys2Proof.Machine
end

section
/-! PROOF. The date clock is set, rounded and advanced by the calendar (R164 to R168). -/

namespace Sys2Proof.Machine

/-! ### The calendar (R164) -/

theorem validReading_iff (r : ClockReading) :
    validReading r = true ↔ validDate r.date = true ∧ r.hour ≤ 23 ∧ r.minute ≤ 59 ∧ r.second ≤ 59 := by
  simp only [validReading, Bool.and_eq_true, within_eq_true, Nat.zero_le, true_and, and_assoc]

theorem nextDay_in_month {d : Date} (h : d.day < monthLength d.year d.month) :
    nextDay d = ⟨d.year, d.month, d.day + 1⟩ := if_pos h

theorem nextDay_at_month_end {d : Date} (h : d.day = monthLength d.year d.month) :
    nextDay d = if d.month < 12 then ⟨d.year, d.month + 1, 1⟩ else if d.year < 2099 then ⟨d.year + 1, 1, 1⟩
      else ⟨2000, 1, 1⟩ := if_neg h.not_lt

/-- The day after by the length of the month: within the month, at its end, at the end of a year, and after 2099. -/
theorem nextDay_eq_of_follows {d e : Date} {n : Nat} (hn : monthLength d.year d.month = n)
    (h : (d.day < n ∧ e = ⟨d.year, d.month, d.day + 1⟩) ∨ (d.day = n ∧ d.month < 12 ∧ e = ⟨d.year, d.month + 1, 1⟩) ∨
      (d.day = 31 ∧ d.month = 12 ∧ d.year < 2099 ∧ e = ⟨d.year + 1, 1, 1⟩) ∨
      (d.day = 31 ∧ d.month = 12 ∧ d.year = 2099 ∧ e = ⟨2000, 1, 1⟩)) : nextDay d = e := by
  subst hn
  have december_end (hday : d.day = 31) (hmonth : d.month = 12) : d.day = monthLength d.year d.month := by
    rw [hday, hmonth]; rfl
  rcases h with ⟨hday, rfl⟩ | ⟨hday, hmonth, rfl⟩ | ⟨hday, hmonth, hyear, rfl⟩ | ⟨hday, hmonth, hyear, rfl⟩
  · exact nextDay_in_month hday
  · rw [nextDay_at_month_end hday, if_pos hmonth]
  · rw [nextDay_at_month_end (december_end hday hmonth), if_neg hmonth.not_lt, if_pos hyear]
  · rw [nextDay_at_month_end (december_end hday hmonth), if_neg hmonth.not_lt, if_neg hyear.not_lt]

/-! ### The next minute and the next second (R164) -/

section
variable {r : ClockReading}

theorem nextMinute_in_hour (h : r.minute < 59) :
    nextMinute r = ({ r with minute := r.minute + 1, second := 0 }, false) := if_pos h

theorem nextMinute_in_day (hm : r.minute = 59) (hh : r.hour < 23) :
    nextMinute r = ({ r with hour := r.hour + 1, minute := 0, second := 0 }, false) :=
  (if_neg hm.not_lt).trans (if_pos hh)

theorem nextMinute_midnight (hm : r.minute = 59) (hh : r.hour = 23) : nextMinute r = (⟨nextDay r.date, 0, 0, 0⟩, true) :=
  (if_neg hm.not_lt).trans (if_neg hh.not_lt)

theorem nextSecond_in_minute (h : r.second < 59) : nextSecond r = ({ r with second := r.second + 1 }, false) := if_pos h

theorem nextSecond_carries (h : r.second = 59) : nextSecond r = nextMinute r := if_neg h.not_lt

theorem roundReading_down (h : r.second < 30) : roundReading r = ({ r with second := 0 }, false) := if_pos h

theorem roundReading_up (h : 30 ≤ r.second) : roundReading r = nextMinute r := if_neg (Nat.not_lt.mpr h)

end

/-! ### The commands of the clock (R164, R166, R167) -/

section
variable {tag : Byte} {s : State} {r : ClockReading} (hp : s.powered = true)
include hp

theorem exec_clockSet (tag : Byte) (r : ClockReading) : exec (.clockSet tag r) s =
    if validReading r = true then .next ((s.setClock r).reply tag 0x30 (.ok (.clock (some r))))
    else .next (s.reply tag 0x30 (.refused .range)) :=
  onRequest_checked hp (by rw [ownClockSet, require_bind, okWith])

theorem exec_secondAdvance_unset (hr : s.clock.reading = none) : exec .secondAdvance s = .next s :=
  (onPower_powered hp takeSecond).trans (by rw [takeSecond, hr])

theorem exec_secondAdvance_running (hr : s.clock.reading = some r) :
    exec .secondAdvance s = .next (moveClock (nextSecond r) s) :=
  (onPower_powered hp takeSecond).trans (by rw [takeSecond, hr])

theorem exec_clockRound_unset (hr : s.clock.reading = none) :
    exec (.clockRound tag) s = .next (s.reply tag 0x31 (.refused .state)) :=
  onRequest_refused hp (by rw [ownClockRound, hr, orRefuse_none, error_bind])

theorem exec_clockRound_running (hr : s.clock.reading = some r) : exec (.clockRound tag) s =
    .next ((moveClock (roundReading r) s).reply tag 0x31 (.ok (.clockRounded (roundReading r).1))) :=
  onRequest_ok hp (by rw [ownClockRound, hr, orRefuse_some, ok_bind, okWith])

/-- The advance at second 59 and the rounding from second 30 on both move the clock to the next minute. -/
theorem exec_nextMinute {next : ClockReading × Bool} (hr : s.clock.reading = some r) (hnext : nextMinute r = next) :
    (r.second = 59 → exec .secondAdvance s = .next (moveClock next s)) ∧
    (30 ≤ r.second → exec (.clockRound tag) s =
      .next ((moveClock next s).reply tag 0x31 (.ok (.clockRounded next.1)))) := by
  subst hnext
  refine ⟨fun h => ?_, fun h => ?_⟩
  · rw [exec_secondAdvance_running hp hr, nextSecond_carries h]
  · rw [exec_clockRound_running hp hr, roundReading_up h]

end

/-- Settles O48: the commands move the clock as `nextSecond` and `roundReading` say, which carry by the calendar. -/
theorem theClockFollowsTheCalendar : Obligations.TheClockFollowsTheCalendar := by
  unfold Obligations.TheClockFollowsTheCalendar
  intro days real tomorrow tag s hp
  have valid (r : ClockReading) : validReading r = true ↔ real r := by
    rw [validReading_iff, validDate_iff]
    simp only [and_assoc]
    rfl
  refine ⟨fun r hreal => ?_, fun r hunreal => ?_, onRequest_ok hp rfl,
    fun hr => ⟨exec_secondAdvance_unset hp hr, exec_clockRound_unset hp hr⟩, fun r hr hreal => ?_⟩
  · exact (exec_clockSet hp tag r).trans (if_pos ((valid r).mpr hreal))
  · exact (exec_clockSet hp tag r).trans (if_neg (mt (valid r).mp hunreal))
  intro reading midnight
  refine ⟨fun h => ?_, fun h => ?_, fun hm x hx => ?_, fun hm hh x hx => ?_, fun hm hh e he => ?_⟩
  · exact (exec_secondAdvance_running hp hr).trans (by rw [nextSecond_in_minute h]; rfl)
  · exact (exec_clockRound_running hp hr).trans (by rw [roundReading_down h]; rfl)
  · exact exec_nextMinute hp hr (hx ▸ nextMinute_in_hour hm)
  · exact exec_nextMinute hp hr (hx ▸ nextMinute_in_day hm hh)
  · obtain ⟨-, -, hmonth1, hmonth12, -⟩ := hreal
    have hday : nextDay r.date = e := nextDay_eq_of_follows (monthLength_eq hmonth1 hmonth12) he
    exact exec_nextMinute hp hr (hday ▸ nextMinute_midnight hm hh)

end Sys2Proof.Machine
end

section
/-! SUPPORT. The owners' answers (spec/09 9.4): a request taken is answered with its data, and only a capture or a fetch
may be answered PENDING (R178, R185). -/

namespace Sys2Proof.Machine

/-- An owner answers with data at once, or refuses. -/
def AnswersWithData (a : Answer) : Prop := ∀ u form, a = .ok (u, form) → ∃ d, form = .ok d

theorem AnswersWithData.okWith (s : State) (d : OkData) : AnswersWithData (okWith s d) := fun _ _ h =>
  ⟨d, (Prod.mk.inj (Except.ok.inj h)).2.symm⟩

theorem AnswersWithData.error (r : Reason) : AnswersWithData (.error r) := fun _ _ h => by contradiction

/-- A check of the request, or an object it names, comes before the answer. -/
theorem AnswersWithData.bind {α : Type} {first : Except Reason α} {rest : α → Answer}
    (h : ∀ v, AnswersWithData (rest v)) : AnswersWithData (first >>= rest) := by
  cases first with
  | error r => exact .error r
  | ok v => exact h v

theorem AnswersWithData.ite {c : Prop} [Decidable c] {a b : Answer} (ha : AnswersWithData a) (hb : AnswersWithData b) :
    AnswersWithData (if c then a else b) := by
  split
  · exact ha
  · exact hb

/-! ### Owners whose answer turns on a case of the state -/

theorem ownBulkNext_data (run : Nat) (s : State) : AnswersWithData (ownBulkNext run s) :=
  .bind fun _ => .bind fun _ => by
    split
    · exact .okWith _ _
    · exact .okWith _ _

theorem ownInvClose_data (number short : Nat) (s : State) : AnswersWithData (ownInvClose number short s) :=
  .bind fun _ => .bind fun _ => by
    split
    · exact .okWith _ _
    · exact .bind fun _ => .okWith _ _
    · exact .error _

theorem ownHeadResume_data (head : Nat) (s : State) : AnswersWithData (ownHeadResume head s) :=
  .bind fun _ => .bind fun _ => by
    split
    · exact .okWith _ _
    · exact .okWith _ _
    · exact .okWith _ _

theorem ownHeadSet_data (head setting : Nat) (s : State) : AnswersWithData (ownHeadSet head setting s) :=
  .bind fun _ => by
    split
    · exact .okWith _ _
    · exact .okWith _ _
    · exact .error _

theorem ownWindowRead_data (number : Option Nat) (s : State) : AnswersWithData (ownWindowRead number s) := by
  unfold ownWindowRead
  split
  · exact .okWith _ _
  · exact .bind fun _ => .okWith _ _

/-! ### Captures and fetches (R184, R185) -/

/-- An owner answers with data or PENDING, or refuses. -/
def AnswersOrWaits (a : Answer) : Prop := ∀ u r, a ≠ .ok (u, .refused r)

theorem AnswersWithData.orWaits {a : Answer} (h : AnswersWithData a) : AnswersOrWaits a := fun u r e => by
  obtain ⟨d, hd⟩ := h u _ e
  contradiction

theorem AnswersOrWaits.bind {α : Type} {first : Except Reason α} {rest : α → Answer}
    (h : ∀ v, AnswersOrWaits (rest v)) : AnswersOrWaits (first >>= rest) := by
  cases first with
  | error r => exact (AnswersWithData.error r).orWaits
  | ok v => exact h v

theorem askSlot_orWaits (s : State) (k : SlotKey) (part : Option Nat) : AnswersOrWaits (askSlot s k part) := by
  intro u r
  unfold askSlot
  split <;> simp

theorem answerFromSlot_orWaits (s : State) (i : Fin 4) : AnswersOrWaits (answerFromSlot s i) := by
  intro u r
  unfold answerFromSlot
  split <;> simp [okWith]

theorem ownWeighCapture_orWaits (station : Nat) (s : State) : AnswersOrWaits (ownWeighCapture station s) :=
  .bind fun i => by
    split
    · exact answerFromSlot_orWaits _ _
    · unfold ownCapture
      dsimp only
      split
      · exact (AnswersWithData.error _).orWaits
      · exact (AnswersWithData.error _).orWaits
      · split
        · exact (AnswersWithData.okWith _ _).orWaits
        · exact askSlot_orWaits _ _ _

theorem ownFetch_orWaits (n part : Nat) (s : State) : AnswersOrWaits (ownFetch n part s) :=
  .bind fun _ => by
    split
    · exact (AnswersWithData.bind fun _ => .okWith _ _).orWaits
    · split
      · exact .bind fun _ => askSlot_orWaits _ _ _
      · exact (AnswersWithData.ite (.error _) (.error _)).orWaits

theorem ownSheetFetch_orWaits (n part : Nat) (s : State) : AnswersOrWaits (ownSheetFetch n part s) := by
  unfold ownSheetFetch
  split
  · exact answerFromSlot_orWaits _ _
  · exact ownFetch_orWaits _ _ _

end Sys2Proof.Machine
end

section
/-! SUPPORT. The keys of the delayed-answer slots (R183): what changes them, and that no two slots come to share one. -/

namespace Sys2Proof.Machine

/-- The keys of the slots, slot by slot. -/
def Link.keys (l : Link) : Vector (Option SlotKey) 4 := l.slots.map Slot.key

theorem Link.keys_get (l : Link) (i : Fin 4) : l.keys[i] = l.slots[i].key := by simp [Link.keys]

theorem slotKeysDistinct_iff (s : State) :
    SlotKeysDistinct s ↔ ∀ i j : Fin 4, i ≠ j → s.link.keys[i] ≠ none → s.link.keys[i] ≠ s.link.keys[j] := by
  simp only [Link.keys_get]
  rfl

theorem SlotKeysDistinct.of_keys {s u : State} (h : u.link.keys = s.link.keys) (hs : SlotKeysDistinct s) :
    SlotKeysDistinct u := by
  rw [slotKeysDistinct_iff] at hs ⊢
  rwa [h]

/-- A slot may take a content whose key, if it has one, no other slot holds. -/
theorem SlotKeysDistinct.setSlot {s : State} (hs : SlotKeysDistinct s) (i : Fin 4) {c : Slot}
    (hc : c.key = none ∨ ∀ j : Fin 4, s.link.slots[j].key ≠ c.key) : SlotKeysDistinct (s.setSlot i c) := by
  have held : ∀ j : Fin 4, (s.setSlot i c).link.slots[j] = if j = i then c else s.link.slots[j] := by
    intro j
    by_cases hj : j = i
    · rw [if_pos hj, hj]
      exact vector_set_self _ _ _
    · rw [if_neg hj]
      exact vector_set_other _ _ _ _ hj
  intro a b hab hkey
  rw [held a] at hkey ⊢
  rw [held b]
  by_cases ha : a = i
  · have hb : b ≠ i := fun e => hab (ha.trans e.symm)
    rw [if_pos ha] at hkey ⊢
    rw [if_neg hb]
    exact ((hc.resolve_left hkey) b).symm
  · rw [if_neg ha] at hkey ⊢
    by_cases hb : b = i
    · rw [if_pos hb]
      rcases hc with hc | hc
      · rwa [hc]
      · exact hc a
    · rw [if_neg hb]
      exact hs a b hab hkey

theorem askSlot_distinct {s u : State} {k : SlotKey} {part : Option Nat} {form : Form} (hs : SlotKeysDistinct s)
    (hfree : s.link.findSlot k = none) (h : askSlot s k part = .ok (u, form)) : SlotKeysDistinct u := by
  have unheld : ∀ j : Fin 4, s.link.slots[j].key ≠ some k := by
    simpa [Link.findSlot, List.find?_eq_none] using hfree
  unfold askSlot at h
  split at h
  · obtain ⟨rfl, -⟩ := Prod.mk.inj (Except.ok.inj h)
    exact hs.setSlot _ (.inr unheld)
  · contradiction

theorem answerFromSlot_distinct {s u : State} {i : Fin 4} {form : Form} (hs : SlotKeysDistinct s)
    (h : answerFromSlot s i = .ok (u, form)) : SlotKeysDistinct u := by
  unfold answerFromSlot at h
  split at h
  · obtain ⟨rfl, -⟩ := Prod.mk.inj (Except.ok.inj h)
    exact hs
  · obtain ⟨rfl, -⟩ := Prod.mk.inj (Except.ok.inj h)
    exact hs.setSlot i (.inl rfl)
  · obtain ⟨rfl, -⟩ := Prod.mk.inj (Except.ok.inj h)
    exact hs

/-! ### Operations that keep every key -/

/-- A slot that becomes READY keeps its key (R186). -/
@[simp] theorem State.slotBecomesReady_keys (s : State) (i : Fin 4) (o : SlotOutcome) (a : Option SlotAnswer) :
    (s.slotBecomesReady i o a).link.keys = s.link.keys := by
  unfold State.slotBecomesReady
  split
  · rename_i k part wait hslot
    have hkey : s.link.keys[i] = some k := by rw [Link.keys_get, hslot]; rfl
    have hset :
        ((s.setSlot i (.ready k part o a 0)).notify (.slotReady i k o)).link.keys = s.link.keys.set i (some k) :=
      Vector.map_set ..
    rw [hset, ← hkey, vector_set_same]
  · rfl

@[simp] theorem State.slotArrival_keys (s : State) (k : SlotKey) (o : SlotOutcome) (a : Option SlotAnswer) :
    (s.slotArrival k o a).link.keys = s.link.keys := by
  unfold State.slotArrival
  split <;> simp

@[simp] theorem answerCapture_keys (i : Fin 4) (s : State) : (answerCapture i s).link.keys = s.link.keys :=
  State.slotArrival_keys ..

@[simp] theorem captureGone_keys (i : Fin 4) (s : State) : (captureGone i s).link.keys = s.link.keys :=
  State.slotArrival_keys ..

@[simp] theorem inRange_keys (i : Fin 4) (s : State) : (inRange i s).link.keys = s.link.keys := by
  unfold inRange
  dsimp only
  split <;> split <;> simp

@[simp] theorem weigh_keys (i : Fin 4) (x : Int) (s : State) : (weigh i x s).link.keys = s.link.keys := by
  unfold weigh
  dsimp only
  split <;> split <;> simp

@[simp] theorem takeSample_keys (i : Fin 4) (x : Int) (s : State) : (takeSample i x s).link.keys = s.link.keys := by
  unfold takeSample
  dsimp only
  split
  · rfl
  · split <;> simp
  · simp

@[simp] theorem takeSignalExpiry_keys (i : Fin 4) (s : State) : (takeSignalExpiry i s).link.keys = s.link.keys := by
  unfold takeSignalExpiry
  split
  · rfl
  · rfl
  · simp [loseSignal]

@[simp] theorem changeRole_keys (i : Fin 4) (old new : Role) (s : State) :
    (changeRole i old new s).link.keys = s.link.keys := by
  unfold changeRole
  dsimp only
  split <;> simp

@[simp] theorem applyConfig_keys (i : Fin 4) (new : StationSettings) (s : State) :
    (applyConfig i new s).link.keys = s.link.keys := by
  unfold applyConfig
  dsimp only
  split <;> split <;> simp

@[simp] theorem answerSheetSlot_keys (h : Sheet) (s : State) : (answerSheetSlot h s).link.keys = s.link.keys := by
  unfold answerSheetSlot
  split
  · rfl
  · split <;> simp

@[simp] theorem endBuild_keys (h : Sheet) (s : State) : (endBuild h s).link.keys = s.link.keys := by simp [endBuild]

@[simp] theorem writeEntry_keys (s : State) : (writeEntry s).link.keys = s.link.keys := by
  unfold writeEntry
  split
  · rfl
  · split
    · split
      · rfl
      · dsimp only
        split <;> simp
    · rfl

@[simp] theorem takeWaitTimeout_keys (i : Fin 4) (s : State) : (takeWaitTimeout i s).link.keys = s.link.keys := by
  unfold takeWaitTimeout
  split <;> simp

@[simp] theorem tick_keys (s : State) : (tick s).link.keys = s.link.keys := by
  have hkey : Slot.key ∘ Slot.tick = Slot.key := by
    funext c
    cases c <;> rfl
  simp [tick, Link.tick, Link.keys, hkey]

/-! ### Operations that free or ask for a slot -/

theorem takeDiscard_distinct {s : State} (i : Fin 4) (hs : SlotKeysDistinct s) :
    SlotKeysDistinct (takeDiscard i s) := by
  unfold takeDiscard
  split
  · exact hs.setSlot i (.inl rfl)
  · exact hs

theorem ownStationConfig_keys {r : StationConfigFields} {s u : State} {form : Form}
    (h : ownStationConfig r s = .ok (u, form)) : u.link.keys = s.link.keys := by
  obtain ⟨i, -, h⟩ := bind_eq_ok h
  obtain ⟨new, -, h⟩ := bind_eq_ok h
  obtain ⟨_, -, h⟩ := bind_eq_ok h
  obtain ⟨_, -, h⟩ := bind_eq_ok h
  obtain ⟨_, -, h⟩ := bind_eq_ok h
  obtain ⟨rfl, -⟩ := Prod.mk.inj (Except.ok.inj h)
  exact applyConfig_keys i new s

theorem ownCapture_distinct {i : Fin 4} {s u : State} {form : Form} (hs : SlotKeysDistinct s)
    (hfree : s.link.findSlot (.capture i) = none) (h : ownCapture i s = .ok (u, form)) : SlotKeysDistinct u := by
  unfold ownCapture at h
  dsimp only at h
  split at h
  · contradiction
  · contradiction
  · split at h
    · obtain ⟨rfl, -⟩ := Prod.mk.inj (Except.ok.inj h)
      exact hs
    · exact askSlot_distinct hs hfree h

theorem ownWeighCapture_distinct {station : Nat} {s u : State} {form : Form} (hs : SlotKeysDistinct s)
    (h : ownWeighCapture station s = .ok (u, form)) : SlotKeysDistinct u := by
  obtain ⟨i, -, h⟩ := bind_eq_ok h
  split at h
  · exact answerFromSlot_distinct hs h
  · rename_i hfree
    exact ownCapture_distinct hs hfree h

theorem ownFetch_distinct {n part : Nat} {s u : State} {form : Form} (hs : SlotKeysDistinct s)
    (hfree : s.link.findSlot (.fetch n) = none) (h : ownFetch n part s = .ok (u, form)) : SlotKeysDistinct u := by
  obtain ⟨_, -, h⟩ := bind_eq_ok h
  split at h
  · obtain ⟨_, -, h⟩ := bind_eq_ok h
    obtain ⟨rfl, -⟩ := Prod.mk.inj (Except.ok.inj h)
    exact hs
  · split at h
    · obtain ⟨_, -, h⟩ := bind_eq_ok h
      exact askSlot_distinct hs hfree h
    · split at h <;> contradiction

theorem ownSheetFetch_distinct {n part : Nat} {s u : State} {form : Form} (hs : SlotKeysDistinct s)
    (h : ownSheetFetch n part s = .ok (u, form)) : SlotKeysDistinct u := by
  unfold ownSheetFetch at h
  split at h
  · exact answerFromSlot_distinct hs h
  · rename_i hfree
    exact ownFetch_distinct hs hfree h

end Sys2Proof.Machine
end

section
/-! SUPPORT. Every request but SAVE-SETTINGS and RESTART has an owner (R178): what its answer may do, request by
request. -/

namespace Sys2Proof.Machine

/-- What an owner's answer to a request of a kind may do: it leaves the lines of the link controller and its slots under
distinct keys, no refusal is an answer of a request taken, and only a capture or a fetch may wait (spec/09 9.4,
R185). -/
structure OwnerAnswers (kind : Byte) (s : State) (a : Answer) : Prop where
  lines : ∀ u form, a = .ok (u, form) → LinesKept s u
  distinct : ∀ u form, a = .ok (u, form) → SlotKeysDistinct s → SlotKeysDistinct u
  orWaits : AnswersOrWaits a
  pending : ∀ u i, a = .ok (u, .pending i) → kind = 0x05 ∨ kind = 0x2D

/-- A request is answered by its owner, if it is one that is answered as it is taken. -/
def OwnerServes (i : Instr) (s : State) : Prop := ∀ k, i.requestKind = some k → k ≠ 0x36 → k ≠ 0x37 →
  ∃ a, takeRequest i s = answerRequest i.requestTag k s a ∧ OwnerAnswers k s a

section
variable {i : Instr} {k : Byte} {s : State} {a : Answer}

theorem OwnerServes.of_answers (hk : i.requestKind = some k) (he : takeRequest i s = answerRequest i.requestTag k s a)
    (ha : OwnerAnswers k s a) : OwnerServes i s := fun _ h _ _ => by
  obtain rfl := Option.some.inj (hk.symm.trans h)
  exact ⟨a, he, ha⟩

/-- An owner that answers with data and leaves the slots' keys. -/
theorem OwnerServes.of_keys (hk : i.requestKind = some k) (he : takeRequest i s = answerRequest i.requestTag k s a)
    (hl : ∀ u form, a = .ok (u, form) → LinesKept s u)
    (hkeys : ∀ u form, a = .ok (u, form) → u.link.keys = s.link.keys) (hd : AnswersWithData a) : OwnerServes i s :=
  .of_answers hk he ⟨hl, fun u form e h => h.of_keys (hkeys u form e), hd.orWaits, fun u j e => by
    obtain ⟨d, hform⟩ := hd u _ e
    contradiction⟩

/-- An owner that answers with data and leaves the link controller. -/
theorem OwnerServes.of_link (hk : i.requestKind = some k) (he : takeRequest i s = answerRequest i.requestTag k s a)
    (hl : ∀ u form, a = .ok (u, form) → u.link = s.link) (hd : AnswersWithData a) : OwnerServes i s :=
  .of_keys hk he (fun u form e => .of_link (hl u form e)) (fun u form e => congrArg Link.keys (hl u form e)) hd

/-- An arrival has no owner. -/
theorem OwnerServes.of_none (hk : i.requestKind = none) : OwnerServes i s := fun _ h => by
  rw [hk] at h
  contradiction

end

theorem okWith_state {t u : State} {d : OkData} {form : Form} (h : okWith t d = .ok (u, form)) : u = t :=
  (Prod.mk.inj (Except.ok.inj h)).1.symm

theorem ownStatus_keys {s u : State} {form : Form} (h : ownStatus s = .ok (u, form)) : u.link.keys = s.link.keys := by
  rw [okWith_state h]
  rfl

theorem ownNoticeMask_keys {flags : Vector Nat 7} {s u : State} {form : Form}
    (h : ownNoticeMask flags s = .ok (u, form)) : u.link.keys = s.link.keys := by
  obtain ⟨mask, -, h⟩ := bind_eq_ok h
  rw [okWith_state h]
  rfl

theorem ownLinkSpeed_keys {speed : Nat} {s u : State} {form : Form} (h : ownLinkSpeed speed s = .ok (u, form)) :
    u.link.keys = s.link.keys := by
  obtain ⟨_, -, h⟩ := bind_eq_ok h
  rw [okWith_state h]
  rfl

/-- Every request that is answered as it is taken is answered by its owner. -/
theorem request_ownerServes (s : State) : ∀ i, OwnerServes i s
  | .weighCapture .. => .of_answers rfl rfl ⟨fun _ _ e => ownWeighCapture_lines e,
      fun _ _ e h => ownWeighCapture_distinct h e, ownWeighCapture_orWaits _ _, fun _ _ _ => .inl rfl⟩
  | .sheetFetch .. => .of_answers rfl rfl ⟨fun _ _ e => ownSheetFetch_lines e,
      fun _ _ e h => ownSheetFetch_distinct h e, ownSheetFetch_orWaits _ _ _, fun _ _ _ => .inr rfl⟩
  | .stationConfig .. => .of_keys rfl rfl (fun _ _ e => ownStationConfig_lines e) (fun _ _ e => ownStationConfig_keys e)
      (.bind fun _ => .bind fun _ => .bind fun _ => .bind fun _ => .bind fun _ => .okWith _ _)
  | .stationCal .. => .of_link rfl rfl (fun _ _ e => by simp [ownStationCal_keeps _ _ _ _ e])
      (.bind fun _ => .bind fun _ => .bind fun _ => .okWith _ _)
  | .stationRestart .. => .of_link rfl rfl (fun _ _ e => by simp [ownStationRestart_keeps _ _ e])
      (.bind fun _ => .bind fun _ => .okWith _ _)
  | .stationZero .. => .of_link rfl rfl (fun _ _ e => by simp [ownStationZero_keeps _ _ e])
      (.bind fun _ => .bind fun _ => .bind fun _ => .okWith _ _)
  | .stationRead .. => .of_link rfl rfl (fun _ _ e => by simp [ownStationRead_keeps _ _ e])
      (.bind fun _ => .okWith _ _)
  | .packtypeSet .. => .of_link rfl rfl (fun _ _ e => by simp [ownPacktypeSet_keeps _ _ _ _ _ e])
      (.bind fun _ => .bind fun _ => .okWith _ _)
  | .tareListClear .. => .of_link rfl rfl (fun _ _ e => by simp [ownTareListClear_keeps _ _ e])
      (.bind fun _ => .okWith _ _)
  | .tareListRead .. => .of_link rfl rfl (fun _ _ e => by simp [ownTareListRead_keeps _ _ e])
      (.bind fun _ => .okWith _ _)
  | .classSet .. => .of_link rfl rfl (fun _ _ e => by simp [ownClassSet_keeps _ _ e]) (.bind fun _ => .okWith _ _)
  | .bulkDefine .. => .of_link rfl rfl (fun _ _ e => by simp [ownBulkDefine_keeps _ _ _ _ e])
      (.bind fun _ => .bind fun _ => .okWith _ _)
  | .bulkStart .. => .of_link rfl rfl (fun _ _ e => by simp [ownBulkStart_keeps _ _ e])
      (.bind fun _ => .bind fun _ => .okWith _ _)
  | .bulkNext .. => .of_link rfl rfl (fun _ _ e => by simp [ownBulkNext_keeps _ _ e]) (ownBulkNext_data _ _)
  | .bulkHold .. => .of_link rfl rfl (fun _ _ e => by simp [ownBulkHold_keeps _ _ e])
      (.bind fun _ => .bind fun _ => .bind fun _ => .ite (.okWith _ _) (.okWith _ _))
  | .bulkResume .. => .of_link rfl rfl (fun _ _ e => by simp [ownBulkResume_keeps _ _ e])
      (.bind fun _ => .bind fun _ => .okWith _ _)
  | .bulkShort .. => .of_link rfl rfl (fun _ _ e => by simp [ownBulkShort_keeps _ _ e])
      (.bind fun _ => .bind fun _ => .bind fun _ => .bind fun _ => .ite (.okWith _ _) (.okWith _ _))
  | .bulkAbort .. => .of_link rfl rfl (fun _ _ e => by simp [ownBulkAbort_keeps _ _ e])
      (.bind fun _ => .bind fun _ => .okWith _ _)
  | .bulkRetire .. => .of_link rfl rfl (fun _ _ e => by simp [ownBulkRetire_keeps _ _ e])
      (.bind fun _ => .bind fun _ => .okWith _ _)
  | .bulkRead .. => .of_link rfl rfl (fun _ _ e => by simp [ownBulkRead_keeps _ _ e])
      (.ite (.okWith _ _) (.bind fun _ => .okWith _ _))
  | .bulkConfig .. => .of_link rfl rfl (fun _ _ e => by simp [ownBulkConfig_keeps _ _ _ _ e])
      (.bind fun _ => .bind fun _ => .bind fun _ => .okWith _ _)
  | .invOpen .. => .of_link rfl rfl (fun _ _ e => by simp [ownInvOpen_keeps _ _ e])
      (.bind fun _ => .bind fun _ => .bind fun _ => .bind fun _ => .bind fun _ => .bind fun _ => .bind fun _ =>
        .bind fun _ => .bind fun _ => .okWith _ _)
  | .invAmend .. => .of_link rfl rfl (fun _ _ e => by simp [ownInvAmend_keeps _ _ _ e])
      (.bind fun _ => .bind fun _ => .bind fun _ => .bind fun _ => .bind fun _ => .bind fun _ => .bind fun _ =>
        .bind fun _ => .bind fun _ => .ite (.okWith _ _) (.okWith _ _))
  | .invRead .. => .of_link rfl rfl (fun _ _ e => by simp [ownInvRead_keeps _ _ _ e])
      (.ite (.bind fun _ => .okWith _ _) (.bind fun _ => .bind fun _ => .ite (.okWith _ _) (.okWith _ _)))
  | .invVoidLast .. => .of_link rfl rfl (fun _ _ e => by simp [ownInvVoidLast_keeps _ _ _ e])
      (.bind fun _ => .bind fun _ => .bind fun _ => .bind fun _ => .bind fun _ => .bind fun _ => .okWith _ _)
  | .invClose .. => .of_link rfl rfl (fun _ _ e => by simp [ownInvClose_keeps _ _ _ e]) (ownInvClose_data _ _ _)
  | .invCancel .. => .of_link rfl rfl (fun _ _ e => by simp [ownInvCancel_keeps _ _ e])
      (.bind fun _ => .bind fun _ => .okWith _ _)
  | .stationQueueAdd .. => .of_link rfl rfl (fun _ _ e => by simp [ownStationQueueAdd_keeps _ _ _ e])
      (.bind fun _ => .bind fun _ => .bind fun _ => .bind fun _ => .bind fun _ => .okWith _ _)
  | .stationQueueRemove .. => .of_link rfl rfl (fun _ _ e => by simp [ownStationQueueRemove_keeps _ _ _ e])
      (.bind fun _ => .bind fun _ => .bind fun _ => .okWith _ _)
  | .vectorSet .. => .of_link rfl rfl (fun _ _ e => by simp [ownVectorSet_keeps _ _ _ e])
      (.bind fun _ => .bind fun _ => .okWith _ _)
  | .actionSetWrite .. => .of_link rfl rfl (fun _ _ e => by simp [ownActionSetWrite_keeps _ _ _ e])
      (.bind fun _ => .bind fun _ => .okWith _ _)
  | .actionSetRead .. => .of_link rfl rfl (fun _ _ e => by simp [ownActionSetRead_keeps _ _ e])
      (.bind fun _ => .okWith _ _)
  | .templateLoad .. => .of_link rfl rfl (fun _ _ e => by simp [ownTemplateLoad_keeps _ _ _ e])
      (.bind fun _ => .bind fun _ => .bind fun _ => .okWith _ _)
  | .templateRead .. => .of_link rfl rfl (fun _ _ e => by simp [ownTemplateRead_keeps _ _ e])
      (.bind fun _ => .okWith _ _)
  | .stencilRequest .. => .of_link rfl rfl (fun _ _ e => by simp [ownStencilRequest_keeps _ _ _ _ _ e])
      (.bind fun _ => .bind fun _ => .bind fun _ => .bind fun _ => .bind fun _ => .bind fun _ => .bind fun _ =>
        .okWith _ _)
  | .headResume .. => .of_link rfl rfl (fun _ _ e => by simp [ownHeadResume_keeps _ _ e]) (ownHeadResume_data _ _)
  | .headReline .. => .of_link rfl rfl (fun _ _ e => by simp [ownHeadReline_keeps _ _ e])
      (.bind fun _ => .bind fun _ => .okWith _ _)
  | .headSkip .. => .of_link rfl rfl (fun _ _ e => by simp [ownHeadSkip_keeps _ _ e])
      (.bind fun _ => .bind fun _ => .okWith _ _)
  | .headReset .. => .of_link rfl rfl (fun _ _ e => by simp [ownHeadReset_keeps _ _ e]) (.bind fun _ => .okWith _ _)
  | .headSet .. => .of_link rfl rfl (fun _ _ e => by simp [ownHeadSet_keeps _ _ _ e]) (ownHeadSet_data _ _ _)
  | .headRead .. => .of_link rfl rfl (fun _ _ e => by simp [ownHeadRead_keeps _ _ e]) (.bind fun _ => .okWith _ _)
  | .windowSet .. => .of_link rfl rfl (fun _ _ e => by simp [ownWindowSet_keeps _ _ _ e])
      (.bind fun _ => .bind fun _ => .bind fun _ => .bind fun _ => .bind fun _ => .okWith _ _)
  | .windowRead .. => .of_link rfl rfl (fun _ _ e => by simp [ownWindowRead_keeps _ _ e]) (ownWindowRead_data _ _)
  | .sheetRelease .. => .of_link rfl rfl (fun _ _ e => by simp [ownSheetRelease_keeps _ _ e])
      (.bind fun _ => .bind fun _ => .bind fun _ => .bind fun _ => .bind fun _ => .okWith _ _)
  | .storeRead .. => .of_link rfl rfl (fun _ _ e => by simp [ownStoreRead_keeps _ _ e])
      (.bind fun _ => .ite (.okWith _ _) (.okWith _ _))
  | .clockSet .. => .of_link rfl rfl (fun _ _ e => by simp [ownClockSet_keeps _ _ e]) (.bind fun _ => .okWith _ _)
  | .clockRound .. => .of_link rfl rfl (fun _ _ e => by simp [ownClockRound_keeps _ e]) (.bind fun _ => .okWith _ _)
  | .noticeMask .. => .of_keys rfl rfl (fun _ _ e => ownNoticeMask_lines e) (fun _ _ e => ownNoticeMask_keys e)
      (.bind fun _ => .okWith _ _)
  | .linkSpeed .. => .of_keys rfl rfl (fun _ _ e => ownLinkSpeed_lines e) (fun _ _ e => ownLinkSpeed_keys e)
      (.bind fun _ => .okWith _ _)
  | .status .. => .of_keys rfl rfl (fun _ _ e => ownStatus_lines e) (fun _ _ e => ownStatus_keys e) (.okWith _ _)
  | .classRead .. => .of_link rfl rfl (fun _ _ e => congrArg State.link (okWith_state e)) (.okWith _ _)
  | .vectorRead .. => .of_link rfl rfl (fun _ _ e => congrArg State.link (okWith_state e)) (.okWith _ _)
  | .clockRead .. => .of_link rfl rfl (fun _ _ e => congrArg State.link (okWith_state e)) (.okWith _ _)
  | .saveSettings .. => fun _ h hs _ => absurd (Option.some.inj h).symm hs
  | .restart .. => fun _ h _ hr => absurd (Option.some.inj h).symm hr
  | .sampleWord .. | .signalTimerExpiry .. | .append .. | .appendAnswer .. | .tareSample .. | .tareAnswer ..
  | .reading .. | .leaveReport | .stallTimerExpiry | .sampleMark .. | .event .. | .gatePulseEnd ..
  | .stencilJobRequest .. | .stencilStatus .. | .jobRemoval .. | .characterSent .. | .lineAcknowledge ..
  | .ackTimerExpiry .. | .headFault .. | .sheetRequest .. | .chestEntryWritten | .secondAdvance | .frameReceived ..
  | .badFrame | .frameGapTimeout | .frameSent | .noticeOffer .. | .captureWaitTimeout .. | .slotDiscard ..
  | .saveWriteEnd .. | .powerOn | .powerLoss | .byteReceived .. => .of_none rfl

end Sys2Proof.Machine
end

section
/-! SUPPORT. The lines of the link controller (R174, R175, R179, R180): what the transmitter begins, what a notice
offered leaves, and that neither the transmitter nor the dispatcher could act when the line has been served. -/

namespace Sys2Proof.Machine

/-! ### The transmitter (R179) -/

theorem Link.beginSend_sending {l : Link} {f : OutFrame} (h : l.sending = some f) : l.beginSend = l := by
  simp [Link.beginSend, h]

theorem Link.beginSend_reply {l : Link} {r : Reply} {rs : List Reply} (h : l.sending = none)
    (hr : l.replies = r :: rs) :
    l.beginSend = { l with sending := some (.reply r), replies := rs } := by simp [Link.beginSend, h, hr]

theorem Link.beginSend_notice {l : Link} {k : Nat} {n : Notice} {ns : List (Nat × Notice)} (h : l.sending = none)
    (hr : l.replies = []) (hn : l.notices = (k, n) :: ns) :
    l.beginSend = { l with sending := some (.notice k n), notices := ns } := by simp [Link.beginSend, h, hr, hn]

theorem Link.beginSend_nothing {l : Link} (hr : l.replies = []) (hn : l.notices = []) : l.beginSend = l := by
  cases h : l.sending <;> simp [Link.beginSend, h, hr, hn]

/-- What the transmitter may do: nothing, or begin the oldest reply, or with no reply the oldest notice. -/
theorem Link.beginSend_cases (l : Link) :
    (l.beginSend = l ∧ (l.sending = none → l.replies = [] ∧ l.notices = [])) ∨
    (∃ r rs, l.sending = none ∧ l.replies = r :: rs ∧
      l.beginSend = { l with sending := some (.reply r), replies := rs }) ∨
    (∃ k n ns, l.replies = [] ∧ l.notices = (k, n) :: ns ∧
      l.beginSend = { l with sending := some (.notice k n), notices := ns }) := by
  cases h : l.sending with
  | some f => exact .inl ⟨Link.beginSend_sending h, nofun⟩
  | none =>
    cases hr : l.replies with
    | cons r rs => exact .inr (.inl ⟨r, rs, rfl, rfl, Link.beginSend_reply h hr⟩)
    | nil =>
      cases hn : l.notices with
      | cons p ns => exact .inr (.inr ⟨p.1, p.2, ns, rfl, rfl, by rw [Link.beginSend_notice h hr hn, hr]⟩)
      | nil => exact .inl ⟨Link.beginSend_nothing hr hn, fun _ => ⟨rfl, rfl⟩⟩

/-- Behind the transmitter nothing waits while it is free. -/
theorem Link.beginSend_served (l : Link) (h : l.beginSend.sending = none) :
    l.beginSend.replies = [] ∧ l.beginSend.notices = [] := by
  obtain ⟨e, hidle⟩ | ⟨r, rs, -, -, e⟩ | ⟨k, n, ns, -, -, e⟩ := l.beginSend_cases
  · rw [e] at h ⊢
    exact hidle h
  · rw [e] at h
    contradiction
  · rw [e] at h
    contradiction

/-- With no reply waiting the transmitter leaves the reply line. -/
theorem Link.beginSend_replies_eq {l : Link} (h : l.sending = none → l.replies = []) :
    l.beginSend.replies = l.replies := by
  obtain ⟨e, -⟩ | ⟨r, rs, hfree, hr, -⟩ | ⟨k, n, ns, -, -, e⟩ := l.beginSend_cases
  · rw [e]
  · rw [h hfree] at hr
    contradiction
  · rw [e]

theorem Link.beginSend_idle {l : Link} (h : l.sending = none → l.replies = [] ∧ l.notices = []) : l.beginSend = l := by
  cases hs : l.sending with
  | some f => exact Link.beginSend_sending hs
  | none => exact Link.beginSend_nothing (h hs).1 (h hs).2

theorem State.transmit_idle {s : State} (h : s.link.sending = none → s.link.replies = [] ∧ s.link.notices = []) :
    s.transmit = s := by
  rw [State.transmit, Link.beginSend_idle h]
  rfl

/-! ### The dispatcher (R175) -/

theorem Link.mayDispatch_iff (l : Link) : l.mayDispatch = true ↔ l.inHand = none ∧ ∀ r ∈ l.replies, r.busy = true := by
  simp [Link.mayDispatch]

theorem Link.mayDispatch_eq_false_iff (l : Link) :
    l.mayDispatch = false ↔ l.inHand ≠ none ∨ ∃ r ∈ l.replies, r.busy = false := by
  rw [← Bool.not_eq_true, Link.mayDispatch_iff]
  by_cases h : l.inHand = none <;> simp [h]

/-! ### Notices offered (R180) -/

theorem Link.offer_frame (l : Link) (n : Notice) : l.offer n =
    { l with
      notices := (l.offer n).notices, counter := (l.offer n).counter, noticesLost := (l.offer n).noticesLost } := by
  unfold Link.offer
  split
  · split <;> rfl
  · rfl

@[simp] theorem Link.offer_replies (l : Link) (n : Notice) : (l.offer n).replies = l.replies := by rw [Link.offer_frame]
@[simp] theorem Link.offer_sending (l : Link) (n : Notice) : (l.offer n).sending = l.sending := by rw [Link.offer_frame]
@[simp] theorem Link.offer_holding (l : Link) (n : Notice) : (l.offer n).holding = l.holding := by rw [Link.offer_frame]
@[simp] theorem Link.offer_inHand (l : Link) (n : Notice) : (l.offer n).inHand = l.inHand := by rw [Link.offer_frame]

/-! ### The line served (R175, R179) -/

/-- When the line has been served, neither the transmitter nor the dispatcher could act. -/
theorem State.serve_lineServed (s : State) : LineServed s.serve.link := by
  have idle : ∀ s : State, (s.link.holding = [] ∨ s.link.beginSend.mayDispatch = false) → LineServed s.serve.link := by
    intro s h
    rw [s.serve_idle h]
    refine ⟨s.link.beginSend_served, fun hwaits => ?_⟩
    exact (Link.mayDispatch_eq_false_iff _).mp (h.resolve_left (by simpa using hwaits))
  induction hn : s.link.holding.length generalizing s with
  | zero => exact idle s (.inl (List.eq_nil_of_length_eq_zero hn))
  | succ n ih =>
    obtain ⟨f, rest, hheld⟩ := List.exists_cons_of_length_eq_add_one hn
    cases hm : s.link.beginSend.mayDispatch with
    | false => exact idle s (.inr hm)
    | true =>
      rw [s.serve_dispatch f rest hheld hm]
      refine ih _ ?_
      rw [takeFrame_holding]
      simpa [hheld] using hn

end Sys2Proof.Machine
end

section
/-! SUPPORT. What a command keeps of the link controller (R174, R175, R179, R180, R183): its bounds, the distinct keys
of its slots and the line served; most commands leave its lines and the keys as they are. -/

namespace Sys2Proof.Machine

/-- What the link's bounds and the serving of its line rest on. -/
def Link.lines (l : Link) : List Frame × Option InHand × List Reply × Option OutFrame × List (Nat × Notice) × Nat :=
  (l.holding, l.inHand, l.replies, l.sending, l.notices, l.counter)

theorem LinesKept.lines {s u : State} (h : LinesKept s u) : u.link.lines = s.link.lines :=
  (congrArg Link.lines h : _)

/-- The link stays within its bounds, and its slots under distinct keys. -/
structure LinkFollows (s u : State) : Prop where
  bounded : LinkBounded s → LinkBounded u
  distinct : SlotKeysDistinct s → SlotKeysDistinct u

/-- The link keeps its bounds and the distinct keys of its slots, and its line stays served. -/
structure LinkKept (s u : State) : Prop extends LinkFollows s u where
  served : LineServed s.link → LineServed u.link

section
variable {s t u : State}

theorem LinkFollows.refl (s : State) : LinkFollows s s := ⟨id, id⟩

theorem LinkFollows.trans (h : LinkFollows s t) (k : LinkFollows t u) : LinkFollows s u :=
  ⟨fun hs => k.bounded (h.bounded hs), fun hs => k.distinct (h.distinct hs)⟩

theorem LinkBounded.of_lines (h : u.link.lines = s.link.lines) (hs : LinkBounded s) : LinkBounded u := by
  simp only [Link.lines, Prod.mk.injEq] at h
  obtain ⟨hholding, -, hreplies, -, hnotices, hcounter⟩ := h
  unfold LinkBounded Link.busyCount at hs ⊢
  rwa [hholding, hreplies, hnotices, hcounter]

theorem LineServed.of_lines {l m : Link} (h : m.lines = l.lines) (hs : LineServed l) : LineServed m := by
  simp only [Link.lines, Prod.mk.injEq] at h
  obtain ⟨hholding, hinHand, hreplies, hsending, hnotices, -⟩ := h
  unfold LineServed at hs ⊢
  rwa [hholding, hinHand, hreplies, hsending, hnotices]

/-- What leaves the lines and the keys keeps the link. -/
theorem LinkKept.of_lines (h : u.link.lines = s.link.lines) (hkeys : u.link.keys = s.link.keys) : LinkKept s u :=
  ⟨⟨.of_lines h, .of_keys hkeys⟩, .of_lines h⟩

theorem LinkKept.of_link (h : u.link = s.link) : LinkKept s u := .of_lines (by rw [h]) (by rw [h])

/-- Only the link that a command finds matters. -/
theorem LinkKept.before (h : t.link = s.link) (k : LinkKept t u) : LinkKept s u := by
  have before : LinkKept s t := .of_link h
  exact ⟨before.toLinkFollows.trans k.toLinkFollows, fun hs => k.served (before.served hs)⟩

theorem LinkKept.refl (s : State) : LinkKept s s := .of_link rfl

/-- A start leaves the lines empty and every slot FREE (R190, R191). -/
theorem LinkKept.of_start {l : Link} {m : Image} (h : u.link = l.warm m) : LinkKept s u := by
  have free : ∀ i : Fin 4, u.link.slots[i].key = none := by
    intro i
    simp [h, Link.warm, Link.start, Slot.key]
  refine ⟨⟨fun _ => ?_, fun _ i j _ hkey => absurd (free i) hkey⟩, fun _ => ?_⟩
  · simp [LinkBounded, Link.busyCount, h, Link.warm, Link.start]
  · simp [LineServed, h, Link.warm, Link.start]

end

/-! ### The transmitter and the holding -/

theorem transmit_follows (s : State) : LinkFollows s s.transmit := by
  refine ⟨fun hs => ?_, fun hs => hs.of_keys (congrArg (fun v => v.map Slot.key) s.link.beginSend_slots)⟩
  obtain ⟨hholding, hbusy, hnotices, hcounter⟩ := hs
  unfold LinkBounded Link.busyCount at *
  rw [State.transmit_link]
  obtain ⟨e, -⟩ | ⟨r, rs, -, hr, e⟩ | ⟨k, n, ns, -, hn, e⟩ := s.link.beginSend_cases
  · rw [e]
    exact ⟨hholding, hbusy, hnotices, hcounter⟩
  · rw [e]
    rw [hr] at hbusy
    exact ⟨hholding, (((List.sublist_cons_self r rs).filter _).length_le).trans hbusy, hnotices, hcounter⟩
  · rw [e]
    rw [hn] at hnotices
    exact ⟨hholding, hbusy, (Nat.le_succ _).trans hnotices, hcounter⟩

/-- The reply of a request is no busy reply (R174). -/
theorem joinReply_follows (s : State) {r : Reply} (hr : r.busy = false) : LinkFollows s (s.joinReply r) := by
  refine ⟨fun hs => ?_, id⟩
  obtain ⟨hholding, hbusy, hnotices, hcounter⟩ := hs
  refine ⟨hholding, ?_, hnotices, hcounter⟩
  simpa [Link.busyCount, State.joinReply_link, List.filter_append, hr] using hbusy

/-- A frame that arrives keeps the holding within three frames and the line within three busy replies (R174). -/
theorem hold_follows (s : State) (f : Frame) :
    LinkFollows s (s.setLink (({ s.link with receiver := .hunting } : Link).hold f)) := by
  unfold Link.hold
  split
  · rename_i hroom
    refine ⟨fun ⟨_, hbusy, hnotices, hcounter⟩ => ⟨?_, hbusy, hnotices, hcounter⟩, id⟩
    simpa [Config.holdingSize] using hroom
  · split
    · rename_i hroom
      refine ⟨fun ⟨hholding, _, hnotices, hcounter⟩ => ⟨hholding, ?_, hnotices, hcounter⟩, id⟩
      simpa [Link.busyCount, List.filter_append, Config.busyReplies] using hroom
    · exact ⟨id, id⟩

/-- A notice offered joins the queue while that has room, and the counter goes round within a byte (R180). -/
theorem offer_follows (s : State) (n : Notice) : LinkFollows s (s.setLink (s.link.offer n)) := by
  unfold Link.offer
  split
  · split
    · rename_i hroom
      exact ⟨fun ⟨hholding, hbusy, _, _⟩ =>
        ⟨hholding, hbusy, by simpa [Config.noticeQueueSize] using hroom, Nat.mod_lt _ (by decide)⟩, id⟩
    · exact ⟨fun ⟨hholding, hbusy, hnotices, _⟩ => ⟨hholding, hbusy, hnotices, Nat.mod_lt _ (by decide)⟩, id⟩
  · exact ⟨id, id⟩

/-! ### Requests, taken and served -/

/-- An arrival is no request and is not taken as one. -/
theorem takeRequest_of_none {i : Instr} (s : State) (hk : i.requestKind = none) : takeRequest i s = s := by
  cases i with
  | _ => first | contradiction | rfl

theorem eq_restart {c : Instr} (h : c.requestKind = some 0x37) : ∃ tag form, c = .restart tag form := by
  cases c with
  | restart tag form => exact ⟨tag, form, rfl⟩
  | _ => simp [Instr.requestKind] at h

theorem takeSaveSettings_follows (tag : Byte) (s : State) : LinkFollows s (takeSaveSettings tag s) :=
  ⟨fun hs => by simpa [LinkBounded, Link.busyCount] using hs, .of_keys (by simp [Link.keys])⟩

theorem takeRestart_follows (tag : Byte) (form : Nat) (s : State) : LinkFollows s (takeRestart tag form s) := by
  unfold takeRestart
  split
  · rename_i f _
    have asked : LinkFollows s { s with
        settings := { s.settings with restart := some f }
        link := { s.link with inHand := some ⟨tag, 0x37⟩ } } := ⟨id, id⟩
    exact asked.trans (joinReply_follows _ rfl)
  · exact joinReply_follows s rfl

theorem takeRequest_follows (i : Instr) (s : State) : LinkFollows s (takeRequest i s) := by
  cases hk : i.requestKind with
  | none =>
    rw [takeRequest_of_none s hk]
    exact .refl s
  | some k =>
    by_cases hs : k = 0x36
    · obtain ⟨tag, rfl⟩ := eq_saveSettings (hs ▸ hk)
      exact takeSaveSettings_follows tag s
    by_cases hr : k = 0x37
    · obtain ⟨tag, form, rfl⟩ := eq_restart (hr ▸ hk)
      exact takeRestart_follows tag form s
    obtain ⟨a, ha, h⟩ := request_ownerServes s i k hk hs hr
    rw [ha]
    cases a with
    | error r => exact joinReply_follows s rfl
    | ok p =>
      have owner : LinkFollows s p.1 := ⟨.of_lines (h.lines _ _ rfl).lines, h.distinct _ _ rfl⟩
      exact owner.trans (joinReply_follows p.1 rfl)

theorem takeFrame_follows (f : Frame) (s : State) : LinkFollows s (takeFrame f s) := by
  unfold takeFrame
  split
  · exact joinReply_follows s rfl
  · exact takeRequest_follows _ s

/-- A frame that leaves the holding keeps the link's bounds. -/
theorem leaveHolding_follows {s : State} {f : Frame} {rest : List Frame} (h : s.link.holding = f :: rest) :
    LinkFollows s (s.setLink { s.link with holding := rest }) := by
  refine ⟨fun ⟨hholding, hbusy, hnotices, hcounter⟩ => ⟨?_, hbusy, hnotices, hcounter⟩, id⟩
  rw [h] at hholding
  exact (Nat.le_succ _).trans hholding

theorem serve_follows (s : State) : LinkFollows s s.serve :=
  State.serve_keeps (LinkFollows s) (fun u h => h.trans (transmit_follows u))
    (fun _ f _ h hheld => h.trans ((leaveHolding_follows hheld).trans (takeFrame_follows f _))) s (.refl s)

/-- What is served behind an operation that keeps the bounds and the keys keeps the link. -/
theorem LinkKept.of_served {s t : State} (h : LinkFollows s t) : LinkKept s t.serve :=
  ⟨h.trans (serve_follows t), fun _ => t.serve_lineServed⟩

end Sys2Proof.Machine
end

section
/-! PROOF. Every step keeps the link controller within its bounds and its line served (R174, R175, R179, R180, R183):
command by command, most of them writing neither its lines nor the keys of its slots. -/

namespace Sys2Proof.Machine

/-! ### Starts and saves -/

theorem startIn_linkKept (form : RestartForm) (s : State) : LinkKept s (startIn form s) := by
  cases form with
  | warm => exact .of_start rfl
  | cold => exact .of_start (l := Link.start (loadedImage s.settings.places)) rfl

theorem withoutPower_linkKept (s : State) : LinkKept s (withoutPower s) :=
  let m := loadedImage (.replicate 2 .invalid)
  .of_start (l := Link.start m) (m := m) rfl

theorem takeFrameSent_linkKept (s : State) : LinkKept s (takeFrameSent s) := by
  have next : LinkKept s (sendNext s) := .of_served ⟨id, id⟩
  unfold takeFrameSent
  split
  · exact .refl s
  · split
    · split
      · exact startIn_linkKept _ s
      · exact next
    · exact next

/-- While a save is in hand no frame need be dispatched (R175, R177). -/
theorem takeSaveSettings_linkKept (tag : Byte) (s : State) : LinkKept s (takeSaveSettings tag s) := by
  refine ⟨takeSaveSettings_follows tag s, fun hs => ?_⟩
  unfold takeSaveSettings
  split
  · exact hs
  · obtain ⟨htransmitter, -⟩ := hs
    exact ⟨htransmitter, fun _ => .inl (by simp)⟩

theorem takeSaveWriteEnd_linkKept (verified : Bool) (s : State) : LinkKept s (takeSaveWriteEnd verified s) := by
  have released : ∀ t : Settings, LinkFollows s { s.setLink (s.link.release 0x36) with settings := t } := fun t =>
    ⟨fun hs => by simpa [LinkBounded, Link.busyCount] using hs, .of_keys (by simp [Link.keys])⟩
  unfold takeSaveWriteEnd
  split
  · exact .refl s
  · dsimp only
    split
    · exact .of_served ((released _).trans (joinReply_follows _ rfl))
    · exact .of_served ((released _).trans (joinReply_follows _ rfl))

/-! ### Frames and notices -/

theorem frameArrives_linkKept (f : Frame) (s : State) : LinkKept s (frameArrives f s) := .of_served (hold_follows s f)

theorem takeByte_linkKept (b : Byte) (stopBit : Bool) (s : State) : LinkKept s (takeByte b stopBit s) := by
  unfold takeByte
  split
  · exact .of_lines rfl rfl
  · split
    · exact .of_lines rfl rfl
    · split
      · exact .of_lines rfl rfl
      · unfold assembleByte
        split
        · exact .of_lines rfl rfl
        · exact .of_lines rfl rfl
        · exact frameArrives_linkKept _ s

/-- A notice offered leaves the holding and the replies, and so what the dispatcher waits for. -/
theorem offer_linkKept (n : Notice) (s : State) : LinkKept s (s.setLink (s.link.offer n).beginSend) := by
  refine ⟨(offer_follows s n).trans (transmit_follows _), fun ⟨htransmitter, hdispatcher⟩ =>
    ⟨Link.beginSend_served _, fun hwaits => ?_⟩⟩
  have replies : (s.link.offer n).beginSend.replies = s.link.replies := by
    rw [Link.beginSend_replies_eq (by simpa using fun h => (htransmitter h).1), Link.offer_replies]
  have waits : s.link.holding ≠ [] := by simpa using hwaits
  simpa [replies] using hdispatcher waits

/-! ### Commands and steps -/

section
variable {s t : State}

/-- A command that a powered part takes. -/
theorem onPower_linkKept {f : State → State} (e : onPower s f = .next t) (hf : LinkKept s (f s)) : LinkKept s t := by
  obtain rfl := Host.Outcome.next.inj e
  split
  · exact hf
  · exact .refl s

theorem onPower_linkKept_of_link {f : State → State} (e : onPower s f = .next t) (hf : (f s).link = s.link) :
    LinkKept s t :=
  onPower_linkKept e (.of_link hf)

/-- A command that leaves the lines and the keys of the slots. -/
theorem onPower_linkKept_of_lines {f : State → State} (e : onPower s f = .next t) (hl : (f s).link.lines = s.link.lines)
    (hkeys : (f s).link.keys = s.link.keys) : LinkKept s t :=
  onPower_linkKept e (.of_lines hl hkeys)

theorem exec_arrival_linkKept {c : Instr} (hc : c.requestKind = none) (e : exec c s = .next t) : LinkKept s t := by
  unfold exec at e
  cases c with
  | frameReceived f => exact onPower_linkKept e (frameArrives_linkKept f s)
  | byteReceived b stopBit => exact onPower_linkKept e (takeByte_linkKept (dataByte b) stopBit s)
  | frameSent => exact onPower_linkKept e (takeFrameSent_linkKept s)
  | saveWriteEnd verified => exact onPower_linkKept e (takeSaveWriteEnd_linkKept verified s)
  | noticeOffer n => exact onPower_linkKept e (.before (t := s.taken (.noticeOffer n)) rfl (offer_linkKept n _))
  | powerOn =>
    obtain rfl := Host.Outcome.next.inj e
    exact startIn_linkKept .cold s
  | powerLoss => exact onPower_linkKept e (withoutPower_linkKept s)
  | slotDiscard i =>
    have lines : (takeDiscard i s).link.lines = s.link.lines := by simp [Link.lines]
    exact onPower_linkKept e ⟨⟨.of_lines lines, takeDiscard_distinct i⟩, .of_lines lines⟩
  | sampleWord =>
    exact onPower_linkKept_of_lines e (by split <;> simp [Link.lines]) (by split <;> simp)
  | signalTimerExpiry => exact onPower_linkKept_of_lines e (by simp [Link.lines]) (by simp)
  | chestEntryWritten => exact onPower_linkKept_of_lines e (by simp [Link.lines]) (by simp)
  | captureWaitTimeout => exact onPower_linkKept_of_lines e (by simp [Link.lines]) (by simp)
  | badFrame => exact onPower_linkKept_of_lines e rfl rfl
  | frameGapTimeout => exact onPower_linkKept_of_lines e (by split <;> rfl) (by split <;> rfl)
  | append => exact onPower_linkKept_of_link e (by simp)
  | appendAnswer => exact onPower_linkKept_of_link e (by simp)
  | tareSample => exact onPower_linkKept_of_link e (by simp)
  | tareAnswer => exact onPower_linkKept_of_link e (by simp)
  | reading => exact onPower_linkKept_of_link e (by simp)
  | leaveReport => exact onPower_linkKept_of_link e (by simp)
  | stallTimerExpiry => exact onPower_linkKept_of_link e (by simp)
  | sampleMark => exact onPower_linkKept_of_link e (by simp)
  | event => exact onPower_linkKept_of_link e (by simp)
  | stencilJobRequest => exact onPower_linkKept_of_link e (by simp)
  | stencilStatus => exact onPower_linkKept_of_link e (by simp)
  | lineAcknowledge => exact onPower_linkKept_of_link e (by simp)
  | ackTimerExpiry => exact onPower_linkKept_of_link e (by simp)
  | headFault => exact onPower_linkKept_of_link e (by simp)
  | sheetRequest => exact onPower_linkKept_of_link e (by simp)
  | secondAdvance => exact onPower_linkKept_of_link e (by simp)
  | gatePulseEnd => exact onPower_linkKept_of_link e rfl
  | jobRemoval => exact onPower_linkKept_of_link e rfl
  | characterSent => exact onPower_linkKept_of_link e rfl
  | _ => contradiction

theorem exec_linkKept {c : Instr} (e : exec c s = .next t) : LinkKept s t := by
  cases hk : c.requestKind with
  | none => exact exec_arrival_linkKept hk e
  | some k =>
    by_cases hs : k = 0x36
    · obtain ⟨tag, rfl⟩ := eq_saveSettings (hs ▸ hk)
      exact onPower_linkKept e (takeSaveSettings_linkKept tag s)
    · rw [exec_request_onPower s hk hs] at e
      exact onPower_linkKept e (.of_served (takeRequest_follows c s))

theorem step_linkKept (e : step s = .next t) : LinkKept s t := by
  unfold step at e
  split at e
  · rename_i c rest _
    exact .before (t := { s with pending := rest }) rfl (exec_linkKept e)
  · split at e
    · exact exec_linkKept e
    · obtain rfl := Host.Outcome.next.inj e
      unfold idle
      split
      · exact .of_lines (by simp [Link.lines]) (by simp)
      · exact .refl s

end

/-- Settles O57: each command, and each of the part's own acts, keeps the bounds, the keys apart and the line served. -/
theorem theLinkStaysBounded : Obligations.TheLinkStaysBounded := by
  unfold Obligations.TheLinkStaysBounded
  intro s t e
  have h := step_linkKept e
  exact ⟨h.bounded, h.distinct, h.served⟩

end Sys2Proof.Machine
end

section
/-! PROOF. Every request is answered once (R178, R185), and the transmitter and the dispatcher serve the line (R175,
R176, R179). -/

namespace Sys2Proof.Machine

/-! ### Requests -/

/-- Settles O3: the owner of the request refuses it or answers it, and its one reply joins the line. -/
theorem everyRequestIsAnsweredOnce : Obligations.EveryRequestIsAnsweredOnce := by
  unfold Obligations.EveryRequestIsAnsweredOnce
  intro c k s hk hs hr hp
  obtain ⟨a, ha, h⟩ := request_ownerServes s c k hk hs hr
  have taken : exec c s = .next (answerRequest c.requestTag k s a).serve := by rw [exec_request c k s hk hs hp, ha]
  cases a with
  | error r => exact ⟨s, .refused r, taken, rfl, rfl, rfl, fun _ _ => rfl, nofun⟩
  | ok p =>
    obtain ⟨u, form⟩ := p
    have lines := (h.lines u form rfl).lines
    simp only [Link.lines, Prod.mk.injEq] at lines
    obtain ⟨-, hinHand, hreplies, hsending, -, -⟩ := lines
    refine ⟨u, form, taken, hreplies, hsending, hinHand, fun r hform => ?_, fun i hform => ?_⟩
    · exact absurd (by rw [hform]) (h.orWaits u r)
    · exact h.pending u i (by rw [hform])

/-! ### The line -/

/-- Only requests are read from frames (R176). -/
theorem decodeRequest_requestKind {f : Frame} {i : Instr} (h : decodeRequest f = .ok i) : i.requestKind ≠ none := by
  have kind : ∀ (tag : Byte) (n : Nat) (b : List Byte), requestAt tag n b = some i → i.requestKind ≠ none := by
    intro tag n b e
    unfold requestAt at e
    split at e <;> first
      | contradiction
      | (obtain rfl := Option.some.inj e
         exact Option.some_ne_none _)
  unfold decodeRequest at h
  split at h
  · contradiction
  · rename_i j e
    split at h
    · exact kind _ _ _ (Except.ok.inj h ▸ e)
    · contradiction

theorem takeSaveSettings_begins {s : State} (tag : Byte) (h : s.settings.save = none) :
    takeSaveSettings tag s = { s with
      settings := s.settings.beginSave (copySettings s), link := { s.link with inHand := some ⟨tag, 0x36⟩ } } := by
  rw [takeSaveSettings, h]

/-- A save taken while the transmitter has done its part leaves nothing to serve (R175, R177). -/
theorem takeSaveSettings_serve {s : State} (tag : Byte) (hsave : s.settings.save = none)
    (hline : s.link.sending = none → s.link.replies = [] ∧ s.link.notices = []) :
    (takeSaveSettings tag s).serve = takeSaveSettings tag s := by
  rw [takeSaveSettings_begins tag hsave, State.serve_inHand rfl]
  exact State.transmit_idle hline

/-- A request dispatched is taken as the same request commanded on the state without its frame is (R175, R178). -/
theorem exec_dispatched {s u : State} {f : Frame} {i : Instr} (hd : decodeRequest f = .ok i) (hp : u.powered = true)
    (hsave : u.settings.save = none) (hline : u.link.sending = none → u.link.replies = [] ∧ u.link.notices = [])
    (hserve : s.serve = (takeFrame f u).serve) : exec i u = .next s.serve := by
  have frame : takeFrame f u = takeRequest i u := by rw [takeFrame, hd]
  obtain ⟨k, hk⟩ := Option.ne_none_iff_exists'.mp (decodeRequest_requestKind hd)
  rw [hserve, frame]
  by_cases hs : k = 0x36
  · obtain ⟨tag, rfl⟩ := eq_saveSettings (hs ▸ hk)
    exact (onPower_powered hp _).trans (congrArg _ (takeSaveSettings_serve tag hsave hline).symm)
  · exact exec_request i k u hk hs hp

/-- Settles O49: the transmitter case by case, the dispatcher by what it finds in the holding. -/
theorem theLineIsServed : Obligations.TheLineIsServed := by
  unfold Obligations.TheLineIsServed
  refine ⟨fun l => ⟨fun _ => Link.beginSend_sending, fun _ _ => Link.beginSend_reply,
    fun _ _ _ => Link.beginSend_notice, Link.beginSend_nothing⟩, fun s => ⟨fun h => ?_,
    fun f rest hheld hhand hbusy => ?_, fun _ _ _ => rfl, s.serve_lineServed⟩⟩
  · refine s.serve_idle (h.imp_right fun h => (Link.mayDispatch_eq_false_iff _).mpr ?_)
    simpa using h
  · have may : s.link.beginSend.mayDispatch = true :=
      (Link.mayDispatch_iff _).mpr ⟨by simpa using hhand, hbusy⟩
    have served := s.serve_dispatch f rest hheld may
    refine ⟨fun i hd hp hsave => exec_dispatched hd hp hsave s.link.beginSend_served served, fun hd => ?_, fun hd => ?_⟩
    · rw [served, takeFrame, hd]
      rfl
    · rw [served, takeFrame, hd]
      rfl

end Sys2Proof.Machine
end

section
/-! PROOF. STATUS, NOTICE-MASK and LINK-SPEED (R171, R181, R182), notice offers (R180) and the slot timers (R187,
R188). -/

namespace Sys2Proof.Machine

/-! ### NOTICE-MASK and LINK-SPEED -/

theorem within_flagCode (b : Bool) : within 0 1 (flagCode b) = true := by cases b <;> rfl

/-- The flags of a mask are read back as the mask (R181, R201). -/
theorem maskFlags_flagCode (mask : Vector Bool 7) : maskFlags (mask.map flagCode) = .ok mask := by
  have inRange : ((mask.map flagCode).all fun n => within 0 1 n) = true := by
    rw [Vector.all_eq_true]
    intro i hi
    rw [Vector.getElem_map]
    exact within_flagCode _
  have readBack : (fun n => n == 1) ∘ flagCode = id := by
    funext b
    cases b <;> rfl
  rw [maskFlags, require_pos inRange, ok_bind, Vector.map_map, readBack, Vector.map_id]
  rfl

theorem maskFlags_out_of_range {f : Vector Nat 7} {i : Fin 7} (h : 2 ≤ f[i]) : maskFlags f = .error .range := by
  have outside : ¬ (f.all fun n => within 0 1 n) = true := by
    rw [Vector.all_eq_true]
    intro inRange
    have := within_eq_true.mp (inRange i.val i.isLt)
    have : f[i] ≤ 1 := this.2
    omega
  rw [maskFlags, require_neg outside]
  rfl

theorem validSpeed_iff (v : Nat) : validSpeed v = true ↔ v = 19200 ∨ v = 57600 ∨ v = 115200 := by simp [validSpeed]

theorem exec_linkSpeed {s : State} (hp : s.powered = true) (tag : Byte) (v : Nat) :
    exec (.linkSpeed tag v) s =
      if v = 19200 ∨ v = 57600 ∨ v = 115200 then
        .next (State.reply { s with link := { s.link with speedSetting := v } } tag 0x35
          (.ok (.speeds v s.link.lineSpeed)))
      else .next (s.reply tag 0x35 (.refused .range)) := by
  split
  · rename_i h
    exact onRequest_ok hp (by rw [ownLinkSpeed, require_pos ((validSpeed_iff v).mpr h)]; rfl)
  · rename_i h
    exact onRequest_refused hp (by rw [ownLinkSpeed, require_neg (mt (validSpeed_iff v).mp h)]; rfl)

/-! ### Notice offers (R180) -/

theorem exec_noticeOffer {s : State} (hp : s.powered = true) (n : Notice) :
    exec (.noticeOffer n) s = .next { s.taken (.noticeOffer n) with link := (s.link.offer n).beginSend } := by
  show execNoticeOffer n s = _
  rw [execNoticeOffer, onPower_powered hp]
  rfl

section
variable {l : Link} {n : Notice}

theorem Link.offer_masked (h : l.mask[maskPlace (noticeClass n)] = false) : l.offer n = l := by
  rw [Link.offer, if_neg (by rw [h]; decide)]

theorem Link.offer_queued (h : l.mask[maskPlace (noticeClass n)] = true) (hroom : l.notices.length < 32) :
    l.offer n = { l with notices := l.notices ++ [(l.counter, n)], counter := (l.counter + 1) % 256 } := by
  rw [Link.offer, if_pos h]
  exact if_pos hroom

theorem Link.offer_dropped (h : l.mask[maskPlace (noticeClass n)] = true) (hfull : 32 ≤ l.notices.length) :
    l.offer n = { l with counter := (l.counter + 1) % 256, noticesLost := true } := by
  rw [Link.offer, if_pos h]
  exact if_neg (Nat.not_lt.mpr hfull)

end

/-! ### Slot timers (R187, R188) -/

section
variable {s : State} {i : Fin 4}

theorem takeWaitTimeout_waiting {station : Fin 4} {part wait : Option Nat}
    (h : s.link.slots[i] = .waiting (.capture station) part wait) :
    takeWaitTimeout i s = (s.setSlot i (.ready (.capture station) part .timeout none 0)).notify
      (.slotReady i (.capture station) .timeout) := by
  simp only [takeWaitTimeout, State.slotBecomesReady, h]

theorem takeWaitTimeout_other (h : ∀ station part wait, s.link.slots[i] ≠ .waiting (.capture station) part wait) :
    takeWaitTimeout i s = s := by
  unfold takeWaitTimeout
  split
  · rename_i e
    exact absurd e (h _ _ _)
  · rfl

theorem takeDiscard_ready {key : SlotKey} {part : Option Nat} {o : SlotOutcome} {a : Option SlotAnswer} {disc : Nat}
    (h : s.link.slots[i] = .ready key part o a disc) : takeDiscard i s = s.setSlot i .free := by
  simp only [takeDiscard, h]

theorem takeDiscard_other (h : ∀ key part o a disc, s.link.slots[i] ≠ .ready key part o a disc) :
    takeDiscard i s = s := by
  unfold takeDiscard
  split
  · rename_i e
    exact absurd e (h _ _ _ _ _)
  · rfl

end

/-- Settles O50: the class of each notice, the three requests, the offer of a notice and the two slot timers in turn. -/
theorem theLinkAnswersAndKeepsCount : Obligations.TheLinkAnswersAndKeepsCount := by
  unfold Obligations.TheLinkAnswersAndKeepsCount
  refine ⟨fun n => by cases n <;> rfl, fun tag s hp => ⟨onRequest_ok hp rfl, fun mask => ?_, fun f i h => ?_,
    exec_linkSpeed hp tag⟩, fun s hp => ⟨fun n => ⟨fun h => ?_, fun h hroom => ?_, fun h hfull => ?_⟩, fun i =>
    ⟨fun station part wait h => ?_, fun h => ?_, fun key part o a disc h => ?_, fun h => ?_⟩⟩⟩
  · exact onRequest_ok hp (by rw [ownNoticeMask, maskFlags_flagCode]; rfl)
  · exact onRequest_refused hp (by rw [ownNoticeMask, maskFlags_out_of_range h]; rfl)
  · rw [exec_noticeOffer hp, Link.offer_masked h]
  · rw [exec_noticeOffer hp, Link.offer_queued h hroom]
  · rw [exec_noticeOffer hp, Link.offer_dropped h hfull]
  · exact (onPower_powered hp _).trans (congrArg _ (takeWaitTimeout_waiting h))
  · exact (onPower_powered hp _).trans (congrArg _ (takeWaitTimeout_other h))
  · exact (onPower_powered hp _).trans (congrArg _ (takeDiscard_ready h))
  · exact (onPower_powered hp _).trans (congrArg _ (takeDiscard_other h))

end Sys2Proof.Machine
end

section
/-! PROOF. Bytes become frames, and frames are held, answered BUSY or discarded (R171 to R175). -/

namespace Sys2Proof.Machine

theorem huntByte_eq (b : Byte) (stop : Bool) :
    huntByte b stop = if stop = true ∧ b = 0xA5 then .assembling [] 0 else .hunting := by
  simp [huntByte, startByte]

/-! ### Frames that arrive (R174) -/

section
variable {l : Link} (f : Frame)

theorem Link.hold_joins (h : l.holding.length < 3) : l.hold f = { l with holding := l.holding ++ [f] } :=
  if_pos h

theorem Link.hold_busy (h : 3 ≤ l.holding.length) (hbusy : l.busyCount < 3) :
    l.hold f = { l with replies := l.replies ++ [⟨f.tag, f.kind, .refused .busy, true⟩] } :=
  (if_neg (Nat.not_lt.mpr h)).trans (if_pos hbusy)

theorem Link.hold_discards (h : 3 ≤ l.holding.length) (hbusy : 3 ≤ l.busyCount) :
    l.hold f = { l with linkError := true } :=
  (if_neg (Nat.not_lt.mpr h)).trans (if_neg (Nat.not_lt.mpr hbusy))

end

section
variable {s : State} {f : Frame}

theorem frameArrives_held {l : Link} (h : ({ s.link with receiver := .hunting } : Link).hold f = l) :
    frameArrives f s = ({ s with link := l } : State).serve := by
  rw [frameArrives, h]
  rfl

/-- A command by which a frame arrives does with it what R174 says, by the room in the holding and the busy replies that
wait. -/
theorem exec_frameArrives {c : Instr} (he : exec c s = .next (frameArrives f s)) :
    (s.link.holding.length < 3 → exec c s =
      .next ({ s with link := { s.link with holding := s.link.holding ++ [f], receiver := .hunting } } : State).serve) ∧
    (3 ≤ s.link.holding.length → (s.link.replies.filter fun r => r.busy).length < 3 → exec c s =
      .next ({ s with link := { s.link with
        replies := s.link.replies ++ [⟨f.tag, f.kind, .refused .busy, true⟩], receiver := .hunting } } : State).serve) ∧
    (3 ≤ s.link.holding.length → 3 ≤ (s.link.replies.filter fun r => r.busy).length → exec c s =
      .next ({ s with link := { s.link with linkError := true, receiver := .hunting } } : State).serve) :=
  ⟨fun h => he.trans (congrArg _ (frameArrives_held (Link.hold_joins f h))),
    fun h hbusy => he.trans (congrArg _ (frameArrives_held (Link.hold_busy f h hbusy))),
    fun h hbusy => he.trans (congrArg _ (frameArrives_held (Link.hold_discards f h hbusy)))⟩

end

/-! ### Bytes (R171 to R173) -/

section
variable {s : State} {bytes : List Byte} {gap : Nat} {b : Byte}

theorem exec_byteReceived (hp : s.powered = true) (b : Byte) (stop : Bool) :
    exec (.byteReceived (Vector.ofFn fun k : Fin 8 => b[k.val]) stop) s = .next (takeByte b stop s) := by
  show execByteReceived _ stop s = _
  rw [execByteReceived, onPower_powered hp, dataByte_ofFn]

theorem takeByte_hunting (h : s.link.receiver = .hunting) (stop : Bool) :
    takeByte b stop s = s.setReceiver (huntByte b stop) := by rw [takeByte, h]

theorem takeByte_late (h : s.link.receiver = .assembling bytes gap) (hgap : 20 < gap) (stop : Bool) :
    takeByte b stop s = s.discardFrame (huntByte b stop) := by
  rw [takeByte, h]
  exact if_pos hgap

theorem takeByte_no_stop (h : s.link.receiver = .assembling bytes gap) (hgap : gap ≤ 20) :
    takeByte b false s = s.discardFrame .hunting := by
  rw [takeByte, h]
  exact if_neg (Nat.not_lt.mpr hgap)

theorem takeByte_in_time (h : s.link.receiver = .assembling bytes gap) (hgap : gap ≤ 20) :
    takeByte b true s = assembleByte bytes b s := by
  rw [takeByte, h]
  exact if_neg (Nat.not_lt.mpr hgap)

theorem assembleByte_more (h : assembly (bytes ++ [b]) = .more) :
    assembleByte bytes b s = s.setReceiver (.assembling (bytes ++ [b]) 0) := by rw [assembleByte, h]

theorem assembleByte_bad (h : assembly (bytes ++ [b]) = .bad) : assembleByte bytes b s = s.discardFrame .hunting := by
  rw [assembleByte, h]

theorem assembleByte_arrived {f : Frame} (h : assembly (bytes ++ [b]) = .arrived f) :
    assembleByte bytes b s = frameArrives f s := by rw [assembleByte, h]

/-- A gap ends a frame that is being assembled (R173). -/
theorem exec_frameGapTimeout_assembling (hp : s.powered = true) (h : s.link.receiver = .assembling bytes gap) :
    exec .frameGapTimeout s = .next (s.discardFrame .hunting) := by
  show execFrameGapTimeout s = _
  rw [execFrameGapTimeout, onPower_powered hp, h]

theorem exec_frameGapTimeout_hunting (hp : s.powered = true) (h : s.link.receiver = .hunting) :
    exec .frameGapTimeout s = .next s := by
  show execFrameGapTimeout s = _
  rw [execFrameGapTimeout, onPower_powered hp, h]

end

/-- Settles O51: a byte by the state of the receiver, then by what the bytes have come to; a frame by what may hold
it. -/
theorem framesAreReceivedAndHeld : Obligations.FramesAreReceivedAndHeld := by
  unfold Obligations.FramesAreReceivedAndHeld
  intro s hp
  have byte := exec_byteReceived hp
  refine ⟨fun b stop h => ?_, fun bytes gap h => ⟨fun b stop hgap => ?_, fun b hgap => ?_, fun b hgap hmore => ?_,
    fun b hgap hbad => ?_, fun b f hgap harrived => ?_, exec_frameGapTimeout_assembling hp h⟩,
    exec_frameGapTimeout_hunting hp, onPower_powered hp fun s => s.discardFrame .hunting,
    fun f => exec_frameArrives (onPower_powered hp _)⟩
  · rw [byte, takeByte_hunting h, huntByte_eq]
    rfl
  · rw [byte, takeByte_late h hgap, huntByte_eq]
    rfl
  · rw [byte, takeByte_no_stop h hgap]
    rfl
  · rw [byte, takeByte_in_time h hgap, assembleByte_more hmore]
    rfl
  · rw [byte, takeByte_in_time h hgap, assembleByte_bad hbad]
    rfl
  · exact exec_frameArrives ((byte b true).trans (by rw [takeByte_in_time h hgap, assembleByte_arrived harrived]))

end Sys2Proof.Machine
end

section
/-! PROOF. A save writes the other place under the next generation, and its end answers it (R177, R194 to R197). -/

namespace Sys2Proof.Machine

/-! ### The target and the generation (R196) -/

section
variable {t : Settings}

theorem Settings.target_ne_current {p : Fin 2} (h : t.current = some p) : t.target ≠ p := by
  rw [Settings.target, h]
  fin_cases p <;> decide

theorem Settings.target_of_none (h : t.current = none) : t.target = 0 := by rw [Settings.target, h]

theorem Settings.newGeneration_of_none (h : t.current = none) : t.newGeneration = 1 := by rw [Settings.newGeneration, h]

theorem Settings.newGeneration_of_valid {p : Fin 2} {g : Nat} {m : Image} (h : t.current = some p)
    (hp : t.places[p] = .valid g m) (hg : g ≤ 65535) : t.newGeneration = if g = 65535 then 0 else g + 1 := by
  have next : nextGeneration g = if g = 65535 then 0 else g + 1 := by
    unfold nextGeneration
    split <;> split <;> omega
  simp only [Settings.newGeneration, h, hp, Place.generation, next]

end

/-! ### The save and its end (R197) -/

section
variable {s : State}

theorem takeSaveSettings_saving (tag : Byte) (h : s.settings.save ≠ none) : takeSaveSettings tag s = s := by
  obtain ⟨f, hf⟩ := Option.ne_none_iff_exists'.mp h
  rw [takeSaveSettings, hf]

theorem takeSaveWriteEnd_idle (verified : Bool) (h : s.settings.save = none) : takeSaveWriteEnd verified s = s := by
  rw [takeSaveWriteEnd, h]

variable {f : SaveInFlight} {h : InHand}

/-- The request in hand is released when it is the save's (R177). -/
theorem Link.release_of_inHand {l : Link} (hh : l.inHand = some h) :
    l.release 0x36 = { l with inHand := if h.kind = 0x36 then none else some h } := by
  by_cases hk : h.kind = 0x36
  · simp [Link.release, hh, hk]
  · have other : (h.kind == 0x36) = false := by simpa using hk
    have same : l.release 0x36 = l := by simp only [Link.release, hh, other, Bool.false_eq_true, if_false]
    rw [same, if_neg hk, ← hh]

theorem Link.inHandTag_of_inHand {l : Link} (hh : l.inHand = some h) : l.inHandTag = h.tag := by
  rw [Link.inHandTag, hh]
  rfl

end

/-- Settles O52: a save begun, one in flight, and the end of its write, good and bad. -/
theorem savesGoToTheOtherPlace : Obligations.SavesGoToTheOtherPlace := by
  unfold Obligations.SavesGoToTheOtherPlace
  intro tag s hp
  refine ⟨fun hsave => ⟨s.settings.target, s.settings.newGeneration, fun p => Settings.target_ne_current,
    Settings.target_of_none, Settings.newGeneration_of_none, fun p g m => Settings.newGeneration_of_valid, ?_⟩,
    fun hsave => ?_, fun verified hsave => ?_, fun f h hsave hhand => ?_⟩
  · exact (onPower_powered hp _).trans (congrArg _ (takeSaveSettings_begins tag hsave))
  · exact (onPower_powered hp _).trans (congrArg _ (takeSaveSettings_saving tag hsave))
  · exact (onPower_powered hp _).trans (congrArg _ (takeSaveWriteEnd_idle verified hsave))
  · have ends : ∀ verified, exec (.saveWriteEnd verified) s = .next (takeSaveWriteEnd verified s) := fun verified =>
      onPower_powered hp _
    have link := Link.release_of_inHand hhand
    have tag := Link.inHandTag_of_inHand hhand
    refine ⟨?_, ?_⟩
    · rw [ends, takeSaveWriteEnd, hsave]
      simp only [link, tag]
      rfl
    · rw [ends, takeSaveWriteEnd, hsave]
      simp only [link, tag]
      rfl

end Sys2Proof.Machine
end

section
/-! SUPPORT. The bodies of the host's requests, read back field by field (R201 to R203): numbers behind other bytes, dates,
lists and the records of the longer requests. -/

namespace Sys2Proof.Machine

/-! ### Numbers in their fields (R201) -/

theorem fits_iff {k n : Nat} : fits k n = true ↔ n < 256 ^ k := decide_eq_true_iff

@[simp] theorem natAt_append_left {off k : Nat} {x : List Byte} (y : List Byte) (h : off + k ≤ x.length) :
    natAt off k (x ++ y) = natAt off k x := congrArg leNat (field_append_left y h)

@[simp] theorem natAt_append_right {off k : Nat} {x : List Byte} (y : List Byte) (h : x.length ≤ off) :
    natAt off k (x ++ y) = natAt (off - x.length) k y := congrArg leNat (field_append_right y h)

@[simp] theorem intAt_append_left {off k : Nat} {x : List Byte} (y : List Byte) (h : off + k ≤ x.length) :
    intAt off k (x ++ y) = intAt off k x := congrArg leInt (field_append_left y h)

@[simp] theorem intAt_append_right {off k : Nat} {x : List Byte} (y : List Byte) (h : x.length ≤ off) :
    intAt off k (x ++ y) = intAt (off - x.length) k y := congrArg leInt (field_append_right y h)

@[simp] theorem natAt_natBytes {k n : Nat} (h : fits k n = true) : natAt 0 k (natBytes k n) = n :=
  natAt_of_field (field_whole (length_natBytes k n)) (fits_iff.mp h)

@[simp] theorem intAt_intBytes {k : Nat} {z : Int} (h : fitsSigned k z = true) : intAt 0 k (intBytes k z) = z := by
  obtain ⟨hlow, hhigh⟩ := of_decide_eq_true h
  exact intAt_of_field (field_whole (length_intBytes k z)) hlow hhigh

/-! ### Frames of requests (R176) -/

theorem decodeRequest_ok {tag kind : Byte} {b : List Byte} {i j : Instr} (hread : requestAt tag kind.toNat b = some j)
    (hlength : bodyLengthFits kind.toNat b.length = true) (hj : j = i) : decodeRequest ⟨tag, kind, b⟩ = .ok i := by
  rw [decodeRequest, hread, ← hj]
  exact if_pos hlength

/-- A request of one number. -/
theorem decodeRequest_number {tag kind : Byte} {k n : Nat} {make : Nat → Instr}
    (hread : ∀ b, requestAt tag kind.toNat b = some (make (natAt 0 k b))) (hlength : bodyLengthFits kind.toNat k = true)
    (hn : fits k n = true) : decodeRequest ⟨tag, kind, natBytes k n⟩ = .ok (make n) :=
  decodeRequest_ok (hread _) (by rwa [length_natBytes]) (congrArg make (natAt_natBytes hn))

/-- A request of two numbers. -/
theorem decodeRequest_numbers {tag kind : Byte} {k l m n : Nat} {make : Nat → Nat → Instr}
    (hread : ∀ b, requestAt tag kind.toNat b = some (make (natAt 0 k b) (natAt k l b)))
    (hlength : bodyLengthFits kind.toNat (k + l) = true) (h : (fits k m && fits l n) = true) :
    decodeRequest ⟨tag, kind, natBytes k m ++ natBytes l n⟩ = .ok (make m n) := by
  obtain ⟨hm, hn⟩ := Bool.and_eq_true_iff.mp h
  exact decodeRequest_ok (hread _) (by simpa using hlength) (by simp [hm, hn])

/-! ### The records of the longer requests -/

theorem stationConfigAt_requestBody {tag : Byte} {r : StationConfigFields} (h : r.wellFormed = true) :
    stationConfigAt (Instr.stationConfig tag r).requestBody = r := by
  simp only [StationConfigFields.wellFormed, Bool.and_eq_true] at h
  simp [stationConfigAt, Instr.requestBody, h]

@[simp] theorem length_dateBytes (o : Option Date) : (dateBytes o).length = 3 := by
  cases o <;> simp [dateBytes]

theorem dateAt_append_right {off : Nat} {x : List Byte} (y : List Byte) (h : x.length ≤ off) :
    dateAt off (x ++ y) = dateAt (off - x.length) y := by
  have hmonth : x.length ≤ off + 1 := by omega
  have hyear : x.length ≤ off + 2 := by omega
  simp [dateAt, h, hmonth, hyear, Nat.sub_add_comm]

theorem dateAt_dateBytes {o : Option Date} (h : ∀ d ∈ o, d.fits = true) : dateAt 0 (dateBytes o) = o := by
  cases o with
  | none => rfl
  | some d =>
    obtain ⟨hlow, hhigh, hmonth, hday, habsent⟩ := of_decide_eq_true (h d rfl)
    obtain ⟨-, hday, hmonth, hyear⟩ := dateBytes_fields hday hmonth hlow (by omega)
    have hbytes : natAt 0 3 (dateBytes (some d)) = d.day + 256 * (d.month + 256 * (d.year - 2000)) := by
      simp only [natAt, field, dateBytes, natBytes, List.cons_append, List.nil_append, List.drop_zero, List.take_succ_cons,
        List.take_zero, leNat, BitVec.toNat_ofNat]
      omega
    have hpresent : natAt 0 3 (dateBytes (some d)) ≠ 0 := fun hzero =>
      habsent (by simp only [Prod.mk.injEq]; omega)
    rw [dateAt, if_neg hpresent, hday, hmonth, hyear, Nat.add_sub_cancel' hlow]

theorem length_invOpen_requestBody {tag : Byte} {r : InvOpenFields} (h : r.wellFormed = true) :
    (Instr.invOpen tag r).requestBody.length = 38 := by
  simp only [InvOpenFields.wellFormed, Bool.and_eq_true, beq_iff_eq] at h
  simp [Instr.requestBody, h]

theorem invOpenAt_requestBody {tag : Byte} {r : InvOpenFields} (h : r.wellFormed = true) :
    invOpenAt (Instr.invOpen tag r).requestBody = r := by
  simp only [InvOpenFields.wellFormed, Bool.and_eq_true, beq_iff_eq] at h
  obtain ⟨⟨hfields, hrun⟩, hdate⟩ := h
  have hdate : dateAt 0 (dateBytes r.date) = r.date := dateAt_dateBytes fun d hd => by rwa [hd] at hdate
  obtain ⟨hrunFits, hrun⟩ : fits 2 (r.bulkRun.getD 0) = true ∧
      (if r.bulkRun.getD 0 = 0 then none else some (r.bulkRun.getD 0)) = r.bulkRun := by
    cases hr : r.bulkRun with
    | none => exact ⟨rfl, rfl⟩
    | some n => simpa [hr] using hrun
  simp [invOpenAt, Instr.requestBody, dateAt_append_right, hfields, hrunFits, hrun, hdate]

theorem length_invAmend_requestBody {tag : Byte} {n : Nat} {r : InvAmendFields} (h : r.wellFormed = true) :
    (Instr.invAmend tag n r).requestBody.length = 32 := by
  simp only [InvAmendFields.wellFormed, Bool.and_eq_true, beq_iff_eq] at h
  simp [Instr.requestBody, keepBytes, h]

theorem invAmendAt_requestBody {tag : Byte} {n : Nat} {r : InvAmendFields} (h : r.wellFormed = true) :
    invAmendAt (Instr.invAmend tag n r).requestBody = r := by
  simp only [InvAmendFields.wellFormed, Bool.and_eq_true, beq_iff_eq] at h
  simp [invAmendAt, Instr.requestBody, keepBytes, h]

theorem actionSetAt_requestBody {tag : Byte} {n : Nat} {r : ActionSetFields} (h : r.wellFormed = true) :
    actionSetAt (Instr.actionSetWrite tag n r).requestBody = r := by
  simp only [ActionSetFields.wellFormed, Bool.and_eq_true, decide_eq_true_eq] at h
  have hreload : (if natAt 0 1 (natBytes 1 r.reload) = 0 then 256 else natAt 0 1 (natBytes 1 r.reload)) = r.reload := by
    obtain hlt | heq : r.reload < 256 ∨ r.reload = 256 := by omega
    · rw [natAt_natBytes (fits_iff.mpr hlt), if_neg (by omega)]
    · rw [heq]
      rfl
  simp [actionSetAt, Instr.requestBody, h, hreload]

theorem readingAt_readingBytes {r : ClockReading} (h : r.fits = true) : readingAt 0 (readingBytes (some r)) = r := by
  obtain ⟨hlow, hhigh, hmonth, hday, hhour, hminute, hsecond⟩ := of_decide_eq_true h
  obtain ⟨-, hday, hmonth, hyear, hhour, hminute, hsecond⟩ :=
    readingBytes_fields hday hmonth hlow (by omega) hhour hminute hsecond
  rw [readingAt, hday, hmonth, hyear, hhour, hminute, hsecond, Nat.add_sub_cancel' hlow]

theorem decodeRequest_vectorSet {tag : Byte} {source : Nat} {set : Option Nat}
    (h : (Instr.vectorSet tag source set).wellFormed = true) :
    decodeRequest ⟨tag, 0x1E, (Instr.vectorSet tag source set).requestBody⟩ = .ok (.vectorSet tag source set) := by
  obtain ⟨hsource, hset⟩ := Bool.and_eq_true_iff.mp h
  cases set with
  | none =>
    have habsent : natAt 0 1 (natBytes 1 255) = 255 := rfl
    exact decodeRequest_ok rfl rfl (by simp [Instr.requestBody, hsource, habsent])
  | some n =>
    have hn : n < 255 := of_decide_eq_true hset
    have hbyte : fits 1 n = true := fits_iff.mpr (by omega)
    exact decodeRequest_ok rfl rfl (by simp [Instr.requestBody, hsource, hbyte, hn.ne])

/-! ### Lists in a body -/

theorem length_flatMap_components {cs : List ComponentFields} (h : ∀ c ∈ cs, c.label.length = 10) :
    (cs.flatMap fun c => c.label ++ natBytes 2 c.fraction).length = 12 * cs.length := by
  induction cs with
  | nil => rfl
  | cons c cs ih =>
    obtain ⟨hc, hcs⟩ := List.forall_mem_cons.mp h
    simp [hc, ih hcs]
    omega

/-- The components behind other bytes are read back (spec/11, BULK-DEFINE). -/
theorem componentsAt_flatMap {front : List Byte} {cs : List ComponentFields}
    (h : ∀ c ∈ cs, c.label.length = 10 ∧ fits 2 c.fraction = true) :
    componentsAt front.length (front ++ cs.flatMap fun c => c.label ++ natBytes 2 c.fraction) cs.length = cs := by
  induction cs generalizing front with
  | nil => rfl
  | cons c cs ih =>
    obtain ⟨⟨hlabel, hfraction⟩, hcs⟩ := List.forall_mem_cons.mp h
    have hrest := ih (front := front ++ (c.label ++ natBytes 2 c.fraction)) hcs
    simp only [List.length_append, hlabel, length_natBytes, List.append_assoc] at hrest
    simp [componentsAt, hlabel, hfraction, hrest]

theorem decodeRequest_bulkDefine {tag : Byte} {total count : Nat} {cs : List ComponentFields}
    (h : (Instr.bulkDefine tag total count cs).wellFormed = true) :
    decodeRequest ⟨tag, 0x0C, (Instr.bulkDefine tag total count cs).requestBody⟩ =
      .ok (.bulkDefine tag total count cs) := by
  simp only [Instr.wellFormed, Bool.and_eq_true, decide_eq_true_eq, List.all_eq_true, beq_iff_eq] at h
  obtain ⟨⟨⟨htotal, hcount⟩, hfew⟩, hcs⟩ := h
  have hlength : (Instr.bulkDefine tag total count cs).requestBody.length = 4 + 12 * cs.length := by
    simp [Instr.requestBody, length_flatMap_components fun c hc => (hcs c hc).1]
    omega
  have hcomponents : componentsAt 4 (Instr.bulkDefine tag total count cs).requestBody cs.length = cs :=
    componentsAt_flatMap (front := natBytes 3 total ++ natBytes 1 count) hcs
  refine decodeRequest_ok rfl ?_ ?_
  · rw [hlength]
    simp [bodyLengthFits]
    omega
  · rw [hlength, Nat.add_sub_cancel_left, Nat.mul_div_cancel_left _ (by decide), hcomponents]
    simp [Instr.requestBody, htotal, hcount]

/-- Entry `j` of a row of single bytes. -/
theorem natAt_flatMap_natBytes {l : List Nat} {j : Nat} (hl : ∀ n ∈ l, fits 1 n = true) (hj : j < l.length) :
    natAt j 1 (l.flatMap (natBytes 1)) = l[j] := by
  have hentry := field_of_entry (front := []) (off := 0) (len := 1) (place := j) [] (length_natBytes 1)
    (List.getElem?_eq_getElem hj) (by omega) (by simp)
  rw [List.nil_append, List.append_nil] at hentry
  rw [natAt, hentry]
  exact natAt_natBytes (hl _ (List.getElem_mem hj))

/-- Entry `j` of a row of pairs of bytes. -/
theorem natAt_flatMap_pairs {l : List (Nat × Nat)} {j : Nat} (hl : ∀ p ∈ l, fits 1 p.1 = true ∧ fits 1 p.2 = true)
    (hj : j < l.length) :
    let b := l.flatMap fun p => natBytes 1 p.1 ++ natBytes 1 p.2
    natAt (2 * j) 1 b = l[j].1 ∧ natAt (2 * j + 1) 1 b = l[j].2 := by
  have hentry (off : Nat) (hoff : off < 2) := field_of_entry (front := []) (off := off) (len := 1) (place := 2 * j + off)
    (enc := fun p : Nat × Nat => natBytes 1 p.1 ++ natBytes 1 p.2) (w := 2) [] (by simp) (List.getElem?_eq_getElem hj)
    (by omega) (by simp)
  simp only [List.nil_append, List.append_nil] at hentry
  obtain ⟨hfirst, hsecond⟩ := hl _ (List.getElem_mem hj)
  constructor
  · exact (congrArg leNat (hentry 0 (by omega))).trans ((natAt_append_left _ (by simp)).trans (natAt_natBytes hfirst))
  · exact (congrArg leNat (hentry 1 (by omega))).trans ((natAt_append_right _ (by simp)).trans (natAt_natBytes hsecond))

theorem noticeMask_readsBack {flags : Vector Nat 7} (h : ∀ n ∈ flags.toList, fits 1 n = true) :
    let b := flags.toList.flatMap (natBytes 1)
    #v[natAt 0 1 b, natAt 1 1 b, natAt 2 1 b, natAt 3 1 b, natAt 4 1 b, natAt 5 1 b, natAt 6 1 b] = flags := by
  intro b
  have hentry (j : Nat) (hj : j < 7) : natAt j 1 b = flags[j] := natAt_flatMap_natBytes h (by simpa using hj)
  refine Vector.ext fun j hj => ?_
  rw [← hentry j hj]
  interval_cases j <;> rfl

theorem classSet_readsBack {pairs : Vector (Nat × Nat) 4} (h : ∀ p ∈ pairs.toList, fits 1 p.1 = true ∧ fits 1 p.2 = true) :
    let b := pairs.toList.flatMap fun p => natBytes 1 p.1 ++ natBytes 1 p.2
    #v[(natAt 0 1 b, natAt 1 1 b), (natAt 2 1 b, natAt 3 1 b), (natAt 4 1 b, natAt 5 1 b), (natAt 6 1 b, natAt 7 1 b)] =
      pairs := by
  intro b
  have hentry (j : Nat) (hj : j < 4) : (natAt (2 * j) 1 b, natAt (2 * j + 1) 1 b) = pairs[j] := by
    obtain ⟨hfirst, hsecond⟩ := natAt_flatMap_pairs h (j := j) (by simpa using hj)
    exact Prod.ext hfirst hsecond
  refine Vector.ext fun j hj => ?_
  rw [← hentry j hj]
  interval_cases j <;> rfl

end Sys2Proof.Machine
end

section
/-! PROOF. Every request is read back from its frame (R201 to R204). -/

namespace Sys2Proof.Machine

/-- The frame of a well-formed request is read back as the request, layout by layout (R203). -/
theorem decodeRequest_encodeRequest {i : Instr} {f : Frame} (h : i.wellFormed = true) (hf : encodeRequest i = some f) :
    decodeRequest f = .ok i := by
  -- An arrival has no kind and so no frame.
  cases i <;> cases hf
  case classRead | vectorRead | clockRound | clockRead | status | saveSettings => rfl
  case stationRestart | stationZero | weighCapture | stationRead | tareListClear | tareListRead | bulkStart | bulkNext
      | bulkHold | bulkResume | bulkShort | bulkAbort | bulkRetire | bulkRead | invCancel | actionSetRead | templateRead
      | headResume | headReline | headSkip | headReset | headRead | sheetRelease | storeRead | linkSpeed | restart =>
    exact decodeRequest_number (fun _ => rfl) rfl h
  case invRead | invVoidLast | invClose | stationQueueAdd | stationQueueRemove | headSet | sheetFetch =>
    exact decodeRequest_numbers (fun _ => rfl) rfl h
  case stationCal | stencilRequest | windowSet | bulkConfig =>
    simp only [Instr.wellFormed, Bool.and_eq_true] at h
    exact decodeRequest_ok rfl rfl (by simp [Instr.requestTag, Instr.requestBody, keepBytes, h])
  case packtypeSet =>
    simp only [Instr.wellFormed, Bool.and_eq_true, beq_iff_eq] at h
    exact decodeRequest_ok rfl (by simp [Instr.requestBody, h, bodyLengthFits])
      (by simp [Instr.requestTag, Instr.requestBody, h])
  case templateLoad =>
    simp only [Instr.wellFormed, Bool.and_eq_true, decide_eq_true_eq] at h
    exact decodeRequest_ok rfl (by simp [Instr.requestBody, bodyLengthFits]; omega)
      (by simp [Instr.requestTag, Instr.requestBody, h])
  case vectorSet => exact decodeRequest_vectorSet h
  case windowRead number =>
    cases number with
    | none => rfl
    | some n => exact decodeRequest_ok rfl rfl (congrArg (fun n => Instr.windowRead _ (some n)) (natAt_natBytes h))
  case bulkDefine => exact decodeRequest_bulkDefine h
  case stationConfig => exact decodeRequest_ok rfl rfl (congrArg _ (stationConfigAt_requestBody h))
  case actionSetWrite =>
    obtain ⟨hset, hfields⟩ := Bool.and_eq_true_iff.mp h
    exact decodeRequest_ok rfl rfl (congrArg₂ _ (by simp [Instr.requestBody, hset]) (actionSetAt_requestBody hfields))
  case invOpen =>
    exact decodeRequest_ok rfl (by rw [length_invOpen_requestBody h]; rfl) (congrArg _ (invOpenAt_requestBody h))
  case invAmend =>
    obtain ⟨hnumber, hfields⟩ := Bool.and_eq_true_iff.mp h
    exact decodeRequest_ok rfl (by rw [length_invAmend_requestBody hfields]; rfl)
      (congrArg₂ _ (by simp [Instr.requestBody, hnumber]) (invAmendAt_requestBody hfields))
  case clockSet => exact decodeRequest_ok rfl rfl (congrArg _ (readingAt_readingBytes h))
  case classSet =>
    simp only [Instr.wellFormed, List.all_eq_true, Bool.and_eq_true] at h
    exact decodeRequest_ok rfl (by simp [Instr.requestBody, bodyLengthFits]) (congrArg _ (classSet_readsBack h))
  case noticeMask =>
    simp only [Instr.wellFormed, List.all_eq_true] at h
    exact decodeRequest_ok rfl (by simp [Instr.requestBody, bodyLengthFits]) (congrArg _ (noticeMask_readsBack h))

/-- Settles O5, request by request. -/
theorem requestsRoundTrip : Obligations.RequestsRoundTrip := by
  unfold Obligations.RequestsRoundTrip
  exact fun _ _ h hf => decodeRequest_encodeRequest h hf

end Sys2Proof.Machine
end

section
/-! SUPPORT. The command queue stands outside every block: what a request, the serving of the line, a start and what arrives
on the host line leave of it. -/

namespace Sys2Proof.Machine

/-! ### Requests, taken and served -/

/-- A request leaves the command queue when its owner does. -/
theorem answerRequest_pending {tag kind : Byte} {s : State} {a : Answer}
    (ha : ∀ u form, a = .ok (u, form) → u.pending = s.pending) :
    (answerRequest tag kind s a).pending = s.pending := by
  cases a with
  | error r => rfl
  | ok p => exact ha p.1 p.2 rfl

@[simp] theorem takeRestart_pending (tag : Byte) (form : Nat) (s : State) :
    (takeRestart tag form s).pending = s.pending := by
  unfold takeRestart
  split <;> rfl

/-- No request writes the command queue (spec/10 10.2), request by request. -/
@[simp] theorem takeRequest_pending (s : State) : ∀ i, (takeRequest i s).pending = s.pending
  | .stationConfig .. => answerRequest_pending fun _ _ e => (ownStationConfig_keeps _ _ e).1
  | .stationCal .. => answerRequest_pending fun _ _ e => (ownStationCal_keeps _ _ _ _ e).1
  | .stationRestart .. => answerRequest_pending fun _ _ e => (ownStationRestart_keeps _ _ e).1
  | .stationZero .. => answerRequest_pending fun _ _ e => (ownStationZero_keeps _ _ e).1
  | .weighCapture .. => answerRequest_pending fun _ _ e => (ownWeighCapture_keeps _ _ e).1
  | .stationRead .. => answerRequest_pending fun _ _ e => (ownStationRead_keeps _ _ e).1
  | .packtypeSet .. => answerRequest_pending fun _ _ e => (ownPacktypeSet_keeps _ _ _ _ _ e).1
  | .tareListClear .. => answerRequest_pending fun _ _ e => (ownTareListClear_keeps _ _ e).1
  | .tareListRead .. => answerRequest_pending fun _ _ e => (ownTareListRead_keeps _ _ e).1
  | .classSet .. => answerRequest_pending fun _ _ e => (ownClassSet_keeps _ _ e).1
  | .bulkDefine .. => answerRequest_pending fun _ _ e => (ownBulkDefine_keeps _ _ _ _ e).1
  | .bulkStart .. => answerRequest_pending fun _ _ e => (ownBulkStart_keeps _ _ e).1
  | .bulkNext .. => answerRequest_pending fun _ _ e => (ownBulkNext_keeps _ _ e).1
  | .bulkHold .. => answerRequest_pending fun _ _ e => (ownBulkHold_keeps _ _ e).1
  | .bulkResume .. => answerRequest_pending fun _ _ e => (ownBulkResume_keeps _ _ e).1
  | .bulkShort .. => answerRequest_pending fun _ _ e => (ownBulkShort_keeps _ _ e).1
  | .bulkAbort .. => answerRequest_pending fun _ _ e => (ownBulkAbort_keeps _ _ e).1
  | .bulkRetire .. => answerRequest_pending fun _ _ e => (ownBulkRetire_keeps _ _ e).1
  | .bulkRead .. => answerRequest_pending fun _ _ e => (ownBulkRead_keeps _ _ e).1
  | .bulkConfig .. => answerRequest_pending fun _ _ e => (ownBulkConfig_keeps _ _ _ _ e).1
  | .invOpen .. => answerRequest_pending fun _ _ e => (ownInvOpen_keeps _ _ e).1
  | .invAmend .. => answerRequest_pending fun _ _ e => (ownInvAmend_keeps _ _ _ e).1
  | .invRead .. => answerRequest_pending fun _ _ e => (ownInvRead_keeps _ _ _ e).1
  | .invVoidLast .. => answerRequest_pending fun _ _ e => (ownInvVoidLast_keeps _ _ _ e).1
  | .invClose .. => answerRequest_pending fun _ _ e => (ownInvClose_keeps _ _ _ e).1
  | .invCancel .. => answerRequest_pending fun _ _ e => (ownInvCancel_keeps _ _ e).1
  | .stationQueueAdd .. => answerRequest_pending fun _ _ e => (ownStationQueueAdd_keeps _ _ _ e).1
  | .stationQueueRemove .. => answerRequest_pending fun _ _ e => (ownStationQueueRemove_keeps _ _ _ e).1
  | .vectorSet .. => answerRequest_pending fun _ _ e => (ownVectorSet_keeps _ _ _ e).1
  | .actionSetWrite .. => answerRequest_pending fun _ _ e => (ownActionSetWrite_keeps _ _ _ e).1
  | .actionSetRead .. => answerRequest_pending fun _ _ e => (ownActionSetRead_keeps _ _ e).1
  | .templateLoad .. => answerRequest_pending fun _ _ e => (ownTemplateLoad_keeps _ _ _ e).1
  | .templateRead .. => answerRequest_pending fun _ _ e => (ownTemplateRead_keeps _ _ e).1
  | .stencilRequest .. => answerRequest_pending fun _ _ e => (ownStencilRequest_keeps _ _ _ _ _ e).1
  | .headResume .. => answerRequest_pending fun _ _ e => (ownHeadResume_keeps _ _ e).1
  | .headReline .. => answerRequest_pending fun _ _ e => (ownHeadReline_keeps _ _ e).1
  | .headSkip .. => answerRequest_pending fun _ _ e => (ownHeadSkip_keeps _ _ e).1
  | .headReset .. => answerRequest_pending fun _ _ e => (ownHeadReset_keeps _ _ e).1
  | .headSet .. => answerRequest_pending fun _ _ e => (ownHeadSet_keeps _ _ _ e).1
  | .headRead .. => answerRequest_pending fun _ _ e => (ownHeadRead_keeps _ _ e).1
  | .windowSet .. => answerRequest_pending fun _ _ e => (ownWindowSet_keeps _ _ _ e).1
  | .windowRead .. => answerRequest_pending fun _ _ e => (ownWindowRead_keeps _ _ e).1
  | .sheetFetch .. => answerRequest_pending fun _ _ e => (ownSheetFetch_keeps _ _ _ e).1
  | .sheetRelease .. => answerRequest_pending fun _ _ e => (ownSheetRelease_keeps _ _ e).1
  | .storeRead .. => answerRequest_pending fun _ _ e => (ownStoreRead_keeps _ _ e).1
  | .clockSet .. => answerRequest_pending fun _ _ e => (ownClockSet_keeps _ _ e).1
  | .clockRound .. => answerRequest_pending fun _ _ e => (ownClockRound_keeps _ e).1
  | .noticeMask .. => answerRequest_pending fun _ _ e => (ownNoticeMask_keeps _ _ e).1
  | .linkSpeed .. => answerRequest_pending fun _ _ e => (ownLinkSpeed_keeps _ _ e).1
  | .saveSettings tag => (takeSaveSettings_keeps tag s).1
  | .restart tag form => takeRestart_pending tag form s
  | .classRead .. | .vectorRead .. | .clockRead .. | .status .. => rfl
  | .sampleWord .. | .signalTimerExpiry .. | .append .. | .appendAnswer .. | .tareSample .. | .tareAnswer ..
  | .reading .. | .leaveReport | .stallTimerExpiry | .sampleMark .. | .event .. | .gatePulseEnd ..
  | .stencilJobRequest .. | .stencilStatus .. | .jobRemoval .. | .characterSent .. | .lineAcknowledge ..
  | .ackTimerExpiry .. | .headFault .. | .sheetRequest .. | .chestEntryWritten | .secondAdvance | .frameReceived ..
  | .badFrame | .frameGapTimeout | .frameSent | .noticeOffer .. | .captureWaitTimeout .. | .slotDiscard ..
  | .saveWriteEnd .. | .powerOn | .powerLoss | .byteReceived .. => rfl

@[simp] theorem takeFrame_pending (f : Frame) (s : State) : (takeFrame f s).pending = s.pending := by
  unfold takeFrame
  split
  · rfl
  · exact takeRequest_pending s _

/-- The frames dispatched from the holding are no commands of the queue: serving the line leaves it (R175, R179). -/
@[simp] theorem State.serve_pending (s : State) : s.serve.pending = s.pending :=
  State.serve_keeps (fun u => u.pending = s.pending) (fun _ h => h) (fun _ f _ h _ => (takeFrame_pending f _).trans h) s rfl

/-! ### Starts and saves -/

@[simp] theorem startIn_pending (form : RestartForm) (s : State) : (startIn form s).pending = s.pending := by
  cases form <;> rfl

@[simp] theorem takeFrameSent_pending (s : State) : (takeFrameSent s).pending = s.pending := by
  have next : (sendNext s).pending = s.pending := State.serve_pending _
  unfold takeFrameSent
  split
  · rfl
  · split
    · split
      · exact startIn_pending _ s
      · exact next
    · exact next

@[simp] theorem takeSaveWriteEnd_pending (verified : Bool) (s : State) :
    (takeSaveWriteEnd verified s).pending = s.pending := by
  unfold takeSaveWriteEnd
  split
  · rfl
  · dsimp only
    split <;> exact State.serve_pending _

/-! ### Frames and bytes -/

@[simp] theorem frameArrives_pending (f : Frame) (s : State) : (frameArrives f s).pending = s.pending :=
  State.serve_pending _

@[simp] theorem assembleByte_pending (bytes : List Byte) (b : Byte) (s : State) :
    (assembleByte bytes b s).pending = s.pending := by
  unfold assembleByte
  split
  · rfl
  · rfl
  · exact frameArrives_pending _ s

@[simp] theorem takeByte_pending (b : Byte) (stopBit : Bool) (s : State) : (takeByte b stopBit s).pending = s.pending := by
  unfold takeByte
  split
  · rfl
  · split
    · rfl
    · split
      · rfl
      · exact assembleByte_pending _ b s

end Sys2Proof.Machine
end

section
/-! PROOF. Every command but POWER_ON acts through a powered part alone, and none writes the command queue (log 6, log 25;
spec/10 10.2). -/

namespace Sys2Proof.Machine

/-- An outcome is what a powered part does of a state, and that leaves the command queue. -/
def TakenUnderPower (s : State) (o : Host.Outcome State Fault Refusal) : Prop :=
  ∃ f, o = onPower s f ∧ (f s).pending = s.pending

section
variable {c : Instr} {s : State} {o : Host.Outcome State Fault Refusal} {f : State → State}

theorem onPower_takenUnderPower (hf : (f s).pending = s.pending) : TakenUnderPower s (onPower s f) := ⟨f, rfl, hf⟩

/-- Without power nothing is taken (log 6). -/
theorem TakenUnderPower.unpowered (h : TakenUnderPower s o) (hp : s.powered = false) : o = .next s := by
  obtain ⟨f, rfl, -⟩ := h
  exact onPower_unpowered hp f

/-- With or without power the next state has the queue it had (log 25). -/
theorem TakenUnderPower.next (h : TakenUnderPower s o) : ∃ t, o = .next t ∧ t.pending = s.pending := by
  cases hp : s.powered with
  | false => exact ⟨s, h.unpowered hp, rfl⟩
  | true =>
    obtain ⟨f, rfl, hf⟩ := h
    exact ⟨f s, onPower_powered hp f, hf⟩

theorem exec_request_takenUnderPower {k : Byte} (s : State) (hk : c.requestKind = some k) :
    TakenUnderPower s (exec c s) := by
  by_cases hs : k = 0x36
  · obtain ⟨tag, rfl⟩ := eq_saveSettings (hs ▸ hk)
    exact onPower_takenUnderPower (f := takeSaveSettings tag) (by simp)
  · rw [exec_request_onPower s hk hs]
    exact onPower_takenUnderPower (by simp)

theorem exec_arrival_takenUnderPower (s : State) (hk : c.requestKind = none) (hc : c ≠ .powerOn) :
    TakenUnderPower s (exec c s) := by
  unfold exec
  cases c with
  | powerOn => contradiction
  | sampleWord | frameGapTimeout => exact onPower_takenUnderPower (by split <;> simp)
  | powerLoss | gatePulseEnd | jobRemoval | characterSent | badFrame | noticeOffer => exact onPower_takenUnderPower rfl
  | signalTimerExpiry | append | appendAnswer | tareSample | tareAnswer | reading | leaveReport | stallTimerExpiry
  | sampleMark | event | stencilJobRequest | stencilStatus | lineAcknowledge | ackTimerExpiry | headFault | sheetRequest
  | chestEntryWritten | secondAdvance | captureWaitTimeout | slotDiscard | saveWriteEnd | frameReceived | frameSent
  | byteReceived => exact onPower_takenUnderPower (by simp)
  | _ => contradiction

theorem exec_takenUnderPower (s : State) (hc : c ≠ .powerOn) : TakenUnderPower s (exec c s) := by
  cases hk : c.requestKind with
  | some k => exact exec_request_takenUnderPower s hk
  | none => exact exec_arrival_takenUnderPower s hk hc

end

/-- Settles O2: POWER_ON starts the part with its queue kept, and every other command is taken under power. -/
theorem execAnswersAndKeepsTheQueue : Obligations.ExecAnswersAndKeepsTheQueue := by
  unfold Obligations.ExecAnswersAndKeepsTheQueue
  refine ⟨fun c s => ?_, fun c s hp hc => (exec_takenUnderPower s hc).unpowered hp⟩
  by_cases hc : c = .powerOn
  · subst hc
    exact ⟨coldStart s, rfl, rfl⟩
  · exact (exec_takenUnderPower s hc).next

end Sys2Proof.Machine
end

section
/-! SUPPORT. The weigh station unit (spec/01): a station read back after it is written, and what the load cycle, a decision and
OVERLOAD leave of a station and of the others. -/

namespace Sys2Proof.Machine

/-! ### A station read after it is written -/

section
variable (s : State) (i : Fin 4) (x y : Station)

theorem setStation_get : (s.setStation i x).stations[i] = x := vector_set_self _ _ _

theorem setStation_get_other {j : Fin 4} (h : j ≠ i) : (s.setStation i x).stations[j] = s.stations[j] :=
  vector_set_other _ _ _ _ h

/-- Of two records written the second stands. -/
theorem setStation_setStation : (s.setStation i x).setStation i y = s.setStation i y := by
  simp [State.setStation]

end

/-! ### What stands of the stations -/

/-- The other stations stand, and station `i` keeps its settings. -/
structure SettingsStand (i : Fin 4) (s u : State) : Prop where
  others : ∀ j : Fin 4, j ≠ i → u.stations[j] = s.stations[j]
  settings : u.stations[i].settings = s.stations[i].settings

/-- The other stations stand, and station `i` keeps its settings, its filter history and its signal timer. -/
structure SamplesStand (i : Fin 4) (s u : State) : Prop extends SettingsStand i s u where
  filter : u.stations[i].filter = s.stations[i].filter
  signalTimer : u.stations[i].signalTimer = s.stations[i].signalTimer

section
variable {i : Fin 4} {s t u : State} {x : Station}

theorem SettingsStand.of_stations (h : u.stations = s.stations) : SettingsStand i s u :=
  ⟨fun _ _ => by rw [h], by rw [h]⟩

theorem SettingsStand.refl (i : Fin 4) (s : State) : SettingsStand i s s := .of_stations rfl

theorem SettingsStand.trans (h : SettingsStand i s t) (k : SettingsStand i t u) : SettingsStand i s u :=
  ⟨fun j hj => (k.others j hj).trans (h.others j hj), k.settings.trans h.settings⟩

theorem SettingsStand.setStation (h : x.settings = s.stations[i].settings := by rfl) : SettingsStand i s (s.setStation i x) :=
  ⟨fun _ hj => setStation_get_other s i x hj, (congrArg _ (setStation_get s i x)).trans h⟩

theorem SamplesStand.of_stations (h : u.stations = s.stations) : SamplesStand i s u :=
  ⟨.of_stations h, by rw [h], by rw [h]⟩

theorem SamplesStand.refl (i : Fin 4) (s : State) : SamplesStand i s s := .of_stations rfl

theorem SamplesStand.trans (h : SamplesStand i s t) (k : SamplesStand i t u) : SamplesStand i s u :=
  ⟨h.toSettingsStand.trans k.toSettingsStand, k.filter.trans h.filter, k.signalTimer.trans h.signalTimer⟩

theorem SamplesStand.setStation (h : x.settings = s.stations[i].settings := by rfl)
    (hf : x.filter = s.stations[i].filter := by rfl) (ht : x.signalTimer = s.stations[i].signalTimer := by rfl) :
    SamplesStand i s (s.setStation i x) :=
  ⟨.setStation h, (congrArg _ (setStation_get s i x)).trans hf, (congrArg _ (setStation_get s i x)).trans ht⟩

/-- A station written again with the same settings, filter history and signal timer. -/
theorem SamplesStand.setStation_again {y : Station} (h : y.settings = x.settings := by rfl)
    (hf : y.filter = x.filter := by rfl) (ht : y.signalTimer = x.signalTimer := by rfl) :
    SamplesStand i (s.setStation i x) (s.setStation i y) := by
  rw [← setStation_setStation s i x y]
  exact .setStation (by rwa [setStation_get]) (by rwa [setStation_get]) (by rwa [setStation_get])

/-- What is sent behind an operation leaves the stations. -/
theorem SamplesStand.sent (h : SamplesStand i s t) (m : Instr) : SamplesStand i s (t.send m) := h.trans (.of_stations rfl)

end

/-! ### Settle (R14) -/

/-- The station with its q in the settle history and the settled flag judged (R14). -/
def Station.judged (st : Station) : Station :=
  { st with settle := pushNewest st.settings.m st.settle st.q
            settled := st.settings.judgeSettled (pushNewest st.settings.m st.settle st.q) }

/-- The judgement enters settled: the flag is set and was not (R14). -/
def Station.enters (st : Station) : Bool := st.judged.settled && !st.settled

/-- The weight judged is delivered by a FEED station and handled by the load cycle of any other (R18, R26). -/
def inRangeHandled (i : Fin 4) (s : State) : State :=
  if s.stations[i].settings.role == .feed then (s.setStation i s.stations[i].judged).send
    (.reading i s.stations[i].q s.stations[i].judged.settled s.stations[i].settings.d)
  else loadCycle i s.stations[i].enters (s.setStation i s.stations[i].judged)

theorem inRange_eq (i : Fin 4) (s : State) : inRange i s =
    if s.stations[i].enters then answerCapture i (inRangeHandled i s) else inRangeHandled i s := rfl

/-! ### Decisions, zero and the load cycle -/

section
variable (i : Fin 4) (s : State)

theorem recordDecision_stands (r : DecisionRecord) : SamplesStand i s (recordDecision i r s) := .setStation

theorem decideChest_stands (q : Int) : SamplesStand i s (decideChest i q s) := by
  unfold decideChest
  split
  · exact (recordDecision_stands i s _).sent _
  · dsimp only
    split
    · exact ((recordDecision_stands i s _).sent _).sent _
    · exact ((recordDecision_stands i s _).sent _).sent _
    · exact ((recordDecision_stands i s _).trans .setStation).sent _

theorem decideTare_stands (q : Int) : SamplesStand i s (decideTare i q s) :=
  ((recordDecision_stands i s _).trans .setStation).sent _

theorem takeDecision_stands (q : Int) : SamplesStand i s (takeDecision i q s) := by
  unfold takeDecision
  split
  · exact decideChest_stands i s q
  · exact decideTare_stands i s q
  · exact .refl i s

theorem takeAppendAnswer_stands (a : AppendAnswer) : SamplesStand i s (takeAppendAnswer i a s) := by
  unfold takeAppendAnswer
  split
  · exact (SamplesStand.setStation).sent _
  · exact .refl i s

theorem takeTareAnswer_stands (t : Fin 8) (took : Bool) : SamplesStand i s (takeTareAnswer i t took s) := by
  unfold takeTareAnswer
  split
  · exact (SamplesStand.setStation).sent _
  · exact .refl i s

theorem trackZero_stands : SamplesStand i s (trackZero i s) := by
  unfold trackZero
  dsimp only
  split
  · exact .refl i s
  · split
    · exact (SamplesStand.setStation).sent _
    · exact .setStation

theorem decideIfSettled_stands : SamplesStand i s (decideIfSettled i s) := by
  unfold decideIfSettled
  dsimp only
  split
  · exact takeDecision_stands i s _
  · exact .refl i s

theorem watchDisturbance_stands : SamplesStand i s (watchDisturbance i s) := by
  unfold watchDisturbance
  dsimp only
  split
  · exact (SamplesStand.setStation).sent _
  · exact .refl i s

theorem inDecided_stands (entered : Bool) : SamplesStand i s (inDecided i entered s) := by
  have again : SamplesStand i s (if entered then decideChest i s.stations[i].q s else s) := by
    split
    · exact decideChest_stands i s _
    · exact .refl i s
  unfold inDecided
  dsimp only
  split
  · split
    · exact again
    · exact again
    · exact watchDisturbance_stands i s
    · exact .refl i s
  · exact .refl i s

theorem loadCycle_stands (entered : Bool) : SamplesStand i s (loadCycle i entered s) := by
  unfold loadCycle
  dsimp only
  split
  · split
    · exact .refl i s
    · split
      · exact (SamplesStand.setStation).trans (trackZero_stands i _)
      · exact .setStation
  · split
    · split
      · exact trackZero_stands i s
      · exact .refl i s
    · exact (SamplesStand.setStation).trans (decideIfSettled_stands i _)
  · split
    · exact .setStation
    · exact decideIfSettled_stands i s
  · split
    · exact .setStation
    · exact inDecided_stands i s entered
  · exact .refl i s

/-! ### OVERLOAD, samples and the signal timer -/

theorem reportLeft_stands (role : Role) : SamplesStand i s (reportLeft role s) := .of_stations (by simp)

theorem enterOverload_stands : SamplesStand i s (enterOverload i s) :=
  ((SamplesStand.setStation).sent _).sent _ |>.trans (reportLeft_stands i _ _)

theorem leaveOverload_stands : SamplesStand i s (leaveOverload i s) := by
  unfold leaveOverload
  dsimp only
  split
  · exact (SamplesStand.setStation).sent _
  · exact .setStation

theorem answerCapture_stands : SamplesStand i s (answerCapture i s) := .of_stations (by simp)

theorem inRange_stands : SamplesStand i s (inRange i s) := by
  have handled : SamplesStand i s (inRangeHandled i s) := by
    unfold inRangeHandled
    split
    · exact (SamplesStand.setStation).sent _
    · exact (SamplesStand.setStation).trans (loadCycle_stands i _ _)
  rw [inRange_eq]
  split
  · exact handled.trans (answerCapture_stands i _)
  · exact handled

/-- A sample joins the filter history and restarts the signal timer; whatever it leads to leaves both (R7, R10). -/
theorem weigh_stands (x : Int) : SamplesStand i (s.setStation i (s.stations[i].sample x)) (weigh i x s) := by
  have inRange : SamplesStand i (s.setStation i (s.stations[i].sample x))
      (s.setStation i { s.stations[i].sample x with lastInRange := (s.stations[i].sample x).q }) :=
    .setStation_again
  unfold weigh
  dsimp only
  split
  · split
    · exact .refl i _
    · exact enterOverload_stands i _
  · split
    · exact inRange.trans (leaveOverload_stands i _)
    · exact inRange.trans (inRange_stands i _)

end

end Sys2Proof.Machine
end

section
/-! SUPPORT. What the legality of the clock, of the FEED role and of the class tables rests on (R2, R40, R164, R194): the
calendar, the roles of the stations and the images of the settings store. -/

namespace Sys2Proof.Machine

/-! ### The calendar (R164) -/

theorem firstOfMonth_valid {y m : Nat} (hy : 2000 ≤ y) (hy' : y ≤ 2099) (hm : 1 ≤ m) (hm' : m ≤ 12) :
    validDate ⟨y, m, 1⟩ = true :=
  (validDate_iff _).mpr ⟨hy, hy', hm, hm', le_rfl, by show 1 ≤ _; split_ifs <;> decide⟩

theorem nextDay_valid {d : Date} (h : validDate d = true) : validDate (nextDay d) = true := by
  obtain ⟨hyear, hyear', hmonth, hmonth', hday, hday'⟩ := (validDate_iff d).mp h
  rw [← monthLength_eq hmonth hmonth'] at hday'
  by_cases inMonth : d.day < monthLength d.year d.month
  · rw [nextDay_in_month inMonth, validDate_iff, ← monthLength_eq hmonth hmonth']
    exact ⟨hyear, hyear', hmonth, hmonth', Nat.le_add_left .., inMonth⟩
  · rw [nextDay_at_month_end (Nat.le_antisymm hday' (Nat.le_of_not_lt inMonth))]
    split
    · exact firstOfMonth_valid hyear hyear' (Nat.le_add_left ..) ‹_›
    · split
      · exact firstOfMonth_valid (Nat.le_add_right_of_le hyear) ‹_› (by decide) (by decide)
      · decide

theorem nextMinute_valid {r : ClockReading} (h : validReading r = true) : validReading (nextMinute r).1 = true := by
  obtain ⟨hdate, hhour, hminute, -⟩ := (validReading_iff r).mp h
  unfold nextMinute
  split
  · exact (validReading_iff _).mpr ⟨hdate, hhour, ‹_›, Nat.zero_le _⟩
  · split
    · exact (validReading_iff _).mpr ⟨hdate, ‹_›, Nat.zero_le _, Nat.zero_le _⟩
    · exact (validReading_iff _).mpr ⟨nextDay_valid hdate, Nat.zero_le _, Nat.zero_le _, Nat.zero_le _⟩

theorem nextSecond_valid {r : ClockReading} (h : validReading r = true) : validReading (nextSecond r).1 = true := by
  obtain ⟨hdate, hhour, hminute, -⟩ := (validReading_iff r).mp h
  unfold nextSecond
  split
  · exact (validReading_iff _).mpr ⟨hdate, hhour, hminute, ‹_›⟩
  · exact nextMinute_valid h

theorem roundReading_valid {r : ClockReading} (h : validReading r = true) : validReading (roundReading r).1 = true := by
  obtain ⟨hdate, hhour, hminute, -⟩ := (validReading_iff r).mp h
  unfold roundReading
  split
  · exact (validReading_iff _).mpr ⟨hdate, hhour, hminute, Nat.zero_le _⟩
  · exact nextMinute_valid h

/-! ### The FEED role (R2) -/

/-- No two stations hold the role FEED. -/
def OneFeeds (p : Fin 4 → Role) : Prop := ∀ i j : Fin 4, p i = .feed → p j = .feed → i = j

theorem vector_toList_eq_map {α : Type} {n : Nat} (v : Vector α n) : v.toList = (List.finRange n).map fun i => v[i] := by
  apply List.ext_getElem <;> simp

theorem feedCount_le_one_iff (r : Vector StationSettings 4) : feedCount r ≤ 1 ↔ OneFeeds fun i => r[i].role := by
  have card : feedCount r = (Finset.univ.filter fun i : Fin 4 => r[i].role = .feed).card := by
    rw [feedCount, vector_toList_eq_map, List.filter_map, List.length_map,
      ← List.toFinset_card_of_nodup ((List.nodup_finRange 4).filter _)]
    congr 1
    ext i
    simp
  rw [card, Finset.card_le_one]
  simp only [OneFeeds, Finset.mem_filter, Finset.mem_univ, true_and]
  exact ⟨fun h i j hi hj => h i hi j hj, fun h i hi j hj => h i j hi hj⟩

theorem feedUnique_iff (s : State) : FeedUnique s ↔
    (OneFeeds fun i => s.stations[i].settings.role) ∧ ∀ m ∈ s.settings.images, feedCount m.stations ≤ 1 := by
  rw [FeedUnique, feedCount_le_one_iff]
  simp

/-- A station may take the role FEED when it holds it already or no other station does (R3). -/
theorem OneFeeds.update {p q : Fin 4 → Role} (i : Fin 4) (hp : OneFeeds p) (hq : ∀ j, j ≠ i → q j = p j)
    (hi : q i = .feed → p i = .feed ∨ ∀ j, j ≠ i → p j ≠ .feed) : OneFeeds q := by
  have alone {j : Fin 4} (hqi : q i = .feed) (hj : q j = .feed) : i = j := by
    by_contra hne
    have pj : p j = .feed := (hq j (Ne.symm hne)).symm.trans hj
    rcases hi hqi with pi | free
    · exact hne (hp i j pi pj)
    · exact free j (Ne.symm hne) pj
  intro j k hj hk
  by_cases hji : j = i
  · subst hji
    exact alone hj hk
  · by_cases hki : k = i
    · subst hki
      exact (alone hk hj).symm
    · exact hp j k ((hq j hji).symm.trans hj) ((hq k hki).symm.trans hk)

/-! ### The images of the settings store (R194) -/

theorem mem_images {t : Settings} {m : Image} :
    m ∈ t.images ↔ (∃ (p : Fin 2) (g : Nat), t.places[p] = .valid g m) ∨ ∃ f, t.save = some f ∧ f.copy = m := by
  rw [Settings.images, vector_toList_eq_map]
  simp only [List.mem_append, List.mem_filterMap, List.mem_map, List.mem_finRange, true_and, Option.mem_toList,
    Option.map_eq_some_iff]
  refine or_congr_left ⟨?_, ?_⟩
  · rintro ⟨-, ⟨p, rfl⟩, h⟩
    split at h
    · rename_i g k hg
      exact ⟨p, g, by rw [hg, Option.some.inj h]⟩
    · contradiction
  · rintro ⟨p, g, h⟩
    exact ⟨_, ⟨p, rfl⟩, by rw [h]⟩

/-- The end of a save, or a start, leaves no image but those of the places. -/
theorem images_of_no_save {t u : Settings} {m : Image} (h : m ∈ u.images) (hplaces : u.places = t.places := by rfl)
    (hsave : u.save = none := by rfl) : m ∈ t.images := by
  rcases mem_images.mp h with ⟨p, g, h⟩ | ⟨f, h, -⟩
  · exact mem_images.mpr (.inl ⟨p, g, hplaces ▸ h⟩)
  · rw [hsave] at h
    contradiction

/-- A place written holds what was written; the other holds what it did. -/
theorem place_of_set {v : Vector Place 2} {p q : Fin 2} {x : Place} {g : Nat} {m : Image}
    (h : (v.set p x)[q] = .valid g m) : x = .valid g m ∨ v[q] = .valid g m := by
  by_cases hq : q = p
  · subst hq
    rw [vector_set_self] at h
    exact .inl h
  · rw [vector_set_other _ _ _ _ hq] at h
    exact .inr h

/-- A save that begins holds the settings as they stand and the images there were (R196). -/
theorem images_of_beginSave {t : Settings} {copy m : Image} (h : m ∈ (t.beginSave copy).images) :
    m ∈ t.images ∨ m = copy := by
  rcases mem_images.mp h with ⟨p, g, h⟩ | ⟨f, h, hcopy⟩
  · rcases place_of_set h with h | h
    · contradiction
    · exact .inl (mem_images.mpr (.inl ⟨p, g, h⟩))
  · exact .inr (hcopy.symm.trans (congrArg SaveInFlight.copy (Option.some.inj h)).symm)

/-- A save whose verify agrees writes no image that the store did not hold (R197). -/
theorem images_of_saved {t : Settings} {f : SaveInFlight} (hf : t.save = some f) {m : Image}
    (h : m ∈ (t.saved f).images) : m ∈ t.images := by
  rcases mem_images.mp h with ⟨p, g, h⟩ | ⟨_, h, -⟩
  · rcases place_of_set h with h | h
    · injection h with hg hm
      exact mem_images.mpr (.inr ⟨f, hf, hm⟩)
    · exact mem_images.mpr (.inl ⟨p, g, h⟩)
  · contradiction

/-- A start loads an image of the store or the defaults (R198, R199). -/
theorem loadedImage_cases (t : Settings) : loadedImage t.places ∈ t.images ∨ loadedImage t.places = Image.default := by
  unfold loadedImage imageOf
  split
  · split
    · rename_i g m hp
      exact .inl (mem_images.mpr (.inl ⟨_, g, hp⟩))
    · exact .inr rfl
  · exact .inr rfl

end Sys2Proof.Machine
end

section
/-! SUPPORT. What a command keeps of the clock, of the FEED role and of the class tables (R2, R40, R164, R194): most commands
leave all that these rest on. -/

namespace Sys2Proof.Machine

/-- What the legality of the clock, of the FEED role and of the class tables rests on. -/
def State.legalParts (s : State) : Option ClockReading × Vector Role 4 × Vector Allowance 4 × List Image :=
  (s.clock.reading, s.stations.map (·.settings.role), s.packs.classes, s.settings.images)

/-- The clock, the FEED role and the class tables stay legal. -/
structure LegalKept (s u : State) : Prop where
  clock : ClockValid s → ClockValid u
  feed : FeedUnique s → FeedUnique u
  classes : ClassTablesOrdered s → ClassTablesOrdered u

section
variable {s t u : State} {i : Fin 4}

theorem roles_get (h : u.stations.map (·.settings.role) = s.stations.map (·.settings.role)) (j : Fin 4) :
    u.stations[j].settings.role = s.stations[j].settings.role := by
  simpa using congrArg (fun v : Vector Role 4 => v[j]) h

/-- What moves the clock alone. -/
theorem LegalKept.of_clock (hc : ClockValid s → ClockValid u) (h : u.legalParts.2 = s.legalParts.2) : LegalKept s u := by
  simp only [State.legalParts, Prod.mk.injEq] at h
  obtain ⟨hroles, hclasses, himages⟩ := h
  refine ⟨hc, fun hs => ?_, fun hs => ?_⟩
  · rw [feedUnique_iff] at hs ⊢
    simpa only [roles_get hroles, himages] using hs
  · unfold ClassTablesOrdered at hs ⊢
    rwa [hclasses, himages]

theorem ClockValid.of_reading (h : u.clock.reading = s.clock.reading) (hs : ClockValid s) : ClockValid u := by
  unfold ClockValid at hs ⊢
  rwa [h]

theorem LegalKept.of_parts (h : u.legalParts = s.legalParts) : LegalKept s u :=
  .of_clock (.of_reading (congrArg Prod.fst h)) (congrArg Prod.snd h)

theorem LegalKept.refl (s : State) : LegalKept s s := .of_parts rfl

theorem LegalKept.trans (h : LegalKept s t) (k : LegalKept t u) : LegalKept s u :=
  ⟨fun hs => k.clock (h.clock hs), fun hs => k.feed (h.feed hs), fun hs => k.classes (h.classes hs)⟩

/-- An operation on stations that leaves every role. -/
theorem LegalKept.of_roles (h : ∀ j : Fin 4, u.stations[j].settings.role = s.stations[j].settings.role)
    (hclock : u.clock.reading = s.clock.reading) (hpacks : u.packs = s.packs) (hsettings : u.settings = s.settings) :
    LegalKept s u := by
  have roles : u.stations.map (·.settings.role) = s.stations.map (·.settings.role) := by
    ext j hj
    simpa using h ⟨j, hj⟩
  exact .of_parts (by rw [State.legalParts, State.legalParts, hclock, hpacks, hsettings, roles])

theorem SettingsStand.role (h : SettingsStand i s u) (j : Fin 4) :
    u.stations[j].settings.role = s.stations[j].settings.role := by
  by_cases hji : j = i
  · rw [hji, h.settings]
  · rw [h.others _ hji]

/-- An operation on the settings store that writes no image but the settings as they stand (R196). -/
theorem LegalKept.of_images (hclock : u.clock = s.clock) (hstations : u.stations = s.stations) (hpacks : u.packs = s.packs)
    (himages : ∀ m ∈ u.settings.images, m ∈ s.settings.images ∨ m = copySettings s) : LegalKept s u := by
  refine ⟨.of_reading (by rw [hclock]), fun hs => ?_, fun hs => ?_⟩
  · refine ⟨by rw [hstations]; exact hs.1, fun m hm => ?_⟩
    rcases himages m hm with h | rfl
    · exact hs.2 m h
    · exact hs.1
  · refine ⟨by rw [hpacks]; exact hs.1, fun m hm => ?_⟩
    rcases himages m hm with h | rfl
    · exact hs.2 m h
    · exact hs.1

/-- A start takes the stations of an image of the store or of the defaults, its class table, or the one there was. -/
theorem LegalKept.of_start {m : Image} (hm : m ∈ s.settings.images ∨ m = Image.default)
    (hclock : ClockValid s → ClockValid u) (hstations : u.stations = m.stations.map Station.start)
    (hclasses : u.packs.classes = m.classes ∨ u.packs.classes = s.packs.classes)
    (himages : ∀ k ∈ u.settings.images, k ∈ s.settings.images) : LegalKept s u := by
  refine ⟨hclock, fun hs => ⟨?_, fun k hk => hs.2 k (himages k hk)⟩,
    fun hs => ⟨?_, fun k hk => hs.2 k (himages k hk)⟩⟩
  · have settings : u.stations.map (·.settings) = m.stations := by
      rw [hstations, Vector.map_map]
      exact Vector.map_id' _
    rw [settings]
    rcases hm with hm | rfl
    · exact hs.2 m hm
    · decide
  · rcases hclasses with h | h
    · rw [h]
      rcases hm with hm | rfl
      · exact hs.2 m hm
      · exact ⟨classesInRange_iff.mpr (by decide), by decide⟩
    · rw [h]
      exact hs.1

end

end Sys2Proof.Machine
end

section
/-! PROOF. The state after reset keeps every promise, and every step keeps the clock, the FEED role and the class tables legal
(R2, R40, R164, R194). -/

namespace Sys2Proof.Machine
/-! ### Restarts, the signal timer and settings -/

theorem Station.remeasure_settings (st : Station) : st.remeasure.settings = st.settings := by
  unfold Station.remeasure
  split <;> rfl

section
variable (i : Fin 4) (s : State)

theorem limitZero_settingsStand : SettingsStand i s (limitZero i s) := by
  rw [limitZero_frame]
  exact (SettingsStand.setStation).trans (.of_stations rfl)

theorem captureGone_settingsStand : SettingsStand i s (captureGone i s) := .of_stations (by simp)

theorem restartStation_settingsStand : SettingsStand i s (restartStation i s) :=
  (SettingsStand.setStation).trans (.of_stations rfl)

theorem takeSample_settingsStand (x : Int) : SettingsStand i s (takeSample i x s) := by
  have weighed (t : State) : SettingsStand i t (weigh i x t) :=
    (SettingsStand.setStation).trans (weigh_stands i t x).toSettingsStand
  unfold takeSample
  dsimp only
  split
  · exact .refl i s
  · split
    · exact (restartStation_settingsStand i s).trans (weighed _)
    · exact .refl i s
  · exact weighed s

theorem takeSignalExpiry_settingsStand : SettingsStand i s (takeSignalExpiry i s) := by
  have lost : SettingsStand i s (loseSignal i s) :=
    ((SettingsStand.setStation).trans (reportLeft_stands i _ _).toSettingsStand).trans
      ((captureGone_settingsStand i _).trans (.of_stations rfl))
  unfold takeSignalExpiry
  split
  · exact .refl i s
  · exact .refl i s
  · exact lost

theorem changeRole_settingsStand (old new : Role) : SettingsStand i s (changeRole i old new s) := by
  unfold changeRole
  dsimp only
  split
  · exact ((SettingsStand.setStation).trans (captureGone_settingsStand i _)).trans (reportLeft_stands i _ _).toSettingsStand
  · exact (SettingsStand.setStation).trans (reportLeft_stands i _ _).toSettingsStand

/-- New settings are in place, and what follows them leaves every station's settings (R3 to R5). -/
theorem applyConfig_settingsStand (new : StationSettings) :
    SettingsStand i (s.setStation i { s.stations[i] with settings := new }) (applyConfig i new s) := by
  have limited (measuring : Bool) (t : State) : SettingsStand i t (if measuring then limitZero i t else t) := by
    split
    · exact limitZero_settingsStand i t
    · exact .refl i t
  unfold applyConfig
  dsimp only
  split
  · exact (limited _ _).trans (changeRole_settingsStand i _ _ _)
  · split
    · exact (limitZero_settingsStand i _).trans (.setStation (Station.remeasure_settings _))
    · exact .refl i _

end

/-! ### Requests that write what they rest on -/

section
variable {s u : State} {form : Form}

theorem ownClockSet_legal {r : ClockReading} (h : ownClockSet r s = .ok (u, form)) : LegalKept s u := by
  obtain ⟨_, hvalid, h⟩ := bind_eq_ok h
  obtain rfl := okWith_state h
  refine .of_clock (fun _ k hk => ?_) rfl
  obtain rfl : r = k := Option.some.inj hk
  exact require_ok hvalid

/-- A clock that moves from one reading of the calendar to another. -/
theorem moveClock_legal {r : ClockReading} {next : ClockReading × Bool} (hr : s.clock.reading = some r)
    (hnext : validReading r = true → validReading next.1 = true) : LegalKept s (moveClock next s) := by
  refine .of_clock (fun hs k hk => ?_) (by simp [State.legalParts])
  rw [moveClock_clock] at hk
  obtain rfl : next.1 = k := Option.some.inj hk
  exact hnext (hs r hr)

theorem ownClockRound_legal (h : ownClockRound s = .ok (u, form)) : LegalKept s u := by
  cases hr : s.clock.reading with
  | none => rw [ownClockRound, hr] at h; contradiction
  | some r =>
    rw [ownClockRound, hr] at h
    obtain rfl := okWith_state h
    exact moveClock_legal hr roundReading_valid

theorem takeSecond_legal (s : State) : LegalKept s (takeSecond s) := by
  unfold takeSecond
  split
  · exact moveClock_legal ‹_› nextSecond_valid
  · exact .refl s

theorem ownPacktypeSet_legal {type : Nat} {description : Text} {nominal band : Int}
    (h : ownPacktypeSet type description nominal band s = .ok (u, form)) : LegalKept s u := by
  obtain ⟨_, _, h⟩ := bind_eq_ok h
  obtain ⟨_, _, h⟩ := bind_eq_ok h
  obtain rfl := okWith_state h
  exact .of_parts rfl

theorem ownTareListClear_legal {type : Nat} (h : ownTareListClear type s = .ok (u, form)) : LegalKept s u := by
  obtain ⟨_, _, h⟩ := bind_eq_ok h
  obtain rfl := okWith_state h
  exact .of_parts rfl

theorem ownClassSet_legal {pairs : Vector (Nat × Nat) 4} (h : ownClassSet pairs s = .ok (u, form)) : LegalKept s u := by
  obtain ⟨_, hsound, h⟩ := bind_eq_ok h
  obtain rfl := okWith_state h
  exact ⟨id, id, fun hs => ⟨by simpa [classesSound] using require_ok hsound, hs.2⟩⟩

theorem otherFeeds_eq_false {i : Fin 4} (h : otherFeeds i s = false) {j : Fin 4} (hj : j ≠ i) :
    s.stations[j].settings.role ≠ .feed := by
  simpa [otherFeeds, hj] using List.any_eq_false.mp h j (List.mem_finRange j)

/-- A station takes the role FEED only when no other holds it (R3). -/
theorem ownStationConfig_legal {r : StationConfigFields} (h : ownStationConfig r s = .ok (u, form)) : LegalKept s u := by
  obtain ⟨i, _, h⟩ := bind_eq_ok h
  obtain ⟨new, _, h⟩ := bind_eq_ok h
  obtain ⟨_, _, h⟩ := bind_eq_ok h
  obtain ⟨_, _, h⟩ := bind_eq_ok h
  obtain ⟨_, hfeed, h⟩ := bind_eq_ok h
  obtain rfl := okWith_state h
  have stands := applyConfig_settingsStand i s new
  have role : (applyConfig i new s).stations[i].settings.role = new.role := by
    rw [stands.settings, setStation_get]
  have others (j : Fin 4) (hj : j ≠ i) : (applyConfig i new s).stations[j].settings.role = s.stations[j].settings.role := by
    rw [stands.others j hj, setStation_get_other s i _ hj]
  refine ⟨.of_reading (by simp), fun hs => ?_, fun hs => ?_⟩
  · rw [feedUnique_iff] at hs ⊢
    obtain ⟨hfeeds, himages⟩ := hs
    refine ⟨hfeeds.update i others fun hnew => ?_, by simpa using himages⟩
    by_cases held : s.stations[i].settings.role = .feed
    · exact .inl held
    · refine .inr fun j hj => otherFeeds_eq_false ?_ hj
      have taken := require_ok hfeed
      rw [role] at hnew
      simpa [hnew, held, -Fin.getElem_fin] using taken
  · unfold ClassTablesOrdered at hs ⊢
    simpa using hs

theorem ownStationCal_legal {station span : Nat} {zeroCount : Int}
    (h : ownStationCal station zeroCount span s = .ok (u, form)) : LegalKept s u := by
  obtain ⟨i, _, h⟩ := bind_eq_ok h
  obtain ⟨_, _, h⟩ := bind_eq_ok h
  obtain ⟨_, _, h⟩ := bind_eq_ok h
  obtain rfl := okWith_state h
  refine .of_roles (fun j => ?_) rfl rfl rfl
  by_cases hj : j = i
  · subst hj
    rw [State.modifyStation, setStation_get, Station.calibrate, Station.remeasure_settings]
  · rw [State.modifyStation, setStation_get_other s i _ hj]

theorem ownStationRestart_legal {station : Nat} (h : ownStationRestart station s = .ok (u, form)) : LegalKept s u := by
  obtain ⟨i, _, h⟩ := bind_eq_ok h
  obtain ⟨_, _, h⟩ := bind_eq_ok h
  obtain rfl := okWith_state h
  exact .of_roles (restartStation_settingsStand i s).role (by simp) (by simp) (by simp)

theorem ownStationZero_legal {station : Nat} (h : ownStationZero station s = .ok (u, form)) : LegalKept s u := by
  obtain ⟨i, _, h⟩ := bind_eq_ok h
  obtain ⟨_, _, h⟩ := bind_eq_ok h
  obtain ⟨_, _, h⟩ := bind_eq_ok h
  obtain rfl := okWith_state h
  exact .of_roles (SettingsStand.setStation).role rfl rfl rfl

end

/-! ### Requests, taken and served -/

/-- A request keeps all legal when its owner does. -/
theorem answerRequest_legal {tag kind : Byte} {s : State} {a : Answer}
    (ha : ∀ u form, a = .ok (u, form) → LegalKept s u) : LegalKept s (answerRequest tag kind s a) := by
  cases a with
  | error r => exact .of_parts rfl
  | ok p => exact (ha p.1 p.2 rfl).trans (.of_parts rfl)

/-- A request whose owner leaves all that the legality rests on. -/
theorem answerRequest_legal_of_kept {tag kind : Byte} {s : State} {a : Answer}
    (ha : ∀ u form, a = .ok (u, form) → u.clock = s.clock ∧ u.stations = s.stations ∧ u.packs.classes = s.packs.classes ∧
      u.settings = s.settings) : LegalKept s (answerRequest tag kind s a) :=
  answerRequest_legal fun u form e => by
    obtain ⟨hclock, hstations, hclasses, hsettings⟩ := ha u form e
    exact .of_parts (by rw [State.legalParts, State.legalParts, hclock, hstations, hclasses, hsettings])

theorem takeSaveSettings_legal (tag : Byte) (s : State) : LegalKept s (takeSaveSettings tag s) := by
  unfold takeSaveSettings
  split
  · exact .refl s
  · exact .of_images rfl rfl rfl fun m hm => images_of_beginSave hm

theorem takeRestart_legal (tag : Byte) (form : Nat) (s : State) : LegalKept s (takeRestart tag form s) := by
  unfold takeRestart
  split <;> exact .of_parts rfl

theorem takeRequest_legal (s : State) : ∀ i, LegalKept s (takeRequest i s)
  | .stationConfig .. => answerRequest_legal fun _ _ e => ownStationConfig_legal e
  | .stationCal .. => answerRequest_legal fun _ _ e => ownStationCal_legal e
  | .stationRestart .. => answerRequest_legal fun _ _ e => ownStationRestart_legal e
  | .stationZero .. => answerRequest_legal fun _ _ e => ownStationZero_legal e
  | .packtypeSet .. => answerRequest_legal fun _ _ e => ownPacktypeSet_legal e
  | .tareListClear .. => answerRequest_legal fun _ _ e => ownTareListClear_legal e
  | .classSet .. => answerRequest_legal fun _ _ e => ownClassSet_legal e
  | .clockSet .. => answerRequest_legal fun _ _ e => ownClockSet_legal e
  | .clockRound .. => answerRequest_legal fun _ _ e => ownClockRound_legal e
  | .saveSettings tag => takeSaveSettings_legal tag s
  | .restart tag form => takeRestart_legal tag form s
  | .weighCapture .. => answerRequest_legal_of_kept fun _ _ e => by simp [ownWeighCapture_keeps _ _ e]
  | .stationRead .. => answerRequest_legal_of_kept fun _ _ e => by simp [ownStationRead_keeps _ _ e]
  | .tareListRead .. => answerRequest_legal_of_kept fun _ _ e => by simp [ownTareListRead_keeps _ _ e]
  | .bulkDefine .. => answerRequest_legal_of_kept fun _ _ e => by simp [ownBulkDefine_keeps _ _ _ _ e]
  | .bulkStart .. => answerRequest_legal_of_kept fun _ _ e => by simp [ownBulkStart_keeps _ _ e]
  | .bulkNext .. => answerRequest_legal_of_kept fun _ _ e => by simp [ownBulkNext_keeps _ _ e]
  | .bulkHold .. => answerRequest_legal_of_kept fun _ _ e => by simp [ownBulkHold_keeps _ _ e]
  | .bulkResume .. => answerRequest_legal_of_kept fun _ _ e => by simp [ownBulkResume_keeps _ _ e]
  | .bulkShort .. => answerRequest_legal_of_kept fun _ _ e => by simp [ownBulkShort_keeps _ _ e]
  | .bulkAbort .. => answerRequest_legal_of_kept fun _ _ e => by simp [ownBulkAbort_keeps _ _ e]
  | .bulkRetire .. => answerRequest_legal_of_kept fun _ _ e => by simp [ownBulkRetire_keeps _ _ e]
  | .bulkRead .. => answerRequest_legal_of_kept fun _ _ e => by simp [ownBulkRead_keeps _ _ e]
  | .bulkConfig .. => answerRequest_legal_of_kept fun _ _ e => by simp [ownBulkConfig_keeps _ _ _ _ e]
  | .invOpen .. => answerRequest_legal_of_kept fun _ _ e => by simp [ownInvOpen_keeps _ _ e]
  | .invAmend .. => answerRequest_legal_of_kept fun _ _ e => by simp [ownInvAmend_keeps _ _ _ e]
  | .invRead .. => answerRequest_legal_of_kept fun _ _ e => by simp [ownInvRead_keeps _ _ _ e]
  | .invVoidLast .. => answerRequest_legal_of_kept fun _ _ e => by simp [ownInvVoidLast_keeps _ _ _ e]
  | .invClose .. => answerRequest_legal_of_kept fun _ _ e => by simp [ownInvClose_keeps _ _ _ e]
  | .invCancel .. => answerRequest_legal_of_kept fun _ _ e => by simp [ownInvCancel_keeps _ _ e]
  | .stationQueueAdd .. => answerRequest_legal_of_kept fun _ _ e => by simp [ownStationQueueAdd_keeps _ _ _ e]
  | .stationQueueRemove .. => answerRequest_legal_of_kept fun _ _ e => by simp [ownStationQueueRemove_keeps _ _ _ e]
  | .vectorSet .. => answerRequest_legal_of_kept fun _ _ e => by simp [ownVectorSet_keeps _ _ _ e]
  | .actionSetWrite .. => answerRequest_legal_of_kept fun _ _ e => by simp [ownActionSetWrite_keeps _ _ _ e]
  | .actionSetRead .. => answerRequest_legal_of_kept fun _ _ e => by simp [ownActionSetRead_keeps _ _ e]
  | .templateLoad .. => answerRequest_legal_of_kept fun _ _ e => by simp [ownTemplateLoad_keeps _ _ _ e]
  | .templateRead .. => answerRequest_legal_of_kept fun _ _ e => by simp [ownTemplateRead_keeps _ _ e]
  | .stencilRequest .. => answerRequest_legal_of_kept fun _ _ e => by simp [ownStencilRequest_keeps _ _ _ _ _ e]
  | .headResume .. => answerRequest_legal_of_kept fun _ _ e => by simp [ownHeadResume_keeps _ _ e]
  | .headReline .. => answerRequest_legal_of_kept fun _ _ e => by simp [ownHeadReline_keeps _ _ e]
  | .headSkip .. => answerRequest_legal_of_kept fun _ _ e => by simp [ownHeadSkip_keeps _ _ e]
  | .headReset .. => answerRequest_legal_of_kept fun _ _ e => by simp [ownHeadReset_keeps _ _ e]
  | .headSet .. => answerRequest_legal_of_kept fun _ _ e => by simp [ownHeadSet_keeps _ _ _ e]
  | .headRead .. => answerRequest_legal_of_kept fun _ _ e => by simp [ownHeadRead_keeps _ _ e]
  | .windowSet .. => answerRequest_legal_of_kept fun _ _ e => by simp [ownWindowSet_keeps _ _ _ e]
  | .windowRead .. => answerRequest_legal_of_kept fun _ _ e => by simp [ownWindowRead_keeps _ _ e]
  | .sheetFetch .. => answerRequest_legal_of_kept fun _ _ e => by simp [ownSheetFetch_keeps _ _ _ e]
  | .sheetRelease .. => answerRequest_legal_of_kept fun _ _ e => by simp [ownSheetRelease_keeps _ _ e]
  | .storeRead .. => answerRequest_legal_of_kept fun _ _ e => by simp [ownStoreRead_keeps _ _ e]
  | .noticeMask .. => answerRequest_legal_of_kept fun _ _ e => by simp [ownNoticeMask_keeps _ _ e]
  | .linkSpeed .. => answerRequest_legal_of_kept fun _ _ e => by simp [ownLinkSpeed_keeps _ _ e]
  | .classRead .. | .vectorRead .. | .clockRead .. | .status .. => .of_parts rfl
  | .sampleWord .. | .signalTimerExpiry .. | .append .. | .appendAnswer .. | .tareSample .. | .tareAnswer ..
  | .reading .. | .leaveReport | .stallTimerExpiry | .sampleMark .. | .event .. | .gatePulseEnd ..
  | .stencilJobRequest .. | .stencilStatus .. | .jobRemoval .. | .characterSent .. | .lineAcknowledge ..
  | .ackTimerExpiry .. | .headFault .. | .sheetRequest .. | .chestEntryWritten | .secondAdvance | .frameReceived ..
  | .badFrame | .frameGapTimeout | .frameSent | .noticeOffer .. | .captureWaitTimeout .. | .slotDiscard ..
  | .saveWriteEnd .. | .powerOn | .powerLoss | .byteReceived .. => .refl s

theorem serve_legal (s : State) : LegalKept s s.serve := by
  refine State.serve_keeps (LegalKept s) (fun _ h => h.trans (.of_parts rfl)) (fun u f rest h _ => ?_) s (.refl s)
  have left : LegalKept s (u.setLink { u.link with holding := rest }) := h.trans (.of_parts rfl)
  unfold takeFrame
  split
  · exact left.trans (.of_parts rfl)
  · exact left.trans (takeRequest_legal _ _)

/-- What is served behind an operation that keeps all legal. -/
theorem LegalKept.served {s t : State} (h : LegalKept s t) : LegalKept s t.serve := h.trans (serve_legal t)

/-! ### Starts -/

theorem Clock.throughRestart_valid {c : Clock} (h : ∀ r, c.reading = some r → validReading r = true) :
    ∀ r, c.throughRestart.reading = some r → validReading r = true := by
  intro r hr
  unfold Clock.throughRestart at hr
  split at hr
  · rename_i k hk
    split at hr
    · obtain rfl : (nextSecond k).1 = r := Option.some.inj hr
      exact nextSecond_valid (h k hk)
    · exact h r hr
  · exact h r hr

theorem startIn_legal (form : RestartForm) (s : State) : LegalKept s (startIn form s) := by
  have images (m : Image) (hm : m ∈ s.settings.load.images) : m ∈ s.settings.images := images_of_no_save hm
  cases form with
  | warm => exact .of_start (loadedImage_cases s.settings) (fun hs => Clock.throughRestart_valid hs) rfl (.inr rfl) images
  | cold => exact .of_start (loadedImage_cases s.settings) (fun _ _ h => by contradiction) rfl (.inl rfl) images

/-- A part without power stands as at the start from the defaults, with its image places kept (R200). -/
theorem withoutPower_legal (s : State) : LegalKept s (withoutPower s) :=
  .of_start (.inr rfl) (fun _ _ h => by contradiction) rfl (.inl rfl) fun _ hm => images_of_no_save hm

theorem takeFrameSent_legal (s : State) : LegalKept s (takeFrameSent s) := by
  have next : LegalKept s (sendNext s) := LegalKept.served (t := s.setLink _) (.of_parts rfl)
  unfold takeFrameSent
  split
  · exact .refl s
  · split
    · split
      · exact startIn_legal _ s
      · exact next
    · exact next

theorem takeSaveWriteEnd_legal (verified : Bool) (s : State) : LegalKept s (takeSaveWriteEnd verified s) := by
  unfold takeSaveWriteEnd
  split
  · exact .refl s
  · rename_i f hf
    dsimp only
    split
    · exact .served (.of_images rfl rfl rfl fun m hm => .inl (images_of_saved hf hm))
    · exact .served (.of_images rfl rfl rfl fun m hm => .inl (images_of_no_save hm))

/-! ### Arrivals and expiries -/

theorem tick_legal (s : State) : LegalKept s (tick s) := by
  have reading : s.clock.tick.reading = s.clock.reading := by
    unfold Clock.tick
    split <;> rfl
  exact .of_roles (fun j => by simp [tick, Station.tick]) reading (by simp) (by simp)

theorem frameArrives_legal (f : Frame) (s : State) : LegalKept s (frameArrives f s) :=
  .served (t := s.setLink _) (.of_parts rfl)

theorem takeByte_legal (b : Byte) (stopBit : Bool) (s : State) : LegalKept s (takeByte b stopBit s) := by
  unfold takeByte
  split
  · exact .of_parts rfl
  · split
    · exact .of_parts rfl
    · split
      · exact .of_parts rfl
      · unfold assembleByte
        split
        · exact .of_parts rfl
        · exact .of_parts rfl
        · exact frameArrives_legal _ s

/-! ### Commands and steps -/

section
variable {s t : State} {c : Instr} {f : State → State}

/-- A command that a powered part takes. -/
theorem onPower_legal (e : onPower s f = .next t) (hf : LegalKept s (f s)) : LegalKept s t := by
  obtain rfl := Host.Outcome.next.inj e
  split
  · exact hf
  · exact .refl s

/-- A command that leaves all that the legality rests on. -/
theorem onPower_legal_of_parts (e : onPower s f = .next t) (hf : (f s).legalParts = s.legalParts) : LegalKept s t :=
  onPower_legal e (.of_parts hf)

theorem exec_arrival_legal (hc : c.requestKind = none) (e : exec c s = .next t) : LegalKept s t := by
  unfold exec at e
  cases c with
  | sampleWord i w =>
    refine onPower_legal e ?_
    split
    · exact .of_roles (takeSample_settingsStand i s _).role (by simp) (by simp) (by simp)
    · exact .refl s
  | signalTimerExpiry i =>
    exact onPower_legal e (.of_roles (takeSignalExpiry_settingsStand i s).role (by simp) (by simp) (by simp))
  | appendAnswer i a =>
    exact onPower_legal e (.of_roles (takeAppendAnswer_stands i (s.taken _) a).role (by simp) (by simp) (by simp))
  | tareAnswer i type took =>
    exact onPower_legal e (.of_roles (takeTareAnswer_stands i (s.taken _) type took).role (by simp) (by simp) (by simp))
  | secondAdvance => exact onPower_legal e (takeSecond_legal s)
  | frameReceived f => exact onPower_legal e (frameArrives_legal f s)
  | byteReceived b stopBit => exact onPower_legal e (takeByte_legal (dataByte b) stopBit s)
  | frameSent => exact onPower_legal e (takeFrameSent_legal s)
  | saveWriteEnd verified => exact onPower_legal e (takeSaveWriteEnd_legal verified s)
  | powerOn =>
    obtain rfl := Host.Outcome.next.inj e
    exact startIn_legal .cold s
  | powerLoss => exact onPower_legal e (withoutPower_legal s)
  | frameGapTimeout => exact onPower_legal_of_parts e (by split <;> rfl)
  | badFrame | noticeOffer | gatePulseEnd | jobRemoval | characterSent => exact onPower_legal_of_parts e rfl
  | append | tareSample | reading | leaveReport | stallTimerExpiry | sampleMark | event | stencilJobRequest
  | stencilStatus | lineAcknowledge | ackTimerExpiry | headFault | sheetRequest | chestEntryWritten
  | captureWaitTimeout | slotDiscard => exact onPower_legal_of_parts e (by simp [State.legalParts])
  | _ => contradiction

theorem exec_legal (e : exec c s = .next t) : LegalKept s t := by
  cases hk : c.requestKind with
  | none => exact exec_arrival_legal hk e
  | some k =>
    by_cases hs : k = 0x36
    · obtain ⟨tag, rfl⟩ := eq_saveSettings (hs ▸ hk)
      exact onPower_legal e (takeSaveSettings_legal tag s)
    · rw [exec_request_onPower s hk hs] at e
      exact onPower_legal e (.served (takeRequest_legal s c))

theorem step_legal (e : step s = .next t) : LegalKept s t := by
  unfold step at e
  split at e
  · rename_i c rest _
    exact LegalKept.trans (t := { s with pending := rest }) (.of_parts rfl) (exec_legal e)
  · split at e
    · exact exec_legal e
    · obtain rfl := Host.Outcome.next.inj e
      unfold idle
      split
      · exact tick_legal s
      · exact .refl s

end

/-! ### The state after reset -/

theorem reset_linkBounded : LinkBounded State.reset := ⟨by decide, by decide, by decide, by decide⟩

theorem reset_lineServed : LineServed State.reset.link := ⟨fun _ => ⟨rfl, rfl⟩, fun h => absurd rfl h⟩

/-- Every slot is FREE after reset (R190). -/
theorem reset_slotKeysDistinct : SlotKeysDistinct State.reset := by
  intro i j _ h
  simp [State.reset, Slot.key] at h

/-- No place of the settings store holds an image after reset (R199). -/
theorem reset_images : State.reset.settings.images = [] := rfl

theorem reset_classTablesOrdered : ClassTablesOrdered State.reset :=
  ⟨⟨classesInRange_iff.mpr (by decide), by decide⟩, by simp [reset_images]⟩

theorem reset_feedUnique : FeedUnique State.reset :=
  (feedUnique_iff _).mpr ⟨fun i _ h => by simp [State.reset, Station.atReset, StationSettings.default] at h,
    by simp [reset_images]⟩

theorem reset_tableSound : TableSound State.reset.invoices := by constructor <;> simp [State.reset]

theorem reset_queuesBounded : QueuesBounded State.reset :=
  ⟨fun i => by simp [State.reset], fun i => by simp [State.reset], by decide⟩

theorem reset_storeSound : StoreSound State.reset := by constructor <;> simp [State.reset]

/-- Settles O55: at reset the clock is UNSET, every slot FREE, every table empty, and the defaults stand. -/
theorem everyPromiseHoldsAtReset : Obligations.EveryPromiseHoldsAtReset := by
  unfold Obligations.EveryPromiseHoldsAtReset
  exact ⟨fun _ h => by contradiction, reset_linkBounded, reset_lineServed, reset_slotKeysDistinct, reset_classTablesOrdered,
    reset_feedUnique, .start Image.default 500 (by decide), reset_tableSound, reset_queuesBounded, reset_storeSound⟩

/-- Settles O56: each command, and each of the part's own acts, keeps the clock, the FEED role and the class tables legal. -/
theorem clockFeedAndClassesStayLegal : Obligations.ClockFeedAndClassesStayLegal := by
  unfold Obligations.ClockFeedAndClassesStayLegal
  exact ⟨fun s t hs e => (step_legal e).clock hs, fun s t e => ⟨(step_legal e).feed, (step_legal e).classes⟩⟩

end Sys2Proof.Machine
end

section
/-! PROOF. The quantized gross (R12), from the rounding of signed numbers (spec/00 3.3). -/

namespace Sys2Proof.Machine

/-- `z` is the whole number nearest to `n / m`, the one farther from zero where two are as near (spec/00 3.3). -/
def RoundsTo (n : Int) (m : Nat) (z : Int) : Prop :=
  2 * (n - m * z).natAbs ≤ m ∧ (2 * (n - m * z).natAbs = m → n.natAbs < ((m : Int) * z).natAbs)

theorem roundDiv_roundsTo (n : Int) {m : Nat} (hm : 0 < m) : RoundsTo n m (roundDiv n m) := by
  have bounds := roundNat_bounds n.natAbs hm
  have product : (m : Int) * roundDiv n m =
      if n < 0 then -((m * roundNat n.natAbs m : Nat) : Int) else ((m * roundNat n.natAbs m : Nat) : Int) := by
    unfold roundDiv
    split <;> push_cast <;> ring
  unfold RoundsTo
  rw [product]
  generalize m * roundNat n.natAbs m = k at bounds ⊢
  split <;> omega

/-- Settles O7: the quantized gross is d times the rounded quotient, which is the nearest. -/
theorem quantizedGross : Obligations.QuantizedGross := by
  unfold Obligations.QuantizedGross
  refine ⟨fun d g hd => ?_, by decide, by decide, fun g => ?_⟩
  · obtain ⟨nearest, half⟩ := roundDiv_roundsTo g hd
    exact ⟨rfl, ⟨roundDiv g d, rfl⟩, nearest, half⟩
  · obtain ⟨nearest, -⟩ := roundDiv_roundsTo g Nat.one_pos
    have exact1 : (1 : Nat) * roundDiv g 1 = quantize 1 g := rfl
    omega

end Sys2Proof.Machine
end

section
/-! PROOF. One step runs the command at the front of the queue, or what the part does of itself (log 1): an arrival in transit,
the expiry of a timer that has run out, or one millisecond (R8, R57, R109, R132, R164, R173, R187, R188). -/

namespace Sys2Proof.Machine

/-! ### Timers that have run out -/

theorem due_iff {limit : Nat} {t : Option Nat} : due limit t = true ↔ ∃ n, t = some n ∧ limit ≤ n := by
  cases t <;> simp [due]

theorem firstDue_some {n : Nat} {test : Fin n → Bool} {command : Fin n → Instr} {c : Instr}
    (h : firstDue n test command = some c) : ∃ i, test i = true ∧ c = command i := by
  obtain ⟨i, hi, rfl⟩ := Option.map_eq_some_iff.mp h
  exact ⟨i, List.find?_some hi, rfl⟩

theorem firstDue_isSome {n : Nat} {test : Fin n → Bool} (command : Fin n → Instr) {i : Fin n} (h : test i = true) :
    (firstDue n test command).isSome = true := by
  simpa [firstDue] using ⟨i, h⟩

section
variable {s : State} {c : Instr}

theorem timerOut_of_signalDue (h : signalDue s = some c) : TimerOut s c := by
  obtain ⟨i, hi, rfl⟩ := firstDue_some h
  obtain ⟨n, hn, hlimit⟩ := due_iff.mp hi
  exact .signal i n hn hlimit

theorem timerOut_of_stallDue (h : stallDue s = some c) : TimerOut s c := by
  unfold stallDue at h
  split at h
  · obtain rfl := Option.some.inj h
    obtain ⟨n, hn, hlimit⟩ := due_iff.mp ‹_›
    exact .stall n hn hlimit
  · contradiction

theorem timerOut_of_ackDue (h : ackDue s = some c) : TimerOut s c := by
  obtain ⟨i, hi, rfl⟩ := firstDue_some h
  obtain ⟨hstate, hdue⟩ := Bool.and_eq_true_iff.mp hi
  obtain ⟨n, hn, hlimit⟩ := due_iff.mp hdue
  exact .acknowledge i n (beq_iff_eq.mp hstate) hn hlimit

theorem timerOut_of_gapDue (h : gapDue s = some c) : TimerOut s c := by
  unfold gapDue at h
  split at h
  · split at h
    · obtain rfl := Option.some.inj h
      exact .gap _ _ ‹_› ‹_›
    · contradiction
  · contradiction

theorem timerOut_of_slotDue (h : slotDue s = some c) : TimerOut s c := by
  rcases Option.or_eq_some_iff.mp h with h | ⟨-, h⟩
  · obtain ⟨i, hi, rfl⟩ := firstDue_some h
    unfold waitOver at hi
    split at hi
    · obtain ⟨n, rfl, hlimit⟩ := due_iff.mp hi
      exact .wait i _ _ n ‹_› hlimit
    · contradiction
  · obtain ⟨i, hi, rfl⟩ := firstDue_some h
    unfold discardOver at hi
    split at hi
    · obtain ⟨n, hn, hlimit⟩ := due_iff.mp hi
      obtain rfl := Option.some.inj hn
      exact .discard i _ _ _ _ _ ‹_› hlimit
    · contradiction

theorem timerOut_of_gateDue (h : gateDue s = some c) : TimerOut s c := by
  obtain ⟨i, hi, rfl⟩ := firstDue_some h
  cases hp : s.actions.gates[i] with
  | none => rw [hp] at hi; contradiction
  | some p =>
    rw [hp] at hi
    exact .pulse i p hp (of_decide_eq_true hi)

theorem timerOut_of_secondDue (h : secondDue s = some c) : TimerOut s c := by
  unfold secondDue at h
  split at h
  · rename_i hdue
    obtain ⟨hset, hphase⟩ := Bool.and_eq_true_iff.mp hdue
    obtain rfl := Option.some.inj h
    exact .second (Option.isSome_iff_ne_none.mp hset) (of_decide_eq_true hphase)
  · contradiction

/-- What a timer calls for is the expiry of one that has run out. -/
theorem timerOut_of_timerDue (h : timerDue s = some c) : TimerOut s c := by
  unfold timerDue at h
  simp only [Option.or_eq_some_iff] at h
  rcases h with h | ⟨-, h | ⟨-, h | ⟨-, h | ⟨-, h | ⟨-, h | ⟨-, h⟩⟩⟩⟩⟩⟩
  · exact timerOut_of_signalDue h
  · exact timerOut_of_stallDue h
  · exact timerOut_of_ackDue h
  · exact timerOut_of_gapDue h
  · exact timerOut_of_slotDue h
  · exact timerOut_of_gateDue h
  · exact timerOut_of_secondDue h

/-- A timer that has run out calls for an expiry, its own or one before it. -/
theorem timerDue_of_timerOut (h : TimerOut s c) : (timerDue s).isSome = true := by
  simp only [timerDue, slotDue, Option.isSome_or, Bool.or_eq_true]
  cases h with
  | signal i n hn hlimit => exact .inl (firstDue_isSome _ (i := i) (due_iff.mpr ⟨n, hn, hlimit⟩))
  | stall n hn hlimit =>
    have stalls : due Config.stallLimit s.bulking.stallTimer = true := due_iff.mpr ⟨n, hn, hlimit⟩
    simp [stallDue, stalls]
  | acknowledge i n hstate hn hlimit =>
    have waits : (ackDue s).isSome = true := firstDue_isSome _ (i := i) (by
      rw [hstate]; exact due_iff.mpr ⟨n, hn, hlimit⟩)
    simp [waits]
  | gap bytes n hn hlimit =>
    have gap : (gapDue s).isSome = true := by
      have : Config.frameGapLimit < n := hlimit
      simp [gapDue, hn, this]
    simp [gap]
  | wait i station part n hn hlimit =>
    have waits := firstDue_isSome (test := fun i => waitOver s.link.slots[i]) .captureWaitTimeout (i := i) (by
      rw [hn]; exact due_iff.mpr ⟨n, rfl, hlimit⟩)
    simp only [waits]
    simp
  | discard i key part o a n hn hlimit =>
    have discards := firstDue_isSome (test := fun i => discardOver s.link.slots[i]) .slotDiscard (i := i) (by
      rw [hn]; exact due_iff.mpr ⟨n, rfl, hlimit⟩)
    simp only [discards]
    simp
  | pulse i p hp hlength =>
    have ends : (gateDue s).isSome = true := firstDue_isSome _ (i := i) (by
      rw [hp]; exact decide_eq_true hlength)
    simp [ends]
  | second hset hphase =>
    have second : (secondDue s).isSome = true := by
      have : Config.secondLength ≤ s.clock.phase := hphase
      simp [secondDue, Option.isSome_iff_ne_none.mpr hset, this]
    simp [second]

theorem timerDue_none (h : ∀ c, ¬ TimerOut s c) : timerDue s = none := by
  cases hd : timerDue s with
  | none => rfl
  | some c => exact absurd (timerOut_of_timerDue hd) (h c)

theorem Clock.tick_eq (k : Clock) : k.tick = ⟨k.reading, if k.reading = none then k.phase else k.phase + 1⟩ := by
  obtain ⟨reading, phase⟩ := k
  cases reading <;> rfl

/-! ### A step with no command waiting -/

theorem step_of_nextInternal (hq : s.pending = []) (h : nextInternal s = some c) : step s = exec c s := by
  simp [step, hq, h]

theorem step_of_idle (hq : s.pending = []) (h : nextInternal s = none) : step s = .next (idle s) := by
  simp [step, hq, h]

theorem nextInternal_unpowered (hp : s.powered = false) : nextInternal s = none := by simp [nextInternal, hp]

theorem nextInternal_transit (hp : s.powered = true) {rest : List Instr} (h : s.transit = c :: rest) :
    nextInternal s = some c := by simp [nextInternal, hp, h]

theorem nextInternal_timer (hp : s.powered = true) (h : s.transit = []) : nextInternal s = timerDue s := by
  simp [nextInternal, hp, h]

end

/-- Settles O1: the queue first, then arrivals in transit, then timers, then the millisecond. -/
theorem stepRunsTheFrontCommand : Obligations.StepRunsTheFrontCommand := by
  unfold Obligations.StepRunsTheFrontCommand
  refine ⟨fun c s => rfl, fun s hq => ⟨fun hp => ?_, fun hp => ⟨fun m rest ht => ?_, fun ht hout => ?_, fun ht hnone => ?_⟩⟩⟩
  · rw [step_of_idle hq (nextInternal_unpowered hp), idle, hp]
    rfl
  · exact step_of_nextInternal hq (nextInternal_transit hp ht)
  · obtain ⟨d, hd⟩ := hout
    obtain ⟨c, hc⟩ := Option.isSome_iff_exists.mp (timerDue_of_timerOut hd)
    exact ⟨c, timerOut_of_timerDue hc, step_of_nextInternal hq ((nextInternal_timer hp ht).trans hc)⟩
  · rw [step_of_idle hq ((nextInternal_timer hp ht).trans (timerDue_none hnone)), idle, if_pos hp]
    refine congrArg Host.Outcome.next (State.ext rfl rfl rfl rfl rfl rfl rfl rfl rfl rfl s.clock.tick_eq ?_ rfl)
    refine Link.ext rfl rfl ?_ rfl rfl rfl rfl rfl rfl rfl ?_ rfl rfl
    · show s.link.receiver.tick = _
      cases s.link.receiver <;> rfl
    · exact congrArg (Vector.map · s.link.slots) (funext fun x => by cases x <;> rfl)

end Sys2Proof.Machine
end

section
/-! PROOF. A power-on starts every block from the image the store holds (R29, R42, R68, R97, R114, R140, R162, R170, R190, R198 to
R200). -/

namespace Sys2Proof.Machine

/-! ### The place loaded (R198) -/

section
variable {v : Vector Place 2} {g h : Nat} {k l : Image}

theorem chosenPlace_none (h0 : v[0] = .invalid) (h1 : v[1] = .invalid) : chosenPlace v = none := by
  simp [chosenPlace, h0, h1]

theorem chosenPlace_first (h0 : v[0] = .valid g k) (h1 : v[1] = .invalid) : chosenPlace v = some 0 := by
  simp [chosenPlace, h0, h1]

theorem chosenPlace_second (h0 : v[0] = .invalid) (h1 : v[1] = .valid h l) : chosenPlace v = some 1 := by
  simp [chosenPlace, h0, h1]

theorem chosenPlace_both (h0 : v[0] = .valid g k) (h1 : v[1] = .valid h l) :
    chosenPlace v = if isNewer h g && !isNewer g h then some 1 else some 0 := by
  simp [chosenPlace, h0, h1]

theorem isNewer_iff (hh : h ≤ 65535) : isNewer g h = true ↔ g = h + 1 ∧ h < 65535 ∨ g = 0 ∧ h = 65535 := by
  rw [isNewer, beq_iff_eq, nextGeneration]
  split <;> omega

theorem imageOf_valid {p : Fin 2} (hp : v[p] = .valid g k) : imageOf v (some p) = k := by
  simp only [imageOf, hp]

theorem chosenPlace_isNone : (chosenPlace v).isNone = true ↔ v[0] = .invalid ∧ v[1] = .invalid := by
  cases h0 : v[0] <;> cases h1 : v[1]
  · simp [chosenPlace_none h0 h1]
  · simp [chosenPlace_second h0 h1]
  · simp [chosenPlace_first h0 h1]
  · rw [chosenPlace_both h0 h1]
    split <;> simp

end

/-! ### The start -/

/-- With no VALID place the part starts as after reset (R198, R199; log 5). -/
theorem coldStart_of_invalid {s : State} (h0 : s.settings.places[0] = .invalid) (h1 : s.settings.places[1] = .invalid) :
    coldStart s = { State.reset with pending := s.pending } := by
  have places : s.settings.places = .replicate 2 .invalid := by
    ext i hi
    interval_cases i
    · simpa using h0
    · simpa using h1
  have none : chosenPlace s.settings.places = none := chosenPlace_none h0 h1
  have stations : Image.default.stations.map Station.start = .replicate 4 Station.atReset := Vector.map_replicate
  have sets : Image.default.sets.map WrittenSet.fresh =
      .replicate 32 ⟨⟨false, .notice 0, .every, .normal, 1, false, false⟩, false, 1⟩ := Vector.map_replicate
  have image : loadedImage s.settings.places = Image.default := by
    rw [loadedImage, none]
    rfl
  have load : s.settings.load = State.reset.settings := by
    rw [Settings.load, none, places]
    rfl
  simp only [coldStart, image, load, Dispatcher.start, stations, sets]
  rfl

theorem coldStart_station (s : State) (i : Fin 4) :
    (coldStart s).stations[i] = Station.start (loadedImage s.settings.places).stations[i] := by
  simp [coldStart]

theorem Station.start_eq (p : StationSettings) : Station.start p =
    { settings := p, zt := 0, filter := [], settle := [], q := 0, lastInRange := 0, outOfRange := false
      state := match p.role with
        | .off => .off
        | .feed => .active
        | _ => .starting
      settled := false, overloadReturn := false, decision := ⟨.none, none, none, none, none, none⟩
      outstanding := none, disturbed := false, signalTimer := if p.role = .off then none else some 0 } := by
  rw [Station.start]
  cases p.role <;> rfl

/-- Settles O53: the place chosen, the blocks of its image, and the start after a power loss. -/
theorem powerOnStartsEveryBlock : Obligations.PowerOnStartsEveryBlock := by
  unfold Obligations.PowerOnStartsEveryBlock
  intro s
  refine ⟨fun h0 h1 => congrArg _ (coldStart_of_invalid h0 h1), ⟨loadedImage s.settings.places, chosenPlace s.settings.places,
    fun h0 h1 => ?_, fun g k h0 h1 => ?_, fun g k h0 h1 => ?_, fun g k h l h0 h1 hg hh => ?_,
    coldStart s, rfl, rfl, rfl, rfl, fun i => ?_, rfl, rfl, rfl, fun i => ?_, rfl, rfl, fun i => ?_, fun i => ?_, rfl, fun i => ?_,
    rfl, rfl, rfl, rfl, rfl, rfl, rfl, chosenPlace_isNone⟩, fun hp => ?_⟩
  · rw [loadedImage, chosenPlace_none h0 h1]
    exact ⟨rfl, rfl⟩
  · rw [loadedImage, chosenPlace_first h0 h1]
    exact ⟨imageOf_valid h0, rfl⟩
  · rw [loadedImage, chosenPlace_second h0 h1]
    exact ⟨imageOf_valid h1, rfl⟩
  · refine ⟨fun follows => ?_, fun other => ?_⟩
    · have second : chosenPlace s.settings.places = some 1 := by
        have newer : isNewer h g = true := (isNewer_iff hg).mpr (by omega)
        have older : ¬ isNewer g h = true := fun e => by
          have := (isNewer_iff hh).mp e
          omega
        simp [chosenPlace_both h0 h1, newer, older]
      rw [loadedImage, second]
      exact ⟨imageOf_valid h1, rfl⟩
    · have first : chosenPlace s.settings.places = some 0 := by
        have same : ¬ isNewer h g = true := fun e => by
          have := (isNewer_iff hg).mp e
          omega
        simp [chosenPlace_both h0 h1, same]
      rw [loadedImage, first]
      exact ⟨imageOf_valid h0, rfl⟩
  · exact (coldStart_station s i).trans (Station.start_eq _)
  · exact Vector.getElem_replicate _
  · exact Vector.getElem_map _ _
  · exact Vector.getElem_replicate _
  · exact Vector.getElem_replicate _
  · exact ⟨withoutPower s, onPower_powered hp _, rfl, rfl, rfl, rfl, rfl, fun i => Vector.getElem_replicate _, rfl⟩
end Sys2Proof.Machine
end

section
/-! PROOF. STATION-CAL, STATION-RESTART, STATION-ZERO and STATION-READ (R4, R6, R9, R13, R16, R28). -/

namespace Sys2Proof.Machine

/-! ### When a station may change (R4) -/

theorem bulking_active_isNone (b : Bulking) : b.active.isNone = true ↔ ∀ r ∈ b.records, r.state.isActive = false := by
  simp [Bulking.active]

theorem mayChange_iff (i : Fin 4) (s : State) : mayChange i s = true ↔ ChangeAllowed i s := by
  unfold mayChange ChangeAllowed
  rw [← bulking_active_isNone]
  cases s.stations[i].state <;> simp

section
variable {tag : Byte} {s : State} {i : Fin 4}

/-! ### STATION-CAL (R6) -/

theorem Station.remeasure_eq (st : Station) : st.remeasure =
    if st.state = .off ∨ st.state = .noSignal then { st with filter := [], settle := [] } else st.restart := by
  unfold Station.remeasure
  cases st.state <;> rfl

theorem ownStationCal_eq (z : Int) (sp : Nat) : ownStationCal i z sp s =
    if withinInt (-8388608) 8388607 z && within 1 65535 sp then
      if mayChange i s then okWith (s.setStation i (s.stations[i].calibrate z sp)) .done else .error .state
    else .error .range := by
  rw [ownStationCal, stationNumber_fin, ok_bind, require_bind, require_bind]
  rfl

end

/-- Settles O10: the range first, then the states of R4, then the station measured anew. -/
theorem calibrationSetsZeroAndSpan : Obligations.CalibrationSetsZeroAndSpan := by
  unfold Obligations.CalibrationSetsZeroAndSpan
  intro tag s i z sp hp
  have inRange : (withinInt (-8388608) 8388607 z && within 1 65535 sp) = true ↔
      -8388608 ≤ z ∧ z ≤ 8388607 ∧ 1 ≤ sp ∧ sp ≤ 65535 := by
    simp only [Bool.and_eq_true, withinInt_eq_true, within_eq_true, and_assoc]
  refine ⟨fun n hn => ?_, fun hrange => ?_, fun hrange hchange => ?_, fun hrange hchange => ?_⟩
  · exact onRequest_refused hp (bind_of_error _ (stationNumber_out_of_range n hn))
  · exact onRequest_refused hp (ownStationCal_eq z sp |>.trans (if_neg (mt inRange.mp hrange)))
  · exact onRequest_refused hp (ownStationCal_eq z sp |>.trans
      ((if_pos (inRange.mpr hrange)).trans (if_neg (mt (mayChange_iff i s).mp hchange))))
  · have taken := (ownStationCal_eq (s := s) (i := i) z sp).trans
      ((if_pos (inRange.mpr hrange)).trans (if_pos ((mayChange_iff i s).mpr hchange)))
    rw [Station.calibrate, Station.remeasure_eq] at taken
    exact onRequest_ok hp taken

section
variable {s : State} {i : Fin 4}

/-! ### STATION-RESTART, STATION-ZERO and STATION-READ (R9, R16, R28) -/

theorem ownStationRestart_eq : ownStationRestart i s =
    if s.stations[i].state = .off then .error .state else okWith (restartStation i s) .done := by
  rw [ownStationRestart, stationNumber_fin, ok_bind, require_bind]
  simp [-Fin.getElem_fin]

theorem ownStationZero_eq : ownStationZero i s =
    if ¬ (s.stations[i].state = .empty ∧ s.stations[i].settled = true) then .error .state
    else if s.stations[i].settings.zeroLimit < (s.stations[i].zt + s.stations[i].grams).natAbs then .error .range
    else okWith (s.setStation i s.stations[i].zero) (.zeroed (s.stations[i].zt + s.stations[i].grams)) := by
  have limit (a b : Int) : (if a ≤ b then okWith (s.setStation i s.stations[i].zero) (.zeroed s.stations[i].zero.zt)
      else .error .range) = if b < a then .error .range
        else okWith (s.setStation i s.stations[i].zero) (.zeroed s.stations[i].zero.zt) := by
    rw [← ite_not]
    simp only [not_le]
  rw [ownStationZero, stationNumber_fin, ok_bind]
  simp only [require_bind, Bool.and_eq_true, beq_iff_eq, decide_eq_true_eq, limit, ite_not]
  rfl

theorem ownStationRead_eq : ownStationRead i s = okWith s (.station (s.stations[i].report s.invoices.queues[i])) := by
  rw [ownStationRead, stationNumber_fin, ok_bind]

/-- In OVERLOAD the last in-range weight is reported (R13, R28). -/
theorem Station.reportedQ_eq (st : Station) : st.reportedQ = if st.state = .overload then st.lastInRange else st.q := by
  rw [Station.reportedQ]
  simp only [beq_iff_eq]

end

/-- Settles O11: the three requests of a station, each by its checks. -/
theorem stationsAreRestartedZeroedAndRead : Obligations.StationsAreRestartedZeroedAndRead := by
  unfold Obligations.StationsAreRestartedZeroedAndRead
  refine ⟨fun tag s i hp => ?_, fun tag s i hp => ?_, fun tag s i hp => ?_⟩
  · split
    · exact onRequest_refused hp (ownStationRestart_eq.trans (if_pos ‹_›))
    · exact onRequest_ok hp (ownStationRestart_eq.trans (if_neg ‹_›))
  · split
    · exact onRequest_refused hp (ownStationZero_eq.trans (if_pos ‹_›))
    · have unsettled := ownStationZero_eq.trans (if_neg ‹_›)
      split
      · exact onRequest_refused hp (unsettled.trans (if_pos ‹_›))
      · exact onRequest_ok hp (unsettled.trans (if_neg ‹_›))
  · rw [← Station.reportedQ_eq]
    exact onRequest_ok hp ownStationRead_eq

end Sys2Proof.Machine
end

section
/-! PROOF. WEIGH-CAPTURE is answered at once or through a slot (R27, R184 to R186). -/

namespace Sys2Proof.Machine

section
variable {s : State} {i k : Fin 4} {part wait : Option Nat}

/-! ### Answers that arrive for a slot (R186) -/

theorem slotBecomesReady_waiting {key : SlotKey} (h : s.link.slots[k] = .waiting key part wait) (o : SlotOutcome)
    (a : Option SlotAnswer) :
    s.slotBecomesReady k o a = (s.setSlot k (.ready key part o a 0)).notify (.slotReady k key o) := by
  rw [State.slotBecomesReady, h]

theorem slotArrival_waiting {key : SlotKey} (hd : SlotKeysDistinct s) (h : s.link.slots[k] = .waiting key part wait)
    (o : SlotOutcome) (a : Option SlotAnswer) :
    s.slotArrival key o a = (s.setSlot k (.ready key part o a 0)).notify (.slotReady k key o) := by
  rw [State.slotArrival, Link.findSlot_of_key hd (by rw [h]; rfl)]
  exact slotBecomesReady_waiting h o a

theorem slotArrival_none {key : SlotKey} (h : ∀ (k : Fin 4) (part wait : Option Nat), s.link.slots[k] ≠ .waiting key part wait)
    (o : SlotOutcome) (a : Option SlotAnswer) : s.slotArrival key o a = s := by
  unfold State.slotArrival
  split
  · rename_i j hj
    have held : s.link.slots[j].key = some key := by simpa using List.find?_some hj
    unfold State.slotBecomesReady
    split
    · rename_i key' part wait hslot
      rw [hslot] at held
      obtain rfl : key' = key := Option.some.inj held
      exact absurd hslot (h j part wait)
    · rfl
  · rfl

/-! ### The slot of the station, and the station (R27, R184, R185) -/

theorem ownWeighCapture_of_slot (hd : SlotKeysDistinct s) (hk : s.link.slots[k].key = some (.capture i)) :
    ownWeighCapture i s = answerFromSlot s k := by
  rw [ownWeighCapture, stationNumber_fin, ok_bind, Link.findSlot_of_key hd hk]

theorem ownWeighCapture_waiting (hd : SlotKeysDistinct s) (h : s.link.slots[k] = .waiting (.capture i) part wait) :
    ownWeighCapture i s = .ok (s, .pending k) := by
  rw [ownWeighCapture_of_slot hd (by rw [h]; rfl), answerFromSlot, h]

theorem ownWeighCapture_ready (hd : SlotKeysDistinct s) {o : SlotOutcome} {a : Option SlotAnswer} {disc : Nat}
    (h : s.link.slots[k] = .ready (.capture i) part o a disc) :
    ownWeighCapture i s = okWith (s.setSlot k .free) (.delivered (some k) (.capture i) o a) := by
  rw [ownWeighCapture_of_slot hd (by rw [h]; rfl), answerFromSlot, h]

theorem ownCapture_silent (h : s.stations[i].state = .off ∨ s.stations[i].state = .noSignal) :
    ownCapture i s = .error .state := by
  rcases h with h | h <;> simp only [ownCapture, h]

theorem ownCapture_weighing (hoff : s.stations[i].state ≠ .off) (hsignal : s.stations[i].state ≠ .noSignal) :
    ownCapture i s = if s.stations[i].settled then okWith s (.delivered none (.capture i) .answer
        (some (.capture i s.stations[i].state s.stations[i].q s.stations[i].zt)))
      else askSlot s (.capture i) none := by
  unfold ownCapture
  dsimp only
  split
  · contradiction
  · contradiction
  · rfl

end

/-- Settles O12: the slot of the station answers first, then the station, at once or through the lowest FREE slot. -/
theorem captureIsAnsweredOrKeepsASlot : Obligations.CaptureIsAnsweredOrKeepsASlot := by
  unfold Obligations.CaptureIsAnsweredOrKeepsASlot
  refine ⟨fun s key o a => ⟨fun h => slotArrival_none h o a, fun k part wait hd h => slotArrival_waiting hd h o a⟩,
    fun tag s i hp => ⟨fun k part wait h hd => onRequest_ok hp (ownWeighCapture_waiting hd h),
      fun k part o a disc h hd => onRequest_ok hp (ownWeighCapture_ready hd h), fun hnone => ?_⟩⟩
  have reaches : ownWeighCapture i s = ownCapture i s := by
    rw [ownWeighCapture, stationNumber_fin, ok_bind, Link.findSlot_eq_none hnone]
  refine ⟨fun h => onRequest_refused hp (reaches.trans (ownCapture_silent h)), fun hoff hsignal hsettled => ?_,
    fun hoff hsignal hsettled => ?_⟩
  · exact onRequest_ok hp (reaches.trans ((ownCapture_weighing hoff hsignal).trans (if_pos hsettled)))
  · have asks := reaches.trans ((ownCapture_weighing hoff hsignal).trans (if_neg (by simp [hsettled, -Fin.getElem_fin])))
    refine ⟨fun k hfree hlow => onRequest_ok hp (asks.trans ?_), fun hbusy => onRequest_refused hp (asks.trans ?_)⟩
    · rw [askSlot, Link.freeSlot_lowest hfree hlow]
    · rw [askSlot, Link.freeSlot_none hbusy]

end Sys2Proof.Machine
end

section
/-! SUPPORT. STATION-CONFIG (R3 to R5): the settings it carries, when it is refused, and the station that takes its new settings,
Zt within the new limit. -/

namespace Sys2Proof.Machine

/-! ### The settings carried (R3) -/

@[simp] theorem roleOf_ctorIdx (r : Role) : roleOf r.ctorIdx = .ok r := by cases r <;> rfl

/-- The settings `p` with the calibration of others: STATION-CONFIG keeps the zero count and the span (R3). -/
def StationSettings.calibratedAs (p old : StationSettings) : StationSettings :=
  { p with zeroCount := old.zeroCount, span := old.span }

theorem configured_configOf (i : Fin 4) {p : StationSettings} (old : StationSettings) (h : p.inRange = true) :
    configured (configOf i p) old = .ok (p.calibratedAs old) := by
  rw [configured, configOf, roleOf_ctorIdx, ok_bind, require_bind]
  refine (if_pos h).trans ?_
  rw [index_fin, ok_bind, flag_flagCode, ok_bind, index_fin, ok_bind]
  rfl

theorem measuringDiffers_iff (a b : StationSettings) : measuringDiffers a b = true ↔
    a.w ≠ b.w ∨ a.m ≠ b.m ∨ a.b ≠ b.b ∨ a.d ≠ b.d ∨ a.c ≠ b.c ∨ a.l ≠ b.l ∨ a.tareTarget ≠ b.tareTarget := by
  rw [measuringDiffers, bne_iff_ne]
  simp only [ne_eq, Prod.mk.injEq]
  tauto

/-! ### When it is refused (R3, R4) -/

section
variable {s : State} {i : Fin 4} {p : StationSettings}

theorem queueHoldsRole_iff : queueHoldsRole i s = true ↔
    s.stations[i].settings.role = .chest ∧ s.invoices.queues[i] ≠ [] := by
  simp [queueHoldsRole, -Fin.getElem_fin]

theorem otherFeeds_iff : otherFeeds i s = true ↔ ∃ j, j ≠ i ∧ s.stations[j].settings.role = .feed := by
  simp [otherFeeds, -Fin.getElem_fin]

/-- A check that refuses when a test holds. -/
theorem require_not_bind {b : Bool} {β : Type} (r : Reason) (f : Unit → Except Reason β) :
    (require ((!b) = true) r >>= f) = if b = true then .error r else f () := by
  cases b <;> rfl

/-- The checks in their order: the states of R4, then the FEED role (log 13). -/
theorem ownStationConfig_eq (h : p.inRange = true) : ownStationConfig (configOf i p) s =
    if s.stations[i].settings.role ≠ p.role ∧ (¬ mayChange i s = true ∨ queueHoldsRole i s = true) then .error .state
    else if measuringDiffers s.stations[i].settings p = true ∧ ¬ mayChange i s = true then .error .state
    else if s.stations[i].settings.role ≠ p.role ∧ p.role = .feed ∧ otherFeeds i s = true then .error .conflict
    else okWith (applyConfig i (p.calibratedAs s.stations[i].settings) s) .done := by
  have measuring : measuringDiffers s.stations[i].settings (p.calibratedAs s.stations[i].settings) =
      measuringDiffers s.stations[i].settings p := rfl
  have role : (p.calibratedAs s.stations[i].settings).role = p.role := rfl
  have station : stationNumber (configOf i p).station = .ok i := stationNumber_fin i
  rw [ownStationConfig, station, ok_bind]
  dsimp only
  rw [configured_configOf i _ h, ok_bind]
  rw [require_not_bind, require_not_bind, require_not_bind]
  simp only [measuring, role, Bool.and_eq_true, Bool.or_eq_true, Bool.not_eq_true', bne_iff_ne, beq_iff_eq,
    Bool.not_eq_true, and_assoc]

end

/-! ### The new settings in place (R5) -/

/-- The station with its new settings; after a change of measuring settings Zt is within the new limit (R5; log 14). -/
def Station.reconfigured (st : Station) (p : StationSettings) : Station :=
  { st with settings := p
            zt := if measuringDiffers st.settings p = true ∧ p.zeroLimit < st.zt.natAbs then clampAbs p.zeroLimit st.zt
              else st.zt }

/-- ZERO-LIMIT is offered for a Zt that lay beyond the new limit (R5). -/
def Station.limitOffers (st : Station) (i : Fin 4) (p : StationSettings) : List Instr :=
  if measuringDiffers st.settings p = true ∧ p.zeroLimit < st.zt.natAbs then [.noticeOffer (.zeroLimit i st.zt)] else []

/-- The part with the new settings in place. -/
def reconfigure (i : Fin 4) (p : StationSettings) (s : State) : State :=
  (s.sendAll (s.stations[i].limitOffers i p)).setStation i (s.stations[i].reconfigured p)

theorem reconfigure_standing {i : Fin 4} {p : StationSettings} {s : State}
    (h : ¬ measuringDiffers s.stations[i].settings p = true) :
    reconfigure i p s = s.setStation i { s.stations[i] with settings := p } := by
  simp [reconfigure, Station.limitOffers, Station.reconfigured, h, State.sendAll, -Fin.getElem_fin]

theorem reconfigure_measuring {i : Fin 4} {p : StationSettings} {s : State}
    (h : measuringDiffers s.stations[i].settings p = true) :
    reconfigure i p s = limitZero i (s.setStation i { s.stations[i] with settings := p }) := by
  rw [limitZero_frame, setStation_get]
  simp [reconfigure, Station.limitOffers, Station.reconfigured, h, State.sendAll, State.setStation, -Fin.getElem_fin]

theorem applyConfig_eq (i : Fin 4) (p : StationSettings) (s : State) : applyConfig i p s =
    if s.stations[i].settings.role ≠ p.role then changeRole i s.stations[i].settings.role p.role (reconfigure i p s)
    else if measuringDiffers s.stations[i].settings p = true then (reconfigure i p s).modifyStation i Station.remeasure
    else s.setStation i { s.stations[i] with settings := p } := by
  unfold applyConfig
  dsimp only [State.modifyStation]
  by_cases measuring : measuringDiffers s.stations[i].settings p = true
  · simp only [measuring, if_true, bne_iff_ne, reconfigure_measuring measuring]
  · simp only [measuring, if_false, bne_iff_ne, reconfigure_standing measuring, Bool.false_eq_true]

end Sys2Proof.Machine
end

section
/-! PROOF. STATION-CONFIG with the same role, and with a new one (R3 to R5, R9, R27, R186). -/

namespace Sys2Proof.Machine

/-! ### The zero limit (R5) -/

theorem zeroLimit_bounds (p : StationSettings) :
    100 * p.zeroLimit ≤ 4 * p.c ∧ (4 * p.c : Int) < 100 * (p.zeroLimit + 1) := by
  unfold StationSettings.zeroLimit
  omega

/-- A value beyond the limit takes the limit with the sign it had. -/
theorem clampAbs_beyond {limit z : Int} (h : limit < z.natAbs) (hl : 0 ≤ limit) :
    clampAbs limit z = if 0 < z then limit else -limit := by
  unfold clampAbs
  split_ifs <;> omega

theorem zeroLimit_nonneg (p : StationSettings) : 0 ≤ p.zeroLimit := Int.natCast_nonneg _

/-! ### The station measured anew, or restarted (R5, R9) -/

section
variable {s : State} {i : Fin 4} {p : StationSettings}

theorem ownStationConfig_kept (h : p.inRange = true) (hrole : p.role = s.stations[i].settings.role) :
    ownStationConfig (configOf i p) s =
      if measuringDiffers s.stations[i].settings p = true ∧ ¬ mayChange i s = true then .error .state
      else okWith (applyConfig i (p.calibratedAs s.stations[i].settings) s) .done := by
  rw [ownStationConfig_eq h, if_neg (by simp [hrole]), if_neg (c := _ ∧ p.role = .feed ∧ _) (by simp [hrole])]

theorem applyConfig_kept (hrole : p.role = s.stations[i].settings.role) : applyConfig i p s =
    if measuringDiffers s.stations[i].settings p = true then (reconfigure i p s).modifyStation i Station.remeasure
    else s.setStation i { s.stations[i] with settings := p } := by
  rw [applyConfig_eq, if_neg (not_not.mpr hrole.symm)]

theorem ownStationConfig_standing (h : p.inRange = true) (hrole : p.role = s.stations[i].settings.role)
    (hm : ¬ measuringDiffers s.stations[i].settings p = true) : ownStationConfig (configOf i p) s =
      okWith (s.setStation i { s.stations[i] with settings := p.calibratedAs s.stations[i].settings }) .done := by
  rw [ownStationConfig_kept h hrole, if_neg fun e => hm e.1, applyConfig_kept (p := p.calibratedAs s.stations[i].settings) hrole]
  exact congrArg (okWith · .done) (if_neg hm)

theorem ownStationConfig_measuring (h : p.inRange = true) (hrole : p.role = s.stations[i].settings.role)
    (hm : measuringDiffers s.stations[i].settings p = true) (may : mayChange i s = true) :
    ownStationConfig (configOf i p) s = okWith
      ((reconfigure i (p.calibratedAs s.stations[i].settings) s).modifyStation i Station.remeasure) .done := by
  rw [ownStationConfig_kept h hrole, if_neg fun e => e.2 may, applyConfig_kept (p := p.calibratedAs s.stations[i].settings) hrole]
  exact congrArg (okWith · .done) (if_pos hm)

/-- What a change of measuring settings or a calibration leaves of a station, and its empty histories (R5, R6). -/
theorem Station.remeasure_keeps (st : Station) : st.remeasure.settings = st.settings ∧ st.remeasure.zt = st.zt ∧
    st.remeasure.filter = [] ∧ st.remeasure.settle = [] ∧ st.remeasure.outstanding = st.outstanding ∧
    st.remeasure.signalTimer = st.signalTimer := by
  rw [Station.remeasure_eq]
  split <;> exact ⟨rfl, rfl, rfl, rfl, rfl, rfl⟩

/-- A station in OFF or NOSIGNAL stays so, with its decision record (R5). -/
theorem Station.remeasure_silent {st : Station} (h : st.state = .off ∨ st.state = .noSignal) :
    st.remeasure.state = st.state ∧ st.remeasure.decision = st.decision := by
  rw [Station.remeasure_eq, if_pos h]
  exact ⟨rfl, rfl⟩

/-- Any other station is restarted (R5, R9). -/
theorem Station.remeasure_restarts {st : Station} (h : st.state = .empty ∨ st.state = .active) :
    st.remeasure.state = reentry st.settings.role ∧ st.remeasure.decision = .blank ∧ st.remeasure.settled = false := by
  rw [Station.remeasure_eq, if_neg (by rcases h with h | h <;> simp [h])]
  exact ⟨rfl, rfl, rfl⟩

end

/-- Settles O8: the standing settings alone, and a change of measuring settings as R4 takes it. -/
theorem changesWithoutANewRole : Obligations.ChangesWithoutANewRole := by
  unfold Obligations.ChangesWithoutANewRole
  refine ⟨⟨measuringDiffers_iff, fun p z => ?_⟩, fun tag s i cls auto hp hrange => ?_,
    fun tag s i p hp hrange hrole hdiffers => ⟨fun hchange => ?_, fun hchange => ?_⟩⟩
  · obtain ⟨lower, upper⟩ := zeroLimit_bounds p
    exact ⟨lower, upper, fun h => clampAbs_beyond h (zeroLimit_nonneg p)⟩
  · have standing : ¬ measuringDiffers s.stations[i].settings
        { s.stations[i].settings with cls := cls, autoRestart := auto } = true := by
      simp [measuringDiffers]
    exact onRequest_ok hp (ownStationConfig_standing hrange rfl standing)
  · refine onRequest_refused hp ((ownStationConfig_kept hrange hrole).trans (if_pos ⟨hdiffers, ?_⟩))
    rwa [mayChange_iff]
  · have may := (mayChange_iff i s).mpr hchange
    let st := s.stations[i].reconfigured (p.calibratedAs s.stations[i].settings)
    let t := (reconfigure i (p.calibratedAs s.stations[i].settings) s).modifyStation i Station.remeasure
    have taken : exec (.stationConfig tag (configOf i p)) s = .next (t.reply tag 0x01 (.ok .done)) :=
      onRequest_ok hp (ownStationConfig_measuring hrange hrole hdiffers may)
    have station : t.stations[i] = st.remeasure := by
      show (State.setStation _ i _).stations[i] = _
      rw [setStation_get, reconfigure, setStation_get]
    have others (j : Fin 4) (hj : j ≠ i) : t.stations[j] = s.stations[j] := by
      show (State.setStation _ i _).stations[j] = _
      rw [setStation_get_other _ i _ hj, reconfigure, setStation_get_other _ i _ hj]
      rfl
    obtain ⟨hsettings, hzt, hfilter, hsettle, houtstanding, htimer⟩ := st.remeasure_keeps
    refine ⟨t, taken, ?_⟩
    rw [station]
    refine ⟨hsettings, fun h => ⟨hzt.trans (if_pos ⟨hdiffers, h⟩), congrArg (s.transit ++ ·) (if_pos ⟨hdiffers, h⟩)⟩,
      fun h => ?_, hfilter, hsettle, fun h => Station.remeasure_silent h, fun h => ?_, houtstanding, htimer, others, rfl, rfl⟩
    · have within : ¬ (measuringDiffers s.stations[i].settings p = true ∧ p.zeroLimit < s.stations[i].zt.natAbs) :=
        fun e => absurd e.2 (not_lt.mpr h)
      exact ⟨hzt.trans (if_neg within), (congrArg (s.transit ++ ·) (if_neg within)).trans (List.append_nil _)⟩
    · exact Station.remeasure_restarts h

/-! ### A new role (R4) -/

section
variable {s : State} {i : Fin 4} {p : StationSettings}

/-- The station a role change leaves: set OFF, or restarted with its signal timer at zero (R4, R9). -/
def Station.takeRole (st : Station) (new : Role) : Station :=
  if new = .off then st.switchOff else { st.restart with signalTimer := some 0 }

/-- What a role change leaves of a station, and what it empties (R4, R9). -/
theorem Station.takeRole_keeps (st : Station) (new : Role) :
    (st.takeRole new).settings = st.settings ∧ (st.takeRole new).zt = st.zt ∧
      (st.takeRole new).outstanding = st.outstanding ∧ (st.takeRole new).filter = [] ∧
      (st.takeRole new).settle = [] ∧ (st.takeRole new).settled = false ∧ (st.takeRole new).outOfRange = false := by
  unfold Station.takeRole
  split <;> exact ⟨rfl, rfl, rfl, rfl, rfl, rfl, rfl⟩

theorem Station.takeRole_state (st : Station) : (st.takeRole st.settings.role).state = reentry st.settings.role := by
  unfold Station.takeRole
  split
  · next off => rw [off]; rfl
  · rfl

theorem Station.takeRole_off {st : Station} {new : Role} (h : new = .off) :
    (st.takeRole new).signalTimer = none ∧ (st.takeRole new).decision = st.decision := by
  rw [Station.takeRole, if_pos h]
  exact ⟨rfl, rfl⟩

theorem Station.takeRole_restarts {st : Station} {new : Role} (h : new ≠ .off) :
    (st.takeRole new).signalTimer = some 0 ∧ (st.takeRole new).decision = .blank ∧
      (st.takeRole new).disturbed = false := by
  rw [Station.takeRole, if_neg h]
  exact ⟨rfl, rfl, rfl⟩

theorem changeRole_eq (old new : Role) : changeRole i old new s = reportLeft old
    (if new = .off then captureGone i (s.setStation i (s.stations[i].takeRole new))
      else s.setStation i (s.stations[i].takeRole new)) := by
  unfold changeRole Station.takeRole State.modifyStation
  dsimp only
  simp only [beq_iff_eq]
  split <;> rfl

/-- A role change writes its station, what is sent and the slot of a capture, and nothing else. -/
theorem changeRole_frame (old new : Role) : changeRole i old new s = { s with
    stations := s.stations.set i (s.stations[i].takeRole new)
    transit := (changeRole i old new s).transit, link := (changeRole i old new s).link } := by
  have stations : (changeRole i old new s).stations = s.stations.set i (s.stations[i].takeRole new) := by
    rw [changeRole_eq]
    split <;> simp [State.setStation]
  apply State.ext <;> simp [stations, -Fin.getElem_fin]

theorem changeRole_reports (new : Role) : .leaveReport ∈ (changeRole i .feed new s).transit := by
  rw [changeRole_eq]
  exact List.mem_append_right _ (List.mem_singleton_self _)

theorem changeRole_link_of_role {old new : Role} (h : new ≠ .off) : (changeRole i old new s).link = s.link := by
  rw [changeRole_eq, if_neg h]
  simp

theorem changeRole_link_of_no_capture {old new : Role}
    (h : ∀ (k : Fin 4) (part wait : Option Nat), s.link.slots[k] ≠ .waiting (.capture i) part wait) :
    (changeRole i old new s).link = s.link := by
  have gone (x : Station) : captureGone i (s.setStation i x) = s.setStation i x :=
    slotArrival_none (s := s.setStation i x) h .gone none
  rw [changeRole_eq, gone, ite_self]
  simp

/-- A station set OFF ends its waiting capture with GONE (R27, R186). -/
theorem changeRole_off_of_capture {old : Role} {k : Fin 4} {part wait : Option Nat} (hd : SlotKeysDistinct s)
    (h : s.link.slots[k] = .waiting (.capture i) part wait) :
    (changeRole i old .off s).link =
        { s.link with slots := s.link.slots.set k (.ready (.capture i) part .gone none 0) } ∧
      .noticeOffer (.slotReady k (.capture i) .gone) ∈ (changeRole i old .off s).transit := by
  have gone : captureGone i (s.setStation i (s.stations[i].takeRole .off)) =
      ((s.setStation i (s.stations[i].takeRole .off)).setSlot k (.ready (.capture i) part .gone none 0)).notify
        (.slotReady k (.capture i) .gone) :=
    slotArrival_waiting (s := s.setStation i (s.stations[i].takeRole .off)) hd h .gone none
  rw [changeRole_eq, if_pos rfl, gone]
  refine ⟨by rw [(reportLeft_keeps _ _).2.2.2.2.2.2.2.2.2.2.1]; rfl, ?_⟩
  unfold reportLeft
  split <;> simp

/-! ### The request -/

theorem ownStationConfig_role_refused (h : p.inRange = true) (hrole : p.role ≠ s.stations[i].settings.role)
    (may : ¬ mayChange i s = true ∨ queueHoldsRole i s = true) :
    ownStationConfig (configOf i p) s = .error .state := by
  rw [ownStationConfig_eq h, if_pos ⟨hrole.symm, may⟩]

theorem ownStationConfig_role (h : p.inRange = true) (hrole : p.role ≠ s.stations[i].settings.role)
    (may : mayChange i s = true) (queue : ¬ queueHoldsRole i s = true) :
    ownStationConfig (configOf i p) s =
      if p.role = .feed ∧ otherFeeds i s = true then .error .conflict
      else okWith (changeRole i s.stations[i].settings.role p.role
        (reconfigure i (p.calibratedAs s.stations[i].settings) s)) .done := by
  have taken : applyConfig i (p.calibratedAs s.stations[i].settings) s = changeRole i s.stations[i].settings.role p.role
      (reconfigure i (p.calibratedAs s.stations[i].settings) s) := (applyConfig_eq i _ s).trans (if_pos hrole.symm)
  rw [ownStationConfig_eq h, if_neg (by simp [may, queue]), if_neg (by simp [may]), taken]
  simp only [ne_eq, hrole.symm, not_false_eq_true, true_and]

/-- The part a role change with new settings leaves. -/
theorem roleChanged_frame (old : Role) : changeRole i old p.role (reconfigure i p s) = { s with
    stations := s.stations.set i ((s.stations[i].reconfigured p).takeRole p.role)
    transit := (changeRole i old p.role (reconfigure i p s)).transit
    link := (changeRole i old p.role (reconfigure i p s)).link } := by
  have station : (reconfigure i p s).stations[i] = s.stations[i].reconfigured p := setStation_get _ i _
  have stations : (reconfigure i p s).stations = s.stations.set i (s.stations[i].reconfigured p) := rfl
  refine (changeRole_frame old p.role).trans ?_
  rw [station, stations, Vector.set_set]
  rfl

end

/-- Settles O9: the refusals of R4 in their order, and the role change taken. -/
theorem roleChange : Obligations.RoleChange := by
  unfold Obligations.RoleChange
  intro tag s i p hp hrange hrole
  refine ⟨fun refused => ?_, fun may noQueue => ?_⟩
  · refine onRequest_refused hp (ownStationConfig_role_refused hrange hrole ?_)
    rwa [mayChange_iff, queueHoldsRole_iff]
  · rw [← mayChange_iff] at may
    have queue : ¬ queueHoldsRole i s = true := fun h =>
      (queueHoldsRole_iff.mp h).2 (noQueue (queueHoldsRole_iff.mp h).1)
    have request := ownStationConfig_role hrange hrole may queue
    refine ⟨fun feeds => onRequest_refused hp (request.trans (if_pos ?_)), fun alone => ?_⟩
    · rwa [otherFeeds_iff]
    let p' := p.calibratedAs s.stations[i].settings
    let st := s.stations[i].reconfigured p'
    let t := changeRole i s.stations[i].settings.role p'.role (reconfigure i p' s)
    have noOther : ¬ (p.role = .feed ∧ otherFeeds i s = true) := fun ⟨feeds, other⟩ => by
      obtain ⟨j, hj, hfeed⟩ := otherFeeds_iff.mp other
      exact alone feeds j hj hfeed
    have taken : exec (.stationConfig tag (configOf i p)) s = .next (t.reply tag 0x01 (.ok .done)) :=
      onRequest_ok hp (request.trans (if_neg noOther))
    have frame : t = { s with stations := s.stations.set i (st.takeRole p.role), transit := t.transit, link := t.link } :=
      roleChanged_frame (p := p') _
    have stations : t.stations = s.stations.set i (st.takeRole p.role) := congrArg State.stations frame
    have station : t.stations[i] = st.takeRole p.role := by rw [stations]; simp
    have others (j : Fin 4) (hj : j ≠ i) : t.stations[j] = s.stations[j] := by
      rw [stations]
      exact Vector.getElem_set_ne _ _ (fun e => hj (Fin.ext e.symm))
    obtain ⟨hsettings, hzt, houtstanding, hfilter, hsettle, hsettled, hrangeFlag⟩ := st.takeRole_keeps p.role
    refine ⟨t, taken, ?_⟩
    rw [station]
    refine ⟨hsettings, hzt, houtstanding, hfilter, hsettle, hsettled, hrangeFlag, st.takeRole_state,
      Station.takeRole_off, Station.takeRole_restarts, fun feeds => ?_, others, ?_, fun off => ?_, fun none => ?_,
      fun k part wait distinct off waits => ?_⟩
    · show _ ∈ (changeRole i s.stations[i].settings.role p'.role _).transit
      rw [feeds]
      exact changeRole_reports _
    · rw [stations]
      exact frame
    · exact changeRole_link_of_role (s := reconfigure i p' s) off
    · exact changeRole_link_of_no_capture (s := reconfigure i p' s) none
    · show (changeRole i _ p'.role _).link = _ ∧ _ ∈ (changeRole i _ p'.role _).transit
      rw [show p'.role = .off from off]
      exact changeRole_off_of_capture (s := reconfigure i p' s) distinct waits

end Sys2Proof.Machine
end

section
/-! SUPPORT. A sample word at a station (R7 to R13): when it is weighed, and what a weight in or out of the measuring range does. -/

namespace Sys2Proof.Machine

section
variable {s : State} {i : Fin 4} {w : SampleWord} {x : Int}

/-! ### The word (R7) -/

theorem exec_sampleWord_valid (hp : s.powered = true) (hv : sampleValid w = true) :
    exec (.sampleWord i w) s = .next (takeSample i w.count.toInt s) :=
  (onPower_powered hp _).trans (congrArg Host.Outcome.next (if_pos hv))

theorem exec_sampleWord_invalid (hp : s.powered = true) (hv : sampleValid w = false) : exec (.sampleWord i w) s = .next s :=
  (onPower_powered hp _).trans (congrArg Host.Outcome.next (if_neg (by simp [hv])))

theorem takeSample_off (h : s.stations[i].state = .off) : takeSample i x s = s := by
  rw [takeSample, h]

theorem takeSample_noSignal (h : s.stations[i].state = .noSignal) :
    takeSample i x s = if s.stations[i].settings.autoRestart then weigh i x (restartStation i s) else s := by
  rw [takeSample, h]

theorem takeSample_weighs (hoff : s.stations[i].state ≠ .off) (hsilent : s.stations[i].state ≠ .noSignal) :
    takeSample i x s = weigh i x s := by
  unfold takeSample
  dsimp only
  split
  · next off => exact absurd off hoff
  · next silent => exact absurd silent hsilent
  · rfl

theorem exec_sampleWord_weighs (hp : s.powered = true) (hv : sampleValid w = true) (hoff : s.stations[i].state ≠ .off)
    (hsilent : s.stations[i].state ≠ .noSignal) : exec (.sampleWord i w) s = .next (weigh i w.count.toInt s) := by
  rw [exec_sampleWord_valid hp hv, takeSample_weighs hoff hsilent]

/-! ### The weight (R13) -/

/-- The station with a sample whose weight is in range (R13). -/
def Station.sampleInRange (st : Station) (x : Int) : Station := { st.sample x with lastInRange := (st.sample x).q }

theorem weigh_outOfRange (h : s.stations[i].settings.outOfRange (s.stations[i].sample x).q = true) : weigh i x s =
    if s.stations[i].state = .overload then s.setStation i (s.stations[i].sample x)
    else enterOverload i (s.setStation i (s.stations[i].sample x)) := by
  refine (if_pos h).trans ?_
  simp only [beq_iff_eq]
  rfl

theorem weigh_inRange (h : s.stations[i].settings.outOfRange (s.stations[i].sample x).q = false) : weigh i x s =
    if s.stations[i].state = .overload then leaveOverload i (s.setStation i (s.stations[i].sampleInRange x))
    else inRange i (s.setStation i (s.stations[i].sampleInRange x)) := by
  refine (if_neg (Bool.eq_false_iff.mp h)).trans ?_
  simp only [beq_iff_eq]
  rfl

/-- The two ends of the measuring range (R13). -/
theorem outOfRange_iff (p : StationSettings) (q : Int) : p.outOfRange q = true ↔
    (p.c : Int) + 9 * p.d < q ∨ q < -(20 * (p.d : Int)) := decide_eq_true_iff

theorem outOfRange_eq_false_iff (p : StationSettings) (q : Int) : p.outOfRange q = false ↔
    q ≤ (p.c : Int) + 9 * p.d ∧ -(20 * (p.d : Int)) ≤ q := by
  rw [StationSettings.outOfRange, decide_eq_false_iff_not, not_or, not_lt, not_lt]

/-! ### OVERLOAD (R13, R19, R26) -/

theorem enterOverload_setStation (st : Station) : enterOverload i (s.setStation i st) =
    { s with
      stations := s.stations.set i { st with
        outOfRange := true, settled := false, settle := [], disturbed := false
        overloadReturn := st.state == .starting, state := .overload }
      transit := s.transit ++ [.event 18 ⟨some i, none, none⟩, .noticeOffer (.stationOverload i st.q)] ++
        (if st.settings.role = .feed then [.leaveReport] else []) } := by
  unfold enterOverload reportLeft
  dsimp only
  rw [setStation_get, setStation_setStation]
  simp only [beq_iff_eq]
  split <;> simp [State.setStation, State.raise, State.notify, State.send]

theorem leaveOverload_setStation (st : Station) : leaveOverload i (s.setStation i st) =
    { s with
      stations := s.stations.set i { st with
        outOfRange := false, settle := [st.q], settled := false, overloadReturn := false, disturbed := false
        state := if st.settings.role = .feed then .active else if st.overloadReturn = true then .starting
          else if st.q < st.settings.l then .empty else .loaded }
      transit := s.transit ++ (if st.settings.role = .feed then [.reading i st.q false st.settings.d] else []) } := by
  unfold leaveOverload Station.afterOverload
  dsimp only
  rw [setStation_get, setStation_setStation]
  simp only [beq_iff_eq]
  split <;> simp [State.setStation, State.send]

end

end Sys2Proof.Machine
end

section
/-! PROOF. A sample word joins the filter history (R7, R9 to R12). -/

namespace Sys2Proof.Machine

/-! ### Parity (R7) -/

/-- An exclusive or over a list counts the members that hold, modulo 2. -/
theorem foldl_xor_eq_true_iff {α : Type} (f : α → Bool) (l : List α) (p : Bool) :
    l.foldl (fun acc k => acc ^^ f k) p = true ↔ ((l.filter f).length + if p = true then 1 else 0) % 2 = 1 := by
  induction l generalizing p with
  | nil => cases p <;> simp
  | cons k l ih =>
    rw [List.foldl_cons, ih, List.filter_cons]
    cases f k <;> cases p <;> simp
    omega

/-- The number of ones of a byte of a sample word and its parity bit (R7). -/
def byteOnes (count : BitVec 24) (byte : Nat) (parity : Bool) : Nat :=
  ((List.range 8).filter fun k => count.getLsbD (8 * byte + k)).length + if parity = true then 1 else 0

theorem oddParity_iff (count : BitVec 24) (byte : Nat) (p : Bool) :
    oddParity (count.extractLsb' (8 * byte) 8) p = true ↔ byteOnes count byte p % 2 = 1 := by
  have bits : (List.range 8).filter (count.extractLsb' (8 * byte) 8).getLsbD =
      (List.range 8).filter fun k => count.getLsbD (8 * byte + k) :=
    List.filter_congr fun k hk => by simp [List.mem_range.mp hk]
  rw [oddParity, foldl_xor_eq_true_iff, bits]
  rfl

theorem sampleValid_iff (w : SampleWord) : sampleValid w = true ↔ byteOnes w.count 0 w.parityLow % 2 = 1 ∧
    byteOnes w.count 1 w.parityMid % 2 = 1 ∧ byteOnes w.count 2 w.parityHigh % 2 = 1 := by
  rw [sampleValid, Bool.and_eq_true, Bool.and_eq_true, and_assoc]
  exact and_congr (oddParity_iff w.count 0 _) (and_congr (oddParity_iff w.count 1 _) (oddParity_iff w.count 2 _))

section
variable {s : State} {i : Fin 4} {x : Int}

/-! ### The weight of a history (R10, R11) -/

theorem Station.grams_roundsTo {st : Station} (h : st.filter ≠ []) :
    RoundsTo st.filter.sum st.filter.length st.filtered ∧
      RoundsTo ((st.filtered - st.settings.zeroCount) * st.settings.span) 65536 (st.grams + st.zt) := by
  refine ⟨roundDiv_roundsTo _ (List.length_pos_iff.mpr h), ?_⟩
  rw [Station.grams, sub_add_cancel]
  exact roundDiv_roundsTo _ (by decide)

/-! ### The station after the word (R7, R9, R10) -/

/-- A sample weighed joins the filter history of its station and restarts the signal timer. -/
theorem weigh_joins (i : Fin 4) (x : Int) (s : State) :
    (weigh i x s).stations[i].filter = pushNewest s.stations[i].settings.w s.stations[i].filter x ∧
      (weigh i x s).stations[i].signalTimer = some 0 ∧
      (weigh i x s).stations[i].settings = s.stations[i].settings ∧
      ∀ j : Fin 4, j ≠ i → (weigh i x s).stations[j] = s.stations[j] := by
  have stands := weigh_stands i s x
  rw [stands.filter, stands.signalTimer, stands.settings, setStation_get]
  exact ⟨rfl, rfl, rfl, fun j hj => (stands.others j hj).trans (setStation_get_other _ _ _ hj)⟩

/-- What a valid word leaves of the station: the sample joins its history, which the restart of NOSIGNAL has emptied. -/
theorem takeSample_joins (hoff : s.stations[i].state ≠ .off)
    (hauto : s.stations[i].state = .noSignal → s.stations[i].settings.autoRestart = true) :
    (takeSample i x s).stations[i].filter = pushNewest s.stations[i].settings.w
        (if s.stations[i].state = .noSignal then [] else s.stations[i].filter) x ∧
      (takeSample i x s).stations[i].signalTimer = some 0 ∧
      (takeSample i x s).stations[i].settings = s.stations[i].settings ∧
      ∀ j : Fin 4, j ≠ i → (takeSample i x s).stations[j] = s.stations[j] := by
  by_cases silent : s.stations[i].state = .noSignal
  · have station : (restartStation i s).stations[i] = { s.stations[i].restart with signalTimer := some 0 } :=
      setStation_get _ i _
    obtain ⟨filter, timer, settings, others⟩ := weigh_joins i x (restartStation i s)
    rw [takeSample_noSignal silent, if_pos (hauto silent), if_pos silent, filter, settings, station]
    exact ⟨rfl, timer, rfl, fun j hj => (others j hj).trans (setStation_get_other s i _ hj)⟩
  · rw [takeSample_weighs hoff silent, if_neg silent]
    exact weigh_joins i x s

/-- A sample writes the stations, what is sent and the slots, and nothing else. -/
theorem takeSample_frame (i : Fin 4) (x : Int) (s : State) : takeSample i x s = { s with
    stations := (takeSample i x s).stations, transit := (takeSample i x s).transit
    link := { s.link with slots := (takeSample i x s).link.slots } } := by
  have link : (takeSample i x s).link = { s.link with slots := (takeSample i x s).link.slots } := by
    apply Link.ext <;> simp
  apply State.ext <;> simp [← link]

end

/-- Settles O13: parity, the history, the weight of a history, and the two kinds of word. -/
theorem sampleWordJoinsTheFilter : Obligations.SampleWordJoinsTheFilter := by
  unfold Obligations.SampleWordJoinsTheFilter
  refine ⟨sampleValid_iff, fun n l x => ⟨pushNewest_of_lt x, pushNewest_of_full x⟩, fun st x => ⟨rfl, rfl⟩,
    fun st h => ?_, fun s i w hp => ⟨fun ignored => ?_, fun hv hoff hauto => ?_⟩⟩
  · obtain ⟨filtered, weight⟩ := Station.grams_roundsTo h
    exact ⟨st.filtered, st.grams + st.zt, filtered, weight, (add_sub_cancel_right _ _).symm⟩
  · by_cases hv : sampleValid w = true
    · rw [exec_sampleWord_valid hp hv]
      rcases ignored with invalid | off | ⟨silent, noAuto⟩
      · exact absurd hv (by simp [invalid])
      · rw [takeSample_off off]
      · rw [takeSample_noSignal silent, if_neg (Bool.eq_false_iff.mp noAuto)]
    · exact exec_sampleWord_invalid hp (by simpa using hv)
  · obtain ⟨filter, timer, settings, others⟩ := takeSample_joins hoff hauto
    exact ⟨_, exec_sampleWord_valid hp hv, filter, timer, settings, others, takeSample_frame i _ s⟩

end Sys2Proof.Machine
end

section
/-! PROOF. Stations leave their cycle for OVERLOAD and NOSIGNAL, and come back (R8, R9, R13, R19, R26, R27). -/

namespace Sys2Proof.Machine

section
variable {s : State} {i : Fin 4} {w : SampleWord}

/-! ### NOSIGNAL (R8, R9) -/

/-- A restart of a station whose role is not OFF puts it in a state that is weighed (R9). -/
theorem reentry_weighs {r : Role} (h : r ≠ .off) : reentry r ≠ .off ∧ reentry r ≠ .noSignal := by
  cases r <;> simp_all [reentry]

theorem exec_signalTimerExpiry (hp : s.powered = true) : exec (.signalTimerExpiry i) s =
    if s.stations[i].state = .off ∨ s.stations[i].state = .noSignal then .next s else .next (loseSignal i s) := by
  refine (onPower_powered hp _).trans ?_
  unfold takeSignalExpiry
  cases s.stations[i].state <;> rfl

theorem loseSignal_eq : loseSignal i s = State.notify (State.slotArrival
    { s with
      stations := s.stations.set i { s.stations[i] with
        settled := false, outOfRange := false, overloadReturn := false, disturbed := false, state := .noSignal
        signalTimer := none }
      transit := s.transit ++ (if s.stations[i].settings.role = .feed then [.leaveReport] else []) }
    (.capture i) .gone none) (.signalLost i) := by
  unfold loseSignal captureGone reportLeft
  dsimp only
  simp only [beq_iff_eq]
  split <;> simp [State.setStation, State.send, -Fin.getElem_fin]

end

/-- Settles O16: OVERLOAD entered and left, the restart out of NOSIGNAL, and the signal timer's expiry. -/
theorem stationsLeaveTheirCycle : Obligations.StationsLeaveTheirCycle := by
  unfold Obligations.StationsLeaveTheirCycle
  refine ⟨fun s i w hp hv hoff hsilent hover => ?_, fun s i w hp hv hover => ?_,
    fun s i w hp hv hsilent hrole hauto => ?_, fun s i hp => ?_⟩
  · intro st hq
    rw [exec_sampleWord_weighs hp hv hoff hsilent, weigh_outOfRange ((outOfRange_iff _ _).mpr hq), if_neg hover,
      enterOverload_setStation]
    rfl
  · have weighs := exec_sampleWord_weighs (i := i) hp hv (by rw [hover]; decide) (by rw [hover]; decide)
    refine ⟨fun hq => ?_, fun upper lower => ?_⟩
    · rw [weighs, weigh_outOfRange ((outOfRange_iff _ _).mpr hq), if_pos hover]
      rfl
    · rw [weighs, weigh_inRange ((outOfRange_eq_false_iff _ _).mpr ⟨upper, lower⟩), if_pos hover, leaveOverload_setStation]
      rfl
  · have taken : takeSample i w.count.toInt s = takeSample i w.count.toInt (restartStation i s) := by
      have state : (restartStation i s).stations[i].state = reentry s.stations[i].settings.role :=
        congrArg Station.state (setStation_get s i _)
      obtain ⟨notOff, notSilent⟩ := reentry_weighs hrole
      rw [takeSample_noSignal hsilent, if_pos hauto, takeSample_weighs (by rwa [state]) (by rwa [state])]
    have reentered : (if s.stations[i].settings.role = .feed then StationState.active else .starting) =
        reentry s.stations[i].settings.role := by
      cases h : s.stations[i].settings.role <;> simp_all [reentry]
    rw [exec_sampleWord_valid hp hv, taken, reentered]
    exact (exec_sampleWord_valid (s := restartStation i s) hp hv).symm
  · rw [exec_signalTimerExpiry hp, loseSignal_eq]

end Sys2Proof.Machine
end

section
/-! PROOF. An in-range weight of a FEED station (R13, R14, R26, R27). -/

namespace Sys2Proof.Machine

/-! ### The spread of a settle history (R14) -/

/-- The spread is at most `n` where no two values lie more than `n` apart. -/
theorem spread_le_iff {history : List Int} (n : Int) (h : history ≠ []) :
    spread history ≤ n ↔ ∀ x ∈ history, ∀ y ∈ history, x - y ≤ n := by
  obtain ⟨v, vs, rfl⟩ := List.exists_cons_of_ne_nil h
  obtain ⟨maxMem, maxBound⟩ := List.max?_eq_some_iff.mp (List.max?_cons' (x := v) (xs := vs))
  obtain ⟨minMem, minBound⟩ := List.min?_eq_some_iff.mp (List.min?_cons' (x := v) (xs := vs))
  have value : spread (v :: vs) = vs.foldl max v - vs.foldl min v := rfl
  constructor
  · intro within x hx y hy
    have := maxBound x hx
    have := minBound y hy
    omega
  · intro apart
    have := apart _ maxMem _ minMem
    omega

theorem judgeSettled_eq (p : StationSettings) (history : List Int) : p.judgeSettled history =
    decide (history.length = p.m ∧ spread history ≤ ((p.b * p.d : Nat) : Int)) := by
  rw [Bool.decide_and]
  rfl

theorem Station.judged_eq (st : Station) : st.judged = { st with
    settle := pushNewest st.settings.m st.settle st.q
    settled := decide ((pushNewest st.settings.m st.settle st.q).length = st.settings.m ∧
      spread (pushNewest st.settings.m st.settle st.q) ≤ ((st.settings.b * st.settings.d : Nat) : Int)) } := by
  rw [Station.judged, judgeSettled_eq]

theorem Station.enters_iff (st : Station) : st.enters = true ↔ st.judged.settled = true ∧ st.settled = false := by
  rw [Station.enters, Bool.and_eq_true, Bool.not_eq_true']

section
variable {s : State} {i : Fin 4}

/-! ### The weight handled, and a waiting capture answered (R26, R27) -/

theorem answerCapture_eq (u : State) : answerCapture i u =
    u.slotArrival (.capture i) .answer (some (.capture i u.stations[i].state u.stations[i].q u.stations[i].zt)) := rfl

theorem inRangeHandled_feed {st : Station} (h : st.settings.role = .feed) : inRangeHandled i (s.setStation i st) =
    (s.setStation i st.judged).send (.reading i st.q st.judged.settled st.settings.d) := by
  unfold inRangeHandled
  rw [setStation_get, setStation_setStation, h]
  rfl

theorem inRangeHandled_cycle {st : Station} (h : st.settings.role ≠ .feed) : inRangeHandled i (s.setStation i st) =
    loadCycle i st.enters (s.setStation i st.judged) := by
  unfold inRangeHandled
  rw [setStation_get, setStation_setStation, if_neg (by simpa using h)]

theorem inRange_setStation (st : Station) : inRange i (s.setStation i st) =
    if st.judged.settled = true ∧ st.settled = false then answerCapture i (inRangeHandled i (s.setStation i st))
    else inRangeHandled i (s.setStation i st) := by
  rw [inRange_eq, setStation_get]
  exact if_congr st.enters_iff rfl rfl

/-- A valid word whose weight is in range, in a state that takes it. -/
theorem exec_sampleWord_inRange {w : SampleWord} (hp : s.powered = true) (hv : sampleValid w = true)
    (hstate : s.stations[i].state ≠ .off ∧ s.stations[i].state ≠ .noSignal ∧ s.stations[i].state ≠ .overload)
    (hq : s.stations[i].settings.outOfRange (s.stations[i].sample w.count.toInt).q = false) :
    exec (.sampleWord i w) s = .next (inRange i (s.setStation i (s.stations[i].sampleInRange w.count.toInt))) := by
  obtain ⟨notOff, notSilent, notOver⟩ := hstate
  rw [exec_sampleWord_weighs hp hv notOff notSilent, weigh_inRange hq, if_neg notOver]

end

/-- Settles O14: the reading is delivered, and behind it a waiting capture answered. -/
theorem feedSampleDeliversAReading : Obligations.FeedSampleDeliversAReading := by
  unfold Obligations.FeedSampleDeliversAReading
  refine ⟨fun _ n h => spread_le_iff n h, fun s i w hp hv hrole hactive => ?_⟩
  intro st hq history settled after
  have judged : (s.stations[i].sampleInRange w.count.toInt).judged =
      { st with lastInRange := st.q, settle := history, settled := settled } := Station.judged_eq _
  have handled : inRangeHandled i (s.setStation i (s.stations[i].sampleInRange w.count.toInt)) = after := by
    rw [inRangeHandled_feed (st := s.stations[i].sampleInRange w.count.toInt) hrole, judged]
    rfl
  have station : after.stations[i] = { st with lastInRange := st.q, settle := history, settled := settled } :=
    setStation_get _ _ _
  have answered : answerCapture i after =
      after.slotArrival (.capture i) .answer (some (.capture i .active st.q st.zt)) := by
    rw [answerCapture_eq, station, ← hactive]
    rfl
  rw [exec_sampleWord_inRange hp hv (by rw [hactive]; decide) hq, inRange_setStation, handled, answered, judged]
  rfl

end Sys2Proof.Machine
end

section
/-! PROOF. The load cycle on an in-range weight of a CHEST or TARE station (R14, R15, R17, R18, R22, R23, R25, R27). -/

namespace Sys2Proof.Machine

section
variable {s : State} {i : Fin 4} (st : Station)

/-! ### Zero tracking (R15) -/

/-- An offset that takes in the whole of the grams leaves none. -/
theorem Station.grams_of_zeroed : ({ st with zt := st.zt + st.grams } : Station).grams = 0 := by
  simp [Station.grams, Station.filtered]

theorem quantize_zero (d : Nat) : quantize d 0 = 0 := by
  have nothing : (d : Int) / (2 * d) = 0 ∨ d = 0 := by
    rcases Nat.eq_zero_or_pos d with zero | pos
    · exact .inr zero
    · exact .inl (Int.ediv_eq_zero_of_lt (by omega) (by omega))
  simpa [quantize, roundDiv, roundNat] using nothing.symm

theorem Station.rezero_within : st.rezero (st.zt + st.grams) =
    { st with zt := st.zt + st.grams, q := 0, lastInRange := 0, settle := st.settle.map fun _ => 0 } := by
  have weightless : ({ st with zt := st.zt + st.grams } : Station).quantized = 0 :=
    (congrArg (quantize st.settings.d) st.grams_of_zeroed).trans (quantize_zero _)
  rw [Station.rezero, weightless]

theorem clampAbs_within {limit z : Int} (h : (z.natAbs : Int) ≤ limit) : clampAbs limit z = z := by
  unfold clampAbs
  split_ifs <;> omega

theorem trackZero_setStation : trackZero i (s.setStation i st) =
    if 2 * st.settings.d < st.q.natAbs then s.setStation i st
    else if ((st.zt + st.grams).natAbs : Int) ≤ st.settings.zeroLimit then
      s.setStation i { st with zt := st.zt + st.grams, q := 0, lastInRange := 0, settle := st.settle.map fun _ => 0 }
    else (s.setStation i (st.rezero (if 0 < st.zt + st.grams then st.settings.zeroLimit else -st.settings.zeroLimit))).notify
      (.zeroLimit i (st.zt + st.grams)) := by
  unfold trackZero
  dsimp only
  rw [setStation_get, setStation_setStation]
  refine if_congr (by omega) rfl ?_
  by_cases within : ((st.zt + st.grams).natAbs : Int) ≤ st.settings.zeroLimit
  · rw [if_neg (not_lt.mpr within), if_pos within, clampAbs_within within, st.rezero_within]
  · have beyond := not_le.mp within
    rw [if_pos beyond, if_neg within, clampAbs_beyond beyond (zeroLimit_nonneg _)]

/-! ### Decisions (R18, R22, R25) -/

theorem decideIfSettled_setStation : decideIfSettled i (s.setStation i st) =
    if st.settled = true ∧ st.outstanding = none then takeDecision i st.q (s.setStation i st) else s.setStation i st := by
  unfold decideIfSettled
  dsimp only
  rw [setStation_get]
  exact if_congr (by simp) rfl rfl

/-- A CHEST station decides on its weight; a TARE station sends a tare sample for its target (R18, R25). -/
theorem takeDecision_eq {q : Int} (h : s.stations[i].settings.role = .chest ∨ s.stations[i].settings.role = .tare) :
    takeDecision i q s = if s.stations[i].settings.role = .chest then decideChest i q s else { s with
      stations := s.stations.set i { s.stations[i] with
        state := .decided, decision := ⟨.appending, none, some q, none, none, none⟩
        outstanding := some (.sample s.stations[i].settings.tareTarget q) }
      transit := s.transit ++ [.tareSample i s.stations[i].settings.tareTarget q] } := by
  rcases h with chest | tare
  · rw [takeDecision, chest]
    rfl
  · rw [takeDecision, tare]
    dsimp only [decideTare, recordDecision, State.modifyStation]
    rw [setStation_get, setStation_setStation]
    rfl

theorem inDecided_setStation (entered : Bool) : inDecided i entered (s.setStation i st) =
    if st.settings.role = .chest then
      if st.decision.outcome = .light ∨ st.decision.outcome = .heavy then
        if entered then decideChest i st.q (s.setStation i st) else s.setStation i st
      else if st.decision.outcome = .accepted then watchDisturbance i (s.setStation i st)
      else s.setStation i st
    else s.setStation i st := by
  unfold inDecided
  dsimp only
  rw [setStation_get]
  refine if_congr beq_iff_eq ?_ rfl
  cases st.decision.outcome <;> rfl

/-- DISTURBED for a settled value away from the accepted gross, once in a cycle (R23). -/
theorem watchDisturbance_setStation {n chest serial : Nat} {gross : Int} {net : Option Int}
    (h : st.decision = ⟨.accepted, some n, some gross, net, some chest, some serial⟩) :
    watchDisturbance i (s.setStation i st) =
      if st.disturbed = false ∧ st.settled = true ∧ st.settings.b * st.settings.d < (st.q - gross).natAbs then
        (s.setStation i { st with disturbed := true }).notify (.disturbed i n chest serial gross st.q)
      else s.setStation i st := by
  unfold watchDisturbance
  dsimp only
  rw [setStation_get, setStation_setStation, h]
  exact if_congr (by simp [and_assoc]) rfl rfl

/-! ### The rows of the cycle (R17, R18) -/

section
variable {st} {entered : Bool}

theorem loadCycle_starting (h : st.state = .starting) : loadCycle i entered (s.setStation i st) =
    if st.settled = false then s.setStation i st
    else if st.q < st.settings.l then trackZero i (s.setStation i { st with state := .empty })
    else s.setStation i { st with state := .decided, decision := .blank } := by
  unfold loadCycle
  dsimp only
  rw [setStation_get, setStation_setStation, setStation_setStation, h]
  exact if_congr (by simp) rfl (if_congr decide_eq_true_iff rfl rfl)

theorem loadCycle_empty (h : st.state = .empty) : loadCycle i entered (s.setStation i st) =
    if st.q < st.settings.l then (if entered = true then trackZero i (s.setStation i st) else s.setStation i st)
    else decideIfSettled i (s.setStation i { st with state := .loaded, disturbed := false }) := by
  unfold loadCycle
  dsimp only
  rw [setStation_get, h]
  exact if_congr decide_eq_true_iff rfl (congrArg (decideIfSettled i) (setStation_setStation s i st _))

theorem loadCycle_loaded (h : st.state = .loaded) : loadCycle i entered (s.setStation i st) =
    if st.q < st.settings.l then s.setStation i { st with state := .empty } else decideIfSettled i (s.setStation i st) := by
  unfold loadCycle
  dsimp only
  rw [setStation_get, setStation_setStation, h]
  exact if_congr decide_eq_true_iff rfl rfl

theorem loadCycle_decided (h : st.state = .decided) : loadCycle i entered (s.setStation i st) =
    if st.q < st.settings.l then s.setStation i { st with state := .empty } else inDecided i entered (s.setStation i st) := by
  unfold loadCycle
  dsimp only
  rw [setStation_get, setStation_setStation, h]
  exact if_congr decide_eq_true_iff rfl rfl

end

end

/-- Settles O15: each row of the load cycle on the judged station, with zero tracking and the decision it leads to. -/
theorem loadCycleFollowsItsTable : Obligations.LoadCycleFollowsItsTable := by
  unfold Obligations.LoadCycleFollowsItsTable
  intro s i w hp hv hrole st hq history settled enters judged put results limit intended clamped left tracked decided
    decidedIfSettled
  let z := s.stations[i].sampleInRange w.count.toInt
  have judgedEq : z.judged = judged := Station.judged_eq _
  have entersIff : z.enters = true ↔ enters := by rw [z.enters_iff, judgedEq]; rfl
  have notFeed : z.settings.role ≠ .feed := by
    intro feed
    rcases hrole with chest | tare
    · exact absurd (chest.symm.trans feed) (by decide)
    · exact absurd (tare.symm.trans feed) (by decide)
  have result {u : State}
      (hstate : s.stations[i].state ≠ .off ∧ s.stations[i].state ≠ .noSignal ∧ s.stations[i].state ≠ .overload)
      (h : loadCycle i z.enters (put judged) = u) : results u := by
    have handled : inRangeHandled i (s.setStation i z) = u := by
      rw [inRangeHandled_cycle notFeed, judgedEq]
      exact h
    refine (exec_sampleWord_inRange hp hv hstate hq).trans (congrArg Host.Outcome.next ?_)
    rw [inRange_setStation, handled, judgedEq]
    rfl
  have tracks : trackZero i (put { judged with state := .empty }) = tracked :=
    (trackZero_setStation { judged with state := .empty }).trans rfl
  have decides (x : Station) (hsettings : x.settings = st.settings) (hq : x.q = st.q) (hsettled : x.settled = settled) :
      decideIfSettled i (put x) = decidedIfSettled x := by
    have role : (put x).stations[i].settings = st.settings := (congrArg _ (setStation_get s i x)).trans hsettings
    have taken : takeDecision i st.q (put x) = decided (put x) := by
      rw [takeDecision_eq (by rwa [role]), role]
    rw [decideIfSettled_setStation, hsettled, hq, taken]
  refine ⟨fun starting => ?_, fun empty => ?_, fun loaded => ?_, fun decided => ?_⟩
  · have row := loadCycle_starting (s := s) (i := i) (entered := z.enters) (st := judged) starting
    have result {u : State} := @result u (by rw [starting]; decide)
    exact ⟨fun unsettled => result (row.trans (if_pos unsettled)),
      fun hsettled below => result (row.trans ((if_neg (by simp [judged, hsettled])).trans ((if_pos below).trans tracks))),
      fun hsettled above => result (row.trans ((if_neg (by simp [judged, hsettled])).trans (if_neg (not_lt.mpr above))))⟩
  · have row := loadCycle_empty (s := s) (i := i) (entered := z.enters) (st := judged) empty
    have result {u : State} := @result u (by rw [empty]; decide)
    have same : ({ judged with state := .empty } : Station) = judged := by rw [← empty]; rfl
    rw [same] at tracks
    exact ⟨fun below enter => result (row.trans ((if_pos below).trans ((if_pos (entersIff.mpr enter)).trans tracks))),
      fun below stays => result (row.trans ((if_pos below).trans (if_neg (mt entersIff.mp stays)))),
      fun above => result (row.trans ((if_neg (not_lt.mpr above)).trans (decides _ rfl rfl rfl)))⟩
  · have row := loadCycle_loaded (s := s) (i := i) (entered := z.enters) (st := judged) loaded
    have result {u : State} := @result u (by rw [loaded]; decide)
    exact ⟨fun below => result (row.trans (if_pos below)),
      fun above => result (row.trans ((if_neg (not_lt.mpr above)).trans (decides _ rfl rfl rfl)))⟩
  · have row := loadCycle_decided (s := s) (i := i) (entered := z.enters) (st := judged) decided
    have result {u : State} := @result u (by rw [decided]; decide)
    refine ⟨fun below => result (row.trans (if_pos below)), fun above => ?_⟩
    have row := row.trans ((if_neg (not_lt.mpr above)).trans (inDecided_setStation judged z.enters))
    refine ⟨fun chest again => result (row.trans ((if_pos chest).trans ((if_pos again).trans (if_congr entersIff rfl rfl)))),
      fun chest n number serial gross net record => ?_, fun stays => result (row.trans ?_)⟩
    · have outcome : judged.decision.outcome = .accepted := congrArg DecisionRecord.outcome record
      refine result (row.trans ((if_pos chest).trans ((if_neg (by simp [outcome])).trans ((if_pos outcome).trans ?_))))
      exact watchDisturbance_setStation judged record
    · rcases stays with tare | ⟨light, heavy, accepted⟩
      · exact if_neg (fun chest => absurd (tare.symm.trans chest) (by decide))
      · exact (if_congr Iff.rfl ((if_neg (not_or.mpr ⟨light, heavy⟩)).trans (if_neg accepted)) rfl).trans (ite_self _)

end Sys2Proof.Machine
end

section
/-! PROOF. A chest decision, and the answers to appends and tare samples (R20, R21, R24, R25). -/

namespace Sys2Proof.Machine

section
variable {s : State} {i : Fin 4} {q : Int}

/-! ### The comparison (R20) -/

theorem currentInvoice_none (h : s.invoices.queues[i] = []) : currentInvoice i s = none := by
  rw [currentInvoice, h]
  rfl

theorem currentInvoice_head {n : Nat} {rest : List Nat} {v : Invoice} (h : s.invoices.queues[i] = n :: rest)
    (hv : s.invoices.find n = some v) : currentInvoice i s = some v := by
  rw [currentInvoice, h]
  exact hv

/-- The stricter class is the higher-numbered one (R20, R39). -/
theorem effectiveAllowance_eq (v : Invoice) : effectiveAllowance i v s =
    if s.stations[i].settings.cls.val < v.record.cls.val then s.packs.classes[v.record.cls]
    else s.packs.classes[s.stations[i].settings.cls] := by
  unfold effectiveAllowance stricter
  split <;> rfl

section
variable {a : Allowance} {d declared : Nat} {n : Int}

theorem compareNet_light (h : n < (declared : Int) - ((a.under * d : Nat) : Int)) : compareNet a d declared n = .light :=
  if_pos h

theorem compareNet_heavy (high : (declared : Int) + ((a.overBy * d : Nat) : Int) < n)
    (low : (declared : Int) - ((a.under * d : Nat) : Int) ≤ n) : compareNet a d declared n = .heavy :=
  (if_neg (not_lt.mpr low)).trans (if_pos high)

theorem compareNet_inside (low : (declared : Int) - ((a.under * d : Nat) : Int) ≤ n)
    (high : n ≤ (declared : Int) + ((a.overBy * d : Nat) : Int)) : compareNet a d declared n = .inside :=
  (if_neg (not_lt.mpr low)).trans (if_neg (not_lt.mpr high))

end

/-! ### What each outcome does (R20, R21, R24) -/

theorem decideChest_noInvoice (h : currentInvoice i s = none) : decideChest i q s =
    (s.setStation i { s.stations[i] with
      state := .decided, decision := ⟨.noInvoice, none, some q, none, none, none⟩ }).notify
        (.chestDecided i none .noInvoice q none none none) := by
  rw [decideChest, h]
  rfl

/-- The comparison that a decision on the invoice `v` makes. -/
def netComparison (i : Fin 4) (q : Int) (v : Invoice) (s : State) : Comparison :=
  compareNet (effectiveAllowance i v s) s.stations[i].settings.d v.record.declaredNet (q - v.record.tare)

section
variable {v : Invoice}

theorem decideChest_light (hv : currentInvoice i s = some v) (h : netComparison i q v s = .light) : decideChest i q s =
    { s with
      stations := s.stations.set i { s.stations[i] with
        state := .decided
        decision := ⟨.light, some v.record.number, some q, some (q - v.record.tare), none, none⟩ }
      transit := s.transit ++ [.event (lightSource i) ⟨some i, some v.record.number, none⟩,
        .noticeOffer (.chestDecided i (some v.record.number) .light q (some (q - v.record.tare)) none none)] } := by
  rw [netComparison] at h
  rw [decideChest, hv]
  dsimp only
  rw [h]
  exact State.ext rfl (List.append_assoc _ _ _) rfl rfl rfl rfl rfl rfl rfl rfl rfl rfl rfl

theorem decideChest_heavy (hv : currentInvoice i s = some v) (h : netComparison i q v s = .heavy) : decideChest i q s =
    { s with
      stations := s.stations.set i { s.stations[i] with
        state := .decided
        decision := ⟨.heavy, some v.record.number, some q, some (q - v.record.tare), none, none⟩ }
      transit := s.transit ++ [.event (heavySource i) ⟨some i, some v.record.number, none⟩,
        .noticeOffer (.chestDecided i (some v.record.number) .heavy q (some (q - v.record.tare)) none none)] } := by
  rw [netComparison] at h
  rw [decideChest, hv]
  dsimp only
  rw [h]
  exact State.ext rfl (List.append_assoc _ _ _) rfl rfl rfl rfl rfl rfl rfl rfl rfl rfl rfl

theorem decideChest_inside (hv : currentInvoice i s = some v) (h : netComparison i q v s = .inside) : decideChest i q s =
    { s with
      stations := s.stations.set i { s.stations[i] with
        state := .decided
        decision := ⟨.appending, some v.record.number, some q, some (q - v.record.tare), none, none⟩
        outstanding := some (.append v.record.number q (q - v.record.tare)) }
      transit := s.transit ++ [.append i v.record.number q (q - v.record.tare)] } := by
  rw [netComparison] at h
  rw [decideChest, hv]
  dsimp only
  rw [h]
  dsimp only [recordDecision, State.modifyStation]
  rw [setStation_get, setStation_setStation]
  rfl

end

/-! ### Answers (R21, R25) -/

theorem exec_appendAnswer (hp : s.powered = true) {n : Nat} {gross net : Int}
    (h : s.stations[i].outstanding = some (.append n gross net)) (a : AppendAnswer) :
    exec (.appendAnswer i a) s = .next (notifyDecision i (answeredRecord n gross net a)
      ((s.taken (.appendAnswer i a)).setStation i { s.stations[i] with
        outstanding := none, decision := answeredRecord n gross net a })) := by
  have outstanding : (s.taken (.appendAnswer i a)).stations[i].outstanding = some (.append n gross net) := h
  show execAppendAnswer i a s = _
  rw [execAppendAnswer, onPower_powered hp, takeAppendAnswer, outstanding]
  rfl

theorem exec_tareAnswer (hp : s.powered = true) {type : Fin 8} {gross : Int}
    (h : s.stations[i].outstanding = some (.sample type gross)) (t : Fin 8) (took : Bool) :
    exec (.tareAnswer i t took) s = .next (((s.taken (.tareAnswer i t took)).setStation i { s.stations[i] with
      outstanding := none
      decision := ⟨if took then .tareTaken else .tareReject, none, some gross, none, none, none⟩ }).notify
        (.tareDecided i t (if took then .tareTaken else .tareReject) gross)) := by
  have outstanding : (s.taken (.tareAnswer i t took)).stations[i].outstanding = some (.sample type gross) := h
  show execTareAnswer i t took s = _
  rw [execTareAnswer, onPower_powered hp, takeTareAnswer, outstanding]
  rfl

end

/-- Settles O17: the net against the bounds of the stricter class, and what each outcome does. -/
theorem chestDecisionComparesTheNet : Obligations.ChestDecisionComparesTheNet := by
  unfold Obligations.ChestDecisionComparesTheNet
  intro s i q st
  refine ⟨fun empty => decideChest_noInvoice (currentInvoice_none empty), fun n rest v queue hv => ?_⟩
  have current : currentInvoice i s = some v := currentInvoice_head queue hv
  obtain rfl : v.record.number = n := InvoiceTable.number_of_find hv
  intro net allowed low high
  have effective : effectiveAllowance i v s = allowed := effectiveAllowance_eq v
  have comparison : netComparison i q v s = compareNet allowed st.settings.d v.record.declaredNet net := by
    rw [netComparison, effective]
  exact ⟨fun below => decideChest_light current (comparison.trans (compareNet_light below)),
    fun above within => decideChest_heavy current (comparison.trans (compareNet_heavy above within)),
    fun lower upper => decideChest_inside current (comparison.trans (compareNet_inside lower upper))⟩

/-- Settles O18: each answer recorded and reported, in every state of the station. -/
theorem answersAreRecorded : Obligations.AnswersAreRecorded := by
  unfold Obligations.AnswersAreRecorded
  intro s i hp
  exact ⟨fun n gross net h => ⟨fun chest serial => exec_appendAnswer hp h (.accepted chest serial),
      exec_appendAnswer hp h .surplus⟩,
    fun type gross took t h => exec_tareAnswer hp h t took⟩

end Sys2Proof.Machine
end
